-- ==== Sys2Proof/Word.lean ====
section
/-! DEFINITION. The fixed-width words the manual names: a byte of a telegram or of the configuration image,
the 16-bit belt count, and the 32-bit counters of the blocks. -/

namespace Sys2Proof

/-- One byte of a telegram, of a reader report or of the configuration image (chapter 11). -/
abbrev Byte := BitVec 8

/-- A 16-bit value that wraps: an encoder count (R6), a local number (R17), a sequence number (R152). -/
abbrev Count := BitVec 16

/-- A counter of a block's table of counters: 32 bits wide, it wraps (00_scope.md 4.2). -/
abbrev Counter := BitVec 32

end Sys2Proof
end

