-- ==== Sys2Proof/Config.lean ====
section
/-! DEFINITION. What the part fixes (capacities, codes of its identity) and the values the manual leaves
open. The installation's own configuration image is not here: it is read at START and held in State. -/

namespace Sys2Proof.Config

/-- R18: the tracking list holds at most 24 records. -/
def maxRecords : Nat := 24
/-- R21: the feed hold is asserted when an added record makes the list hold this many. -/
def feedHoldAt : Nat := 22
/-- R21: the feed hold is released when a removal leaves this many or fewer. -/
def feedReleaseAt : Nat := 18
/-- R24: the expectation list holds at most 16 expectations. -/
def maxExpectations : Nat := 16
/-- R16: a record holds at most two tags. -/
def maxRecordTags : Nat := 2
/-- R9: a speed window counts at most 4,095 pulses. -/
def maxWindowCount : Nat := 4095
/-- R62: the tag table holds at most 3,072 entries. -/
def maxTagEntries : Nat := 3072
/-- R62: at most 512 entries are UNPLACED. -/
def maxUnplaced : Nat := 512
/-- R63: there are at most 1,024 cabin records. -/
def maxCabins : Nat := 1024
/-- R63: a cabin record holds at most 15 tag entries. -/
def maxPieces : Nat := 15
/-- R64: the deck map holds at most 32 ranges. -/
def maxRanges : Nat := 32
/-- R83: the hold queue holds at most 6 telegrams. -/
def maxHeld : Nat := 6
/-- R136: the peer outlet view holds at most 32 entries. -/
def maxView : Nat := 32
/-- R151: the stray log holds at most 64 entries. -/
def maxLog : Nat := 64
/-- R159: an entry of the stray log holds at most 3 claims. -/
def maxClaims : Nat := 3
/-- R174: the send queue holds at most 8 telegrams. -/
def maxQueue : Nat := 8
/-- R175: the eighth failed attempt gives a telegram up. -/
def maxAttempts : Nat := 8
/-- R169: an idle gap is 12 recessive bit times. -/
def gapBits : Nat := 12
/-- R171: an error mark holds the line dominant for 10 bit times. -/
def errorMarkBits : Nat := 10
/-- R167: a payload holds at most 32 bytes. -/
def maxPayload : Nat := 32
/-- R181: a DETACHED node rejoins after 96 idle gaps. -/
def rejoinGaps : Nat := 96
/-- R178: the health score saturates at 255. -/
def maxScore : Nat := 255
/-- 00_scope.md 4.2: tag numbers run to 9,999,999,999. -/
def maxTag : Nat := 9999999999
/-- 00_scope.md 4.2: cabin numbers run to 32,767. -/
def maxCabin : Nat := 32767
/-- 00_scope.md 4.2: deck numbers run to 20. -/
def maxDeck : Nat := 20
/-- 00_scope.md 4.2: node addresses run to 60. -/
def maxNode : Nat := 60
/-- 11.5: the configuration image is 140 bytes. -/
def imageBytes : Nat := 140
/-- R187: the vendor code. -/
def vendorCode : Nat := 0x47A1
/-- R187: the part number. -/
def partNumber : Nat := 340
/-- 11.3: revision B is carried as 0x42. -/
def revision : Nat := 0x42
/-- R122: in PACED mode passes start every 1,000 ms. -/
def pacePeriodMs : Nat := 1000

/-- R12: an eye filter takes a new level after 20 consecutive opposite samples. -/
def eyeHold : Nat := 20
/-- R15: a fault filter takes a new level after 200. -/
def faultHold : Nat := 200
/-- R50: the measurement count does not pass 65,535. -/
def maxTicks : Nat := 65535

/-- FREE VALUE. The initial level of a filter whose first samples (20 of an eye, 200 of a fault input) are not all alike:
R13 and R15 have them give it, and do not say how. Nothing constrains it (notes/assumptions/38.md). -/
opaque mixedInitialLevel : List Bool → Bool

/-- FREE VALUE. The subject word of a telegram whose payload is too short to hold the field that R182 takes
the word from (class code, payload). R182 applies acceptance before R183 checks the length, and states no
word for such a telegram. Nothing constrains it (notes/assumptions/9.md). -/
opaque shortSubject : Byte → List Byte → BitVec 16

end Sys2Proof.Config
end

