-- ==== Sys2Proof/Syntax.lean ====
section
/-! DEFINITION. The commands the node takes: one constructor per row of spec/opcode_table.json. The table
gives its rows no bits; the operands are those the row's rule names. -/

namespace Sys2Proof

/-- The four outlet positions of a node (R2). -/
inductive OutletNo where
  | o1 | o2 | o3 | o4
deriving DecidableEq, Repr

/-- What the HLC passes on with a taken telegram's payload (R183): the key (urgency, sender), the
destination and the time, in milliseconds, at which it was taken. The encoder count of R183 is State's. With them what the line
bore at the telegram's end, from which the next idle gap is counted (R169): its check value, and whether the confirm bit was
driven dominant by another station. -/
structure Rx where
  urgency     : BitVec 3
  sender      : BitVec 6
  destination : Byte
  time        : Nat
  check       : BitVec 16
  confirmed   : Bool
deriving DecidableEq, Repr

/-- The commands of the node. A command of an eye, a fault input or the reader line carries the samples of its line taken
since the last command of that line, the sample of its event last (notes/assumptions/37.md): true for a beam interrupted, a
fault contact closed or a line high. A command of the hall line that is no telegram carries the line's bits in the same way,
true for a dominant one (notes/assumptions/47.md). A telegram command is one telegram received without error (R173), with the
payload bytes of 11.2; a query command carries the 5-byte argument of 11.2; a point command names the record
(and outlet) whose registered point is taken (R7). -/
inductive Instr where
  -- power and start
  | powerOn
  | startComplete (straps : BitVec 6) (image : List Byte)
  | powerLoss
  | retentionLow
  -- belt, eyes and points
  | encoderPulse
  | speedWindowEnd
  | inductionBlockedEdge (samples : List Bool)
  | inductionClearedEdge (samples : List Bool)
  | handoffEyeBlockedEdge (samples : List Bool)
  | spanPoint (record : Count)
  | windowEndPoint (record : Count)
  | expiryPoint (node : Nat) (bag : Count)
  | closePoint (record : Count)
  | armPoint (record : Count) (outlet : OutletNo)
  | firePoint (record : Count)
  | deadlinePoint (record : Count)
  | strokeTimerExpiry (outlet : OutletNo)
  | exitEyeBlockedEdge (outlet : OutletNo) (samples : List Bool)
  -- outlets
  | actuatorFaultChange (outlet : OutletNo) (samples : List Bool)
  | gaugeConversionEnd (codes : List (BitVec 10))
  | gaugePassStart
  | refreshTimerExpiry
  | viewExpiry (peer deck : Nat) (time : Nat)
  -- reader line
  | framingError (line : List Bool)
  | readerBreak (line : List Bool)
  | report (line : List Bool)
  | rateMeasurement (line : List Bool)
  | rateOverflow (line : List Bool)
  -- timers and long operations
  | claimWindowEnd (sequence : Count)
  | joinTimerExpiry
  | sweepExamination
  | purgeComplete
  -- hall line transport
  | attemptStart (line : List Bool := [])
  | attemptEnd (line : List Bool)
  | receiveError (line : List Bool)
  | detachment (line : List Bool := [])
  | rejoin (line : List Bool := [])
  | telegramDiscarded (classCode : Byte) (rx : Rx) (payload : List Byte)
  -- telegrams
  | handoff (rx : Rx) (payload : List Byte)
  | manifest (rx : Rx) (payload : List Byte)
  | manifestWithdraw (rx : Rx) (payload : List Byte)
  | deckMap (rx : Rx) (payload : List Byte)
  | delivered (rx : Rx) (payload : List Byte)
  | purge (rx : Rx) (payload : List Byte)
  | outletState (rx : Rx) (payload : List Byte)
  | deckClose (rx : Rx) (payload : List Byte)
  | deckOpen (rx : Rx) (payload : List Byte)
  | outletRestore (rx : Rx) (payload : List Byte)
  | strayCall (rx : Rx) (payload : List Byte)
  | claim (rx : Rx) (payload : List Byte)
  | lost (rx : Rx) (payload : List Byte)
  | misplaced (rx : Rx) (payload : List Byte)
  | reset (rx : Rx) (payload : List Byte)
  | standby (rx : Rx) (payload : List Byte)
  | wake (rx : Rx) (payload : List Byte)
  | hello (rx : Rx) (payload : List Byte)
  -- queries
  | identity (rx : Rx) (argument : BitVec 40)
  | outlet (rx : Rx) (argument : BitVec 40)
  | tag (rx : Rx) (argument : BitVec 40)
  | cabin (rx : Rx) (argument : BitVec 40)
  | counters (rx : Rx) (argument : BitVec 40)
  | strayLog (rx : Rx) (argument : BitVec 40)
  | map (rx : Rx) (argument : BitVec 40)
  | characterReceived (line : List Bool)
  | idleGap (line : List Bool := [])
  | queryKindUnknown (rx : Rx) (kind : Byte) (argument : BitVec 40)
deriving DecidableEq, Repr

end Sys2Proof
end

