-- ==== Sys2Proof/Machine/State.lean ====
section
/-! DEFINITION. The state of one VN340 node as plain data, block by block as 00_scope.md 2 lists them, with the
queue of commands that wait, and the state before the first power-on. -/

namespace Sys2Proof.Machine

/-! ## Values the blocks share -/

/-- The state held by Node Control (chapter 9). Before power-on the field reads START. -/
inductive NodeState where
  | start | configFault | joining | sorting | standbyPending | standby
deriving DecidableEq, Repr

/-- R146: the eight stray reasons. -/
inductive StrayReason where
  | tagSurplus | gap | lapLimit | tagConflict | mapConflict | deckClosed | duplicate | excess
deriving DecidableEq, Repr

/-- R16, R58: the read state of a record. -/
inductive ReadState where
  | windowOpen | read | noRead | notRead
deriving DecidableEq, Repr

/-- R2: the role of a fitted outlet. -/
inductive OutletRole where
  | stray
  | deck (d : Nat)
deriving DecidableEq, Repr

/-- R132: the summary of a DECK-role outlet. -/
inductive Summary where
  | openLow | openHigh | unavailable
deriving DecidableEq, Repr

/-- R71: the cause carried by a MISPLACED. -/
inductive MisplacedCause where
  | moved | withdrawn | remapped
deriving DecidableEq, Repr

/-- One value for each of the four outlet positions (R2). -/
structure PerOutlet (α : Type) where
  o1 : α
  o2 : α
  o3 : α
  o4 : α
deriving DecidableEq, Repr

/-! ## The frozen configuration image (R1, R2, R45, R182, R187) -/

/-- R2: the fields of one outlet position. -/
structure OutletConfig where
  fitted      : Bool
  role        : OutletRole
  centre      : Nat   -- D
  arm         : Nat   -- A
  leadMs      : Nat   -- T
  confirm     : Nat   -- W
  maxLength   : Nat
  longCapable : Bool
  strokeMs    : Nat   -- P
  fullLimit   : Nat
  shareLimit  : Nat
  clearLimit  : Nat
deriving DecidableEq, Repr

/-- R45: a fixed divider or AUTO. -/
inductive ReaderRate where
  | fixed (divider : Nat)
  | auto
deriving DecidableEq, Repr

/-- R122: the gauge mode. -/
inductive GaugeMode where
  | continuous | paced
deriving DecidableEq, Repr

/-- R182: one acceptance slot. -/
structure AcceptanceSlot where
  classValue   : Byte
  classMask    : Byte
  subjectValue : Byte
  subjectMask  : Byte
  accept       : Bool
deriving DecidableEq, Repr

/-- The configuration accepted at START with the node's address, frozen until the next power-up (R1, R187). -/
structure NodeConfig where
  address      : Nat
  digest       : BitVec 16
  lineRateKbit : Nat
  readerFitted : Bool
  readerRate   : ReaderRate
  downstream   : Nat
  lapOrigin    : Bool
  lapLimit     : Nat
  handoff      : Nat   -- H
  feed         : Nat   -- G
  scanTail     : Nat   -- Z
  lateSpan     : Nat   -- B
  tolerance    : Nat
  minLength    : Nat
  mergeLimit   : Nat
  averaging    : Nat   -- N of R120
  gaugeMode    : GaugeMode
  refreshSec   : Nat
  joinSec      : Nat
  claimMs      : Nat
  outlets      : PerOutlet OutletConfig
  slots        : List AcceptanceSlot
deriving DecidableEq, Repr

/-! ## The filters of the eyes and fault inputs (R12, R13, R15) -/

/-- R12, R13, R15: the filter of one input. A sample is true where the beam is interrupted or the fault contact closed,
and a filtered level is true for BLOCKED or ASSERTED. Until the filter has adopted its initial level it holds the samples
seen since START ended; from then on it holds the filtered level and the length of the present run of opposite samples. -/
inductive InputFilter where
  | adopting (samples : List Bool)
  | following (level : Bool) (run : Nat)
deriving DecidableEq, Repr

/-- R12, R14, R15: the filters of the node: those of an outlet that is not fitted do not run (R2). -/
structure InputFilters where
  induction : InputFilter
  handoff   : InputFilter
  exits     : PerOutlet InputFilter
  faults    : PerOutlet InputFilter
deriving DecidableEq, Repr

/-! ## Section Tracker (chapters 1 and 2) -/

/-- R16: the binding of a record. The upstream fields are present only when BOUND. -/
inductive Binding where
  | awaiting
  | bound (node : Nat) (bag : Count)
  | new
deriving DecidableEq, Repr

/-- R91: the phase of a commitment. -/
inductive Phase where
  | armed | fired
deriving DecidableEq, Repr

/-- R16: the commitment field of a bag record, kept by the DC's notices. -/
structure RecordCommitment where
  outlet   : OutletNo
  fire     : Count
  deadline : Count
  phase    : Phase
deriving DecidableEq, Repr

/-- R16: a bag record. -/
structure BagRecord where
  number     : Count
  leading    : Count
  length     : Option Nat
  binding    : Binding
  tags       : List Nat
  readState  : ReadState
  lap        : Nat
  deferred   : Bool
  missed     : Bool
  reason     : Option StrayReason
  commitment : Option RecordCommitment
deriving DecidableEq, Repr

/-- R23: an expectation; its expiry point lies feed + late span after the receipt count (R25). -/
structure Expectation where
  node     : Nat
  bag      : Count
  tags     : List Nat
  length   : Nat
  lap      : Nat
  deferred : Bool
  missed   : Bool
  reason   : Option StrayReason
  receipt  : Count
deriving DecidableEq, Repr

/-- R22: the passage open at the induction eye. -/
inductive Passage where
  | none
  | ofRecord (number : Count)
  | ignored
deriving DecidableEq, Repr

/-- R10, R40, R56: the counters of the ST. -/
structure StCounters where
  arrivals            : Counter
  overflowArrivals    : Counter
  withdrawn           : Counter
  diverted            : Counter
  handedOff           : Counter
  lost                : Counter
  abandoned           : Counter
  untracked           : Counter
  unmatchedTrailing   : Counter
  expectationOverflow : Counter
  expectationsLost    : Counter
  handoffsRefused     : Counter
  orphanedNotices     : Counter
  duplicateReads      : Counter
  surplusTags         : Counter
  speedOverrange      : Counter
deriving DecidableEq, Repr

/-- The Section Tracker. -/
structure SectionTracker where
  encoderCount : Count
  windowCount  : Nat
  speed        : Nat
  overrange    : Bool
  records      : List BagRecord
  expectations : List Expectation
  passage      : Passage
  nextNumber   : Count
  feedHold     : Bool
  counters     : StCounters
deriving DecidableEq, Repr

/-! ## Tag Read Port (chapter 3) -/

/-- R46: the rate state. -/
inductive RateState where
  | running | measuring
deriving DecidableEq, Repr

/-- R47, R48: the character receiver. HUNTING says whether the line has been high at the last sample, so that a low one
is the leading edge of a start bit; RECEIVING holds the samples since that edge, true for a high line, oldest first; after
a break the receiver waits for the line to be high. -/
inductive Receiver where
  | hunting (seenHigh : Bool)
  | receiving (line : List Bool)
  | afterBreak
deriving DecidableEq, Repr

/-- R49: the timing of a rate mark: the measurement count M and the falling edges seen, the first included. -/
structure Timing where
  ticks : Nat
  falls : Nat
deriving DecidableEq, Repr

/-- R49, R50: the measurement in progress: the line at the last tick in MEASURING, if there was one, and the timing, if the
first falling edge has come. -/
structure Measurement where
  last   : Option Bool
  timing : Option Timing
deriving DecidableEq, Repr

/-- R54: one entry of the window list with its close point, if registered. -/
structure ScanWindow where
  record : Count
  close  : Option Count
deriving DecidableEq, Repr

/-- R60: the counters of the TRP. -/
structure TrpCounters where
  framingErrors    : Counter
  breaks           : Counter
  validReports     : Counter
  readErrors       : Counter
  boundReads       : Counter
  orphanReads      : Counter
  boundBreaks      : Counter
  orphanBreaks     : Counter
  rateMeasurements : Counter
  rateOverflows    : Counter
  remeasurements   : Counter
deriving DecidableEq, Repr

/-- The Tag Read Port. `assembly` holds the characters since the report mark (R52). -/
structure TagReadPort where
  rateState    : RateState
  divider      : Nat
  rateOverflow : Bool
  measurement  : Measurement
  receiver     : Receiver
  framingRun   : Nat
  assembly     : Option (List Byte)
  windows      : List ScanWindow
  counters     : TrpCounters
deriving DecidableEq, Repr

/-! ## Manifest Store (chapter 4) -/

/-- R62: the placement of a tag entry. -/
inductive Placement where
  | placed | unplaced
deriving DecidableEq, Repr

/-- R62: the delivered mark of a tag entry. -/
inductive DeliveredMark where
  | none
  | self (outlet : OutletNo) (deck : Nat)
  | peer (node : Nat)
deriving DecidableEq, Repr

/-- R62: a tag entry. -/
structure TagEntry where
  tag       : Nat
  cabin     : Nat
  pieces    : Nat
  oversize  : Bool
  placement : Placement
  mark      : DeliveredMark
  strayed   : Bool
deriving DecidableEq, Repr

/-- R63: a cabin record; its state is `CabinRecord.complete` of Flags. -/
structure CabinRecord where
  cabin     : Nat
  expected  : Nat
  delivered : Nat
deriving DecidableEq, Repr

/-- R64: the state of a range. -/
inductive RangeState where
  | clear | contested
deriving DecidableEq, Repr

/-- R64: a range of the deck map. -/
structure MapRange where
  first : Nat
  last  : Nat
  deck  : Nat
  state : RangeState
deriving DecidableEq, Repr

/-- The fields of a MANIFEST (11.2). -/
structure ManifestFields where
  tag      : Nat
  cabin    : Nat
  pieces   : Nat
  oversize : Bool
deriving DecidableEq, Repr

/-- The fields of a DECK-MAP (11.2). -/
structure DeckMapFields where
  first    : Nat
  last     : Nat
  deck     : Nat
  withdraw : Bool
deriving DecidableEq, Repr

/-- R83: a telegram of the hold queue, unjudged. -/
inductive HeldTelegram where
  | manifest (m : ManifestFields)
  | withdraw (tag : Nat)
  | deckMap (m : DeckMapFields)
deriving DecidableEq, Repr

/-- R90: the counters of the MS. -/
structure MsCounters where
  inserted            : Counter
  amendments          : Counter
  manifestsRefused    : Counter
  outsideSlice        : Counter
  tableFull           : Counter
  unplacedFull        : Counter
  cabinFull           : Counter
  piecesFull          : Counter
  withdrawals         : Counter
  misplacedReports    : Counter
  doubleDeliveries    : Counter
  deliveredUnrecorded : Counter
  deliveredRefused    : Counter
  mapRefused          : Counter
  mapFull             : Counter
  mapNotFound         : Counter
  sweepsCompleted     : Counter
  sweepRemovals       : Counter
  purgesCompleted     : Counter
  holdOverruns        : Counter
  heldDiscarded       : Counter
deriving DecidableEq, Repr

/-- The Manifest Store. The table is kept in rising order of tag and the cabin records in rising order of
cabin, so that equal stores are equal data; `sweep` is the tag last examined in a running sweep (R80). The
table, the cabin records, the map, the two indicators and the low mark lie on the retention supply (4.8). -/
structure ManifestStore where
  table         : List TagEntry
  cabins        : List CabinRecord
  map           : List MapRange
  purgePending  : Bool
  retentionLost : Bool
  lowMark       : Bool
  sweep         : Option Nat
  purgeRunning  : Bool
  hold          : List HeldTelegram
  counters      : MsCounters
deriving DecidableEq, Repr

/-! ## Divert Controller (chapter 5) -/

/-- R91: what the DC records of a commitment by kind: the tag used, its cabin and the deck for kind DECK. -/
inductive CommitmentKind where
  | deck (tag cabin deck : Nat)
  | stray
deriving DecidableEq, Repr

/-- R91: a commitment. -/
structure Commitment where
  record   : Count
  outlet   : OutletNo
  kind     : CommitmentKind
  lead     : Nat
  fire     : Count
  deadline : Count
  phase    : Phase
deriving DecidableEq, Repr

/-- R93: a registered arm point. -/
structure ArmPoint where
  record : Count
  outlet : OutletNo
  count  : Count
deriving DecidableEq, Repr

/-- R117: the counters of the DC. -/
structure DcCounters where
  evaluations     : Counter
  noLengthAtArm   : Counter
  deferrals       : Counter
  commitments     : Counter
  leadClamped     : Counter
  fires           : Counter
  pusherBusy      : Counter
  dropped         : Counter
  deliveries      : Counter
  strayDeliveries : Counter
  misses          : Counter
  unsolicited     : Counter
deriving DecidableEq, Repr

/-- The Divert Controller. A stroke timer is RUNNING when it holds the stroke time it was started for, in
milliseconds, and IDLE when it holds none (R92). -/
structure DivertController where
  commitments : List Commitment
  armPoints   : List ArmPoint
  strokes     : PerOutlet (Option Nat)
  counters    : DcCounters
deriving DecidableEq, Repr

/-! ## Outlet Monitor (chapter 6) -/

/-- R131: the state of an outlet. -/
inductive OutletState where
  | jammed | fault | closed | full | opened
deriving DecidableEq, Repr

/-- R119: an outlet record; the role is the configuration's. -/
structure OutletRecord where
  reading       : Nat
  firstPending  : Bool
  fullLatch     : Bool
  gaugeFault    : Bool
  actuatorFault : Bool
  misses        : Nat
  jam           : Bool
  state         : OutletState
  summary       : Summary
deriving DecidableEq, Repr

/-- R136: an entry of the peer outlet view; `lastHeard` is in milliseconds. -/
structure ViewEntry where
  peer      : Nat
  deck      : Nat
  summary   : Summary
  reading   : Nat
  lastHeard : Nat
deriving DecidableEq, Repr

/-- R145: the counters of the OM. -/
structure OmCounters where
  faultedReadings   : Counter
  jams              : Counter
  restores          : Counter
  restoresRefused   : Counter
  deckCloses        : Counter
  deckOpens         : Counter
  deckRefused       : Counter
  statesQueued      : Counter
  statesRefused     : Counter
  statesUnserved    : Counter
  viewReplacements  : Counter
  viewExpiries      : Counter
  viewWiped         : Counter
deriving DecidableEq, Repr

/-- The Outlet Monitor. `pass` is the outlet the converter is on, none between passes (R120); the two timers
hold the period they were last started for, in milliseconds, and none while stopped (R122, R134). The
closed-deck set is kept in rising order. -/
structure OutletMonitor where
  outlets      : PerOutlet OutletRecord
  pass         : Option OutletNo
  paceTimer    : Option Nat
  closed       : List Nat
  refreshTimer : Option Nat
  view         : List ViewEntry
  counters     : OmCounters
deriving DecidableEq, Repr

/-! ## Stray Unit (chapter 7) -/

/-- R151: a claim held by a stray-log entry, and the content of a CLAIM. -/
structure ClaimFields where
  node  : Nat
  tag   : Nat
  cabin : Nat
  deck  : Nat
deriving DecidableEq, Repr

/-- R151, R160: the window of an entry. -/
inductive ClaimWindow where
  | none | running | ended
deriving DecidableEq, Repr

/-- R159: the claim state of an entry. -/
inductive ClaimState where
  | notAsked | opened | claimed | disputed | unclaimed
deriving DecidableEq, Repr

/-- R151: the kind of an entry with the fields its kind has (reason, or report kind and details). -/
inductive LogKind where
  | inChute (reason : Option StrayReason)
  | lost (lastSection reporter : Nat)
  | misplaced (reporter oldDeck : Nat) (newCabin : Option Nat) (cause : MisplacedCause)
deriving DecidableEq, Repr

/-- R151: an entry of the stray log. -/
structure LogEntry where
  sequence : Count
  kind     : LogKind
  tags     : List Nat
  lap      : Option Nat
  length   : Option Nat
  claims   : List ClaimFields
  window   : ClaimWindow
  state    : ClaimState
deriving DecidableEq, Repr

/-- R160, R165: the registered end of a running claim window, on the main supply: the entry's sequence number
and the claim window it was started for, in milliseconds. -/
structure WindowTimer where
  sequence : Count
  periodMs : Nat
deriving DecidableEq, Repr

/-- R166: the counters of the SU. -/
structure SuCounters where
  strayEntries     : Counter
  reportsLogged    : Counter
  reportsRefused   : Counter
  logOverwrites    : Counter
  callsQueued      : Counter
  ownClaims        : Counter
  claimsTaken      : Counter
  claimsRefused    : Counter
  claimsUnknown    : Counter
  claimsUnasked    : Counter
  claimsMismatched : Counter
  claimsRepeated   : Counter
  claimsLate       : Counter
  claimsSurplus    : Counter
  disputes         : Counter
  endedUnclaimed   : Counter
  claimsWithoutLog : Counter
  reportsNotLogged : Counter
  callsTaken       : Counter
  callsRefused     : Counter
  claimsQueued     : Counter
deriving DecidableEq, Repr

/-- The Stray Unit. The ring and the next sequence number lie on the retention supply (R151). -/
structure StrayUnit where
  ring         : List LogEntry
  nextSequence : Count
  timers       : List WindowTimer
  counters     : SuCounters
deriving DecidableEq, Repr

/-! ## Hall Line Controller (chapter 8) -/

/-- R34: the content of a HANDOFF this node sends. -/
structure HandoffFields where
  bag       : Count
  tags      : List Nat
  length    : Nat
  readState : ReadState
  lap       : Nat
  deferred  : Bool
  missed    : Bool
  reason    : Option StrayReason
deriving DecidableEq, Repr

/-- R37: the content of a LOST. -/
structure LossReport where
  lastSection : Nat
  lap         : Nat
  reporter    : Nat
  tags        : List Nat
deriving DecidableEq, Repr

/-- R71: the content of a MISPLACED. -/
structure MisplacedReport where
  tag      : Nat
  oldDeck  : Nat
  cause    : MisplacedCause
  newCabin : Option Nat
deriving DecidableEq, Repr

/-- R112: the content of a DELIVERED. -/
structure DeliveredFields where
  tag    : Nat
  cabin  : Nat
  deck   : Nat
  node   : Nat
  outlet : Nat
deriving DecidableEq, Repr

/-- R191: the content of a HELLO. -/
structure HelloFields where
  address       : Nat
  state         : NodeState
  retentionLost : Bool
  digest        : BitVec 16
  decks         : List Nat
deriving DecidableEq, Repr

/-- R198: the condition of a REPLY. -/
inductive ReplyCondition where
  | done | notFound | busy | refused
deriving DecidableEq, Repr

/-- R168: the telegrams the node sends, by class, with their fields. A REPLY holds its data as the bytes of
R204; a DONE reply to COUNTERS is `counters`, which carries no kind and condition (R198). -/
inductive Body where
  | handoff (f : HandoffFields)
  | lost (f : LossReport)
  | misplaced (f : MisplacedReport)
  | strayCall (sequence : Count) (tags : List Nat)
  | claim (sequence : Count) (f : ClaimFields)
  | delivered (f : DeliveredFields)
  | outletState (deck : Nat) (summary : Summary) (reading : Nat)
  | reply (kind : Byte) (condition : ReplyCondition) (data : List Byte)
  | counters (values : List Counter)
  | hello (f : HelloFields)
deriving DecidableEq, Repr

/-- A telegram of the send queue: the sender is this node (R168). -/
structure Telegram where
  destination : Nat
  body        : Body
deriving DecidableEq, Repr

/-- R174: an entry of the send queue; `onLine` marks the entry of the attempt in progress. -/
structure SendEntry where
  telegram : Telegram
  attempts : Nat
  onLine   : Bool
deriving DecidableEq, Repr

/-- R179: the line state. -/
inductive LineState where
  | active | caution | mute | detached
deriving DecidableEq, Repr

/-- What this node last drove on the hall line: nothing, the confirm bit of a telegram it received (R172), an
error mark (R171), or its own telegram while its attempt is in progress, as the levels of its bits (R167). A level is true
where it is dominant. -/
inductive LineDrive where
  | quiet
  | confirm
  | errorMark
  | telegram (levels : List Bool)
deriving DecidableEq, Repr

/-- R167, R169 to R171: what the node has read on the hall line, bit by bit. BETWEEN telegrams it holds whether an idle gap
has passed since the line was last dominant, and the recessive bits read since that gap or that dominant bit. RECEIVING a
telegram it holds the bytes read and the bits read after them. ATTEMPTING one of its own it holds the bits read and the
levels it has still to send. -/
inductive LineWatch where
  | between (idle : Bool) (run : Nat)
  | receiving (bytes : List Byte) (bits : List Bool)
  | attempting (read left : List Bool)
deriving DecidableEq, Repr

/-- R186: the counters of the HLC. -/
structure HlcCounters where
  sent             : Counter
  transmitErrors   : Counter
  arbitrationLost  : Counter
  givenUp          : Counter
  superseded       : Counter
  displaced        : Counter
  clearedAtReset   : Counter
  receiveErrors    : Counter
  taken            : Counter
  filteredOut      : Counter
  malformed        : Counter
  unknownClass     : Counter
  detachments      : Counter
  rejoins          : Counter
deriving DecidableEq, Repr

/-- The Hall Line Controller; its acceptance slots are the configuration's. -/
structure HallLine where
  queue    : List SendEntry
  score    : Nat
  line     : LineState
  idleGaps : Nat
  drive    : LineDrive
  watch    : LineWatch
  counters : HlcCounters
deriving DecidableEq, Repr

/-! ## Node Control (chapters 9 and 10) -/

/-- R197, R198: the counters of Node Control. -/
structure NcCounters where
  joins            : Counter
  resets           : Counter
  standbys         : Counter
  wakes            : Counter
  commandsIgnored  : Counter
  hellosTaken      : Counter
  addressClashes   : Counter
  queriesAnswered  : Counter
  queriesRefused   : Counter
  queriesDiscarded : Counter
deriving DecidableEq, Repr

/-- Node Control. `powered` says whether main power is at its operating level; the join timer holds the join
period it was started for, in milliseconds, and none while it does not run (R190); the marks are those of
R202. -/
structure NodeControl where
  powered   : Bool
  state     : NodeState
  faultCode : Option Nat
  joinTimer : Option Nat
  logMark   : Bool
  mapMark   : Bool
  counters  : NcCounters
deriving DecidableEq, Repr

/-! ## The node -/

/-- One node and the commands that wait for it, first in, first out. -/
structure State where
  pending : List Instr
  config  : NodeConfig
  inputs  : InputFilters
  st      : SectionTracker
  trp     : TagReadPort
  ms      : ManifestStore
  dc      : DivertController
  om      : OutletMonitor
  su      : StrayUnit
  hlc     : HallLine
  nc      : NodeControl
deriving DecidableEq, Repr

/-- No command of this node ends in a fault: the manual gives every command of the table its effect in every
state, if only that the event cannot occur and nothing changes. The type has no value. -/
inductive Fault where
deriving DecidableEq, Repr

/-- The reasons for which a command is refused. -/
inductive Refusal where
  /-- Raised only by an arm of `exec` for a command without a meaning yet. No arm raises it. Safe: the machine
  stops where the hardware goes on. -/
  | notModelled (mnemonic : String)
deriving DecidableEq, Repr

/-! ## The state before the first power-on -/

/-- Every ST counter is 0 (R44). -/
def StCounters.zero : StCounters := ⟨0, 0, 0, 0, 0, 0, 0, 0, 0, 0, 0, 0, 0, 0, 0, 0⟩
/-- Every TRP counter is 0 (R60). -/
def TrpCounters.zero : TrpCounters := ⟨0, 0, 0, 0, 0, 0, 0, 0, 0, 0, 0⟩
/-- Every MS counter is 0 (R90). -/
def MsCounters.zero : MsCounters := ⟨0, 0, 0, 0, 0, 0, 0, 0, 0, 0, 0, 0, 0, 0, 0, 0, 0, 0, 0, 0, 0⟩
/-- Every DC counter is 0 (R116). -/
def DcCounters.zero : DcCounters := ⟨0, 0, 0, 0, 0, 0, 0, 0, 0, 0, 0, 0⟩
/-- Every OM counter is 0 (R144). -/
def OmCounters.zero : OmCounters := ⟨0, 0, 0, 0, 0, 0, 0, 0, 0, 0, 0, 0, 0⟩
/-- Every SU counter is 0 (R165). -/
def SuCounters.zero : SuCounters := ⟨0, 0, 0, 0, 0, 0, 0, 0, 0, 0, 0, 0, 0, 0, 0, 0, 0, 0, 0, 0, 0⟩
/-- Every HLC counter is 0 (R185). -/
def HlcCounters.zero : HlcCounters := ⟨0, 0, 0, 0, 0, 0, 0, 0, 0, 0, 0, 0, 0, 0⟩
/-- Every NC counter is 0 (R197, R201). -/
def NcCounters.zero : NcCounters := ⟨0, 0, 0, 0, 0, 0, 0, 0, 0, 0⟩

/-- An outlet position that is not fitted. DESIGN CHOICE: what the configuration reads as before a START has
accepted an image (notes/assumptions/2.md). -/
def OutletConfig.blank : OutletConfig :=
  { fitted := false, role := .stray, centre := 0, arm := 0, leadMs := 0, confirm := 0, maxLength := 0,
    longCapable := false, strokeMs := 0, fullLimit := 0, shareLimit := 0, clearLimit := 0 }

/-- The configuration before a START has accepted one. DESIGN CHOICE (notes/assumptions/2.md): no block runs
while it stands. -/
def NodeConfig.blank : NodeConfig :=
  { address := 0, digest := 0, lineRateKbit := 0, readerFitted := false, readerRate := .auto, downstream := 0,
    lapOrigin := false, lapLimit := 0, handoff := 0, feed := 0, scanTail := 0, lateSpan := 0, tolerance := 0,
    minLength := 0, mergeLimit := 0, averaging := 0, gaugeMode := .continuous, refreshSec := 0, joinSec := 0,
    claimMs := 0, outlets := ⟨.blank, .blank, .blank, .blank⟩, slots := [] }

/-- R13, R15: every filter as START ends: no sample has been taken. -/
def InputFilters.begin : InputFilters :=
  { induction := .adopting [], handoff := .adopting [],
    exits := ⟨.adopting [], .adopting [], .adopting [], .adopting []⟩,
    faults := ⟨.adopting [], .adopting [], .adopting [], .adopting []⟩ }

/-- R49: no tick has been taken in MEASURING. -/
def Measurement.idle : Measurement := { last := none, timing := none }

/-- R44, R6, R9: the ST at power-on. -/
def SectionTracker.atPowerOn : SectionTracker :=
  { encoderCount := 0, windowCount := 0, speed := 0, overrange := false, records := [],
    expectations := [], passage := .none, nextNumber := 0, feedHold := true, counters := .zero }

/-- R61: the TRP before START ends: the port does not run. The rate state, which no rule gives before then, stands at RUNNING
and the divider at 0 (DESIGN CHOICE, notes/assumptions/22.md). -/
def TagReadPort.atPowerOn : TagReadPort :=
  { rateState := .running, divider := 0, rateOverflow := false, measurement := .idle, receiver := .hunting false,
    framingRun := 0, assembly := none, windows := [], counters := .zero }

/-- The MS before the first power-on: empty stores, and the retention monitor's low mark set, so that the first
START takes the stores as lost. DESIGN CHOICE (notes/assumptions/1.md). -/
def ManifestStore.initial : ManifestStore :=
  { table := [], cabins := [], map := [], purgePending := false, retentionLost := false, lowMark := true,
    sweep := none, purgeRunning := false, hold := [], counters := .zero }

/-- R116: the DC at power-on. -/
def DivertController.atPowerOn : DivertController :=
  { commitments := [], armPoints := [], strokes := ⟨none, none, none, none⟩, counters := .zero }

/-- R123, R144: an outlet record at power-on, with the state and summary R131 and R132 derive from it. -/
def OutletRecord.atPowerOn : OutletRecord :=
  { reading := 255, firstPending := true, fullLatch := true, gaugeFault := false, actuatorFault := false,
    misses := 0, jam := false, state := .full, summary := .unavailable }

/-- R144: the OM at power-on. -/
def OutletMonitor.atPowerOn : OutletMonitor :=
  { outlets := ⟨.atPowerOn, .atPowerOn, .atPowerOn, .atPowerOn⟩, pass := none, paceTimer := none, closed := [],
    refreshTimer := none, view := [], counters := .zero }

/-- R165: the SU with an empty log and the numbering at 0. -/
def StrayUnit.initial : StrayUnit :=
  { ring := [], nextSequence := 0, timers := [], counters := .zero }

/-- R185: the HLC at power-on, with no bit of the line read (DESIGN CHOICE, notes/assumptions/48.md). -/
def HallLine.atPowerOn : HallLine :=
  { queue := [], score := 0, line := .active, idleGaps := 0, drive := .quiet, watch := .between false 0,
    counters := .zero }

/-- Node Control without main power. R202: both change marks are set at power-on. -/
def NodeControl.unpowered : NodeControl :=
  { powered := false, state := .start, faultCode := none, joinTimer := none, logMark := true, mapMark := true,
    counters := .zero }

/-- The machine before its first power-on: every block at its power-on values, no main power, no command
waiting (notes/assumptions/1.md says how a run starts from here). -/
def State.reset : State :=
  { pending := [], config := .blank, inputs := .begin, st := .atPowerOn, trp := .atPowerOn, ms := .initial,
    dc := .atPowerOn, om := .atPowerOn, su := .initial, hlc := .atPowerOn, nc := .unpowered }

end Sys2Proof.Machine
end

