-- ==== Sys2Proof/Machine/Operands.lean ====
section
/-! DEFINITION. What commands carry and what is computed from it: outlet positions, counts around the ring,
the belt arithmetic of a commitment, the payload layouts as the node reads them (chapter 11), and acceptance. -/

namespace Sys2Proof

/-- R2: outlets are numbered 1 to 4. -/
def OutletNo.number : OutletNo → Nat
  | .o1 => 1
  | .o2 => 2
  | .o3 => 3
  | .o4 => 4

/-- The outlet positions in order of outlet number. -/
def OutletNo.all : List OutletNo := [.o1, .o2, .o3, .o4]

/-- The outlet a number names, if it is 1 to 4. -/
def OutletNo.ofNat? : Nat → Option OutletNo
  | 1 => some .o1
  | 2 => some .o2
  | 3 => some .o3
  | 4 => some .o4
  | _ => none

end Sys2Proof

namespace Sys2Proof.Machine

/-- The value at one outlet position. -/
def PerOutlet.get {α : Type} (p : PerOutlet α) : OutletNo → α
  | .o1 => p.o1
  | .o2 => p.o2
  | .o3 => p.o3
  | .o4 => p.o4

/-- Replaces the value at one outlet position. -/
def PerOutlet.set {α : Type} (p : PerOutlet α) (k : OutletNo) (a : α) : PerOutlet α :=
  match k with
  | .o1 => { p with o1 := a }
  | .o2 => { p with o2 := a }
  | .o3 => { p with o3 := a }
  | .o4 => { p with o4 := a }

/-! ## The configuration, outlet by outlet (R2) -/

/-- The configuration of one outlet position. -/
def NodeConfig.outlet (c : NodeConfig) (k : OutletNo) : OutletConfig := c.outlets.get k

/-- The fitted outlets in order of outlet number. -/
def NodeConfig.fittedOutlets (c : NodeConfig) : List OutletNo :=
  OutletNo.all.filter fun k => (c.outlet k).fitted

/-- The deck of a fitted DECK-role outlet. -/
def OutletConfig.deckServed (o : OutletConfig) : Option Nat :=
  match o.fitted, o.role with
  | true, .deck d => some d
  | _, _ => none

/-- R62, R191: the served decks, in order of outlet number. -/
def NodeConfig.servedDecks (c : NodeConfig) : List Nat :=
  OutletNo.all.filterMap fun k => (c.outlet k).deckServed

/-- R62: a deck is served when a fitted outlet has role DECK with it. -/
def NodeConfig.serves (c : NodeConfig) (d : Nat) : Bool := c.servedDecks.contains d

/-- R150: the stray node has a fitted outlet of role STRAY. -/
def NodeConfig.isStrayNode (c : NodeConfig) : Bool :=
  c.fittedOutlets.any fun k => (c.outlet k).role == .stray

/-- R120: the lowest-numbered fitted outlet. -/
def NodeConfig.firstFitted (c : NodeConfig) : Option OutletNo := c.fittedOutlets.head?

/-- R120: the next fitted outlet of a pass after outlet k. -/
def NodeConfig.nextFitted (c : NodeConfig) (k : OutletNo) : Option OutletNo :=
  c.fittedOutlets.find? fun j => k.number < j.number

/-! ## Counts (R7) -/

/-- R7: the count has reached x when (count − x) mod 65,536 is less than 32,768. -/
def hasReached (count x : Count) : Bool := decide ((count - x).toNat < 32768)

/-- R19, R28: a record's span point. -/
def spanPointOf (c : NodeConfig) (leading : Count) : Count := leading + BitVec.ofNat 16 c.lateSpan

/-- R33: the start of a record's handoff window. -/
def windowStartOf (c : NodeConfig) (leading : Count) : Count :=
  leading + BitVec.ofNat 16 c.handoff - BitVec.ofNat 16 c.tolerance

/-- R19, R33: a record's window-end point. -/
def windowEndOf (c : NodeConfig) (leading : Count) : Count :=
  leading + BitVec.ofNat 16 (c.handoff + c.tolerance)

/-- R23: an expectation's expiry point. -/
def expiryPointOf (c : NodeConfig) (receipt : Count) : Count :=
  receipt + BitVec.ofNat 16 (c.feed + c.lateSpan)

/-- R54: a record's close point. -/
def closePointOf (c : NodeConfig) (leading : Count) (length : Nat) : Count :=
  leading + BitVec.ofNat 16 length + BitVec.ofNat 16 c.scanTail

/-- R93, R102: the arm count of a record for an outlet. -/
def armCountOf (o : OutletConfig) (leading : Count) : Count :=
  leading + BitVec.ofNat 16 o.centre - BitVec.ofNat 16 o.arm

/-- 2.4: two lengths are within tolerance when both are measured and they differ by no more than the length
tolerance; 0 stands for a length not measured. -/
def withinTolerance (tol a b : Nat) : Bool :=
  decide (a ≠ 0) && decide (b ≠ 0) && decide (a ≤ b + tol) && decide (b ≤ a + tol)

/-- 2.4: the length of a record for the tolerance test, 0 while it is absent. -/
def BagRecord.measured (r : BagRecord) : Nat := r.length.getD 0

/-! ## The lead and the fire count (R101, R102) -/

/-- R101, stage 1: the unclamped lead. -/
def unclampedLead (speed leadMs : Nat) : Nat := (speed * leadMs + 500) / 1000

/-- R101, stage 2: the lead never exceeds the arm distance. -/
def leadOf (o : OutletConfig) (speed : Nat) : Nat := min (unclampedLead speed o.leadMs) o.arm

/-- R102: the fire count. -/
def fireCountOf (o : OutletConfig) (leading : Count) (length lead : Nat) : Count :=
  leading + BitVec.ofNat 16 (o.centre + length / 2) - BitVec.ofNat 16 lead

/-- R102: the deadline. -/
def deadlineOf (o : OutletConfig) (fire : Count) : Count := fire + BitVec.ofNat 16 o.confirm

/-! ## Readings and rates -/

/-- R121: a conversion at a rail is faulted. -/
def railed (code : BitVec 10) : Bool := code == 0 || code == 1023

/-- R121: a reading is faulted when one of its conversions is. -/
def readingFaulted (codes : List (BitVec 10)) : Bool := codes.any railed

/-- R121: the reading from the conversions of a pass. -/
def readingOf (averaging : Nat) (codes : List (BitVec 10)) : Nat :=
  if readingFaulted codes then 255
  else (codes.foldl (fun n c => n + c.toNat) 0) / (4 * averaging)

/-- R49: the divider a measurement of M ticks gives. -/
def dividerOf (ticks : Nat) : Nat := max 1 (min 4095 ((ticks + 4) / 8))

/-- R52, 11.4: the codes of a reader report. -/
def reportMark : Byte := 0x02
/-- 11.4: the end mark. -/
def endMark : Byte := 0x03
/-- 11.4: a digit character. -/
def isDigitChar (c : Byte) : Bool := decide (0x30 ≤ c.toNat) && decide (c.toNat ≤ 0x39)
/-- 11.4: the digit a digit character stands for. -/
def digitOf (c : Byte) : Nat := c.toNat - 0x30

/-! ## Payload fields (11, R205) -/

/-- The byte at an offset of a payload, as a number. -/
def byteAt (p : List Byte) (i : Nat) : Nat := (p.getD i 0).toNat

/-- A two-byte field, most significant byte first. -/
def wordAt (p : List Byte) (i : Nat) : Nat := byteAt p i * 256 + byteAt p (i + 1)

/-- A five-byte field, most significant byte first. -/
def fiveAt (p : List Byte) (i : Nat) : Nat :=
  (((byteAt p i * 256 + byteAt p (i + 1)) * 256 + byteAt p (i + 2)) * 256 + byteAt p (i + 3)) * 256
    + byteAt p (i + 4)

/-- R205: a tag field above 9,999,999,999 is taken as tag 0. -/
def tagValue (n : Nat) : Nat := if Config.maxTag < n then 0 else n

/-- A tag field. -/
def tagAt (p : List Byte) (i : Nat) : Nat := tagValue (fiveAt p i)

/-- R205: a set-or-clear byte is read at the value 1; any other bits are ignored. -/
def flagAt (p : List Byte) (i : Nat) : Bool := (p.getD i 0).getLsbD 0

/-- 11.3: the stray reason codes a HANDOFF may carry: the outer absence is a code that is none of R146. -/
def reasonOfCode : Nat → Option (Option StrayReason)
  | 0 => some none
  | 1 => some (some .tagSurplus)
  | 2 => some (some .gap)
  | 3 => some (some .lapLimit)
  | 4 => some (some .tagConflict)
  | 5 => some (some .mapConflict)
  | 6 => some (some .deckClosed)
  | 7 => some (some .duplicate)
  | 8 => some (some .excess)
  | _ => none

/-- 11.3: the summary codes. -/
def summaryOfCode : Nat → Option Summary
  | 1 => some .openLow
  | 2 => some .openHigh
  | 3 => some .unavailable
  | _ => none

/-- 11.3: the MISPLACED cause codes. -/
def causeOfCode : Nat → Option MisplacedCause
  | 1 => some .moved
  | 2 => some .withdrawn
  | 3 => some .remapped
  | _ => none

/-- R23: a HANDOFF as read, before the ST's checks. -/
structure ReceivedHandoff where
  bag        : Count
  tagCount   : Nat
  tags       : List Nat
  length     : Nat
  readCode   : Nat
  lap        : Nat
  deferred   : Bool
  missed     : Bool
  reasonCode : Nat
deriving DecidableEq, Repr

/-- 11.2: the HANDOFF payload. R205: only as many tag slots are read as the tag count gives. -/
def readHandoff (p : List Byte) : ReceivedHandoff :=
  { bag := BitVec.ofNat 16 (wordAt p 0), tagCount := byteAt p 2,
    tags := [tagAt p 3, tagAt p 8].take (byteAt p 2), length := wordAt p 13, readCode := byteAt p 15,
    lap := byteAt p 16, deferred := (p.getD 17 0).getLsbD 0, missed := (p.getD 17 0).getLsbD 1,
    reasonCode := byteAt p 18 }

/-- 11.2: the MANIFEST payload. -/
def readManifest (p : List Byte) : ManifestFields :=
  { tag := tagAt p 0, cabin := wordAt p 5, pieces := byteAt p 7, oversize := flagAt p 8 }

/-- 11.2: the DECK-MAP payload. -/
def readDeckMap (p : List Byte) : DeckMapFields :=
  { first := wordAt p 0, last := wordAt p 2, deck := byteAt p 4, withdraw := flagAt p 5 }

/-- 11.2: the DELIVERED payload. -/
def readDelivered (p : List Byte) : DeliveredFields :=
  { tag := tagAt p 0, cabin := wordAt p 5, deck := byteAt p 7, node := byteAt p 8, outlet := byteAt p 9 }

/-- The tags of a telegram that carries n of them from an offset on. -/
def tagsAt (p : List Byte) : Nat → Nat → List Nat
  | _, 0 => []
  | i, n + 1 => tagAt p i :: tagsAt p (i + 5) n

/-- 11.2: the LOST payload. -/
def readLost (p : List Byte) : LossReport :=
  { lastSection := byteAt p 0, lap := byteAt p 1, reporter := byteAt p 2, tags := tagsAt p 3 ((p.length - 3) / 5) }

/-- R154: a MISPLACED as read: an unknown cause code reads as no cause, a new cabin of 0 as absent. -/
structure ReceivedMisplaced where
  tag      : Nat
  oldDeck  : Nat
  cause    : Option MisplacedCause
  newCabin : Option Nat
deriving DecidableEq, Repr

/-- 11.2: the MISPLACED payload. -/
def readMisplaced (p : List Byte) : ReceivedMisplaced :=
  { tag := tagAt p 0, oldDeck := byteAt p 5, cause := causeOfCode (byteAt p 6),
    newCabin := if wordAt p 7 = 0 then none else some (wordAt p 7) }

/-- 11.2: the sequence number of a STRAY-CALL or CLAIM. -/
def readSequence (p : List Byte) : Count := BitVec.ofNat 16 (wordAt p 0)

/-- 11.2: the tags of a STRAY-CALL. -/
def readCallTags (p : List Byte) : List Nat := tagsAt p 2 ((p.length - 2) / 5)

/-- 11.2: the CLAIM payload after its sequence number. -/
def readClaim (p : List Byte) : ClaimFields :=
  { tag := tagAt p 2, cabin := wordAt p 7, deck := byteAt p 9, node := byteAt p 10 }

/-- 11.2: the bytes of a QUERY argument, most significant first. -/
def argumentBytes (a : BitVec 40) : List Byte :=
  [a.extractLsb' 32 8, a.extractLsb' 24 8, a.extractLsb' 16 8, a.extractLsb' 8 8, a.extractLsb' 0 8]

/-- 11.2: a one-byte argument lies in the low byte. -/
def argumentLow (a : BitVec 40) : Nat := (a.extractLsb' 0 8).toNat
/-- 11.2: of two one-byte arguments the first lies in the byte above the low one. -/
def argumentHigh (a : BitVec 40) : Nat := (a.extractLsb' 8 8).toNat
/-- 11.2: a cabin argument lies in the low two bytes. -/
def argumentCabin (a : BitVec 40) : Nat := (a.extractLsb' 0 16).toNat

/-! ## Classes (11.1) -/

/-- 11.1: the class codes. -/
def classDeckClose : Byte := 0x01
def classDeckOpen : Byte := 0x02
def classPurge : Byte := 0x03
def classReset : Byte := 0x04
def classStandby : Byte := 0x05
def classWake : Byte := 0x06
def classOutletRestore : Byte := 0x07
def classManifest : Byte := 0x10
def classManifestWithdraw : Byte := 0x11
def classDeckMap : Byte := 0x12
def classHandoff : Byte := 0x20
def classLost : Byte := 0x21
def classMisplaced : Byte := 0x22
def classDelivered : Byte := 0x23
def classOutletState : Byte := 0x30
def classStrayCall : Byte := 0x40
def classClaim : Byte := 0x41
def classQuery : Byte := 0x50
def classReply : Byte := 0x51
def classHello : Byte := 0x60

/-- 11.1: whether a payload length is one the class allows, none for an unknown class code. -/
def lengthAllowed (cls : Byte) (n : Nat) : Option Bool :=
  if cls = classDeckClose ∨ cls = classDeckOpen ∨ cls = classOutletRestore then some (n == 1)
  else if cls = classPurge ∨ cls = classReset ∨ cls = classStandby ∨ cls = classWake then some (n == 0)
  else if cls = classManifest ∨ cls = classMisplaced ∨ cls = classHello then some (n == 9)
  else if cls = classManifestWithdraw then some (n == 5)
  else if cls = classDeckMap ∨ cls = classQuery then some (n == 6)
  else if cls = classHandoff then some (n == 19)
  else if cls = classLost then some (n == 3 || n == 8 || n == 13)
  else if cls = classDelivered then some (n == 10)
  else if cls = classOutletState then some (n == 3)
  else if cls = classStrayCall then some (n == 2 || n == 7 || n == 12)
  else if cls = classClaim then some (n == 11)
  else if cls = classReply then some (decide (2 ≤ n) && decide (n ≤ 32))
  else none

/-! ## Acceptance (R182) -/

/-- The byte a subject word is taken from, or the free value of R182 where the payload is too short. -/
def subjectByte (cls : Byte) (p : List Byte) (i : Nat) : BitVec 16 :=
  match p[i]? with
  | some b => b.setWidth 16
  | none => Config.shortSubject cls p

/-- R182: the subject word of a telegram. -/
def subjectWord (cls : Byte) (rx : Rx) (p : List Byte) : BitVec 16 :=
  if cls = classDeckClose ∨ cls = classDeckOpen ∨ cls = classOutletState then subjectByte cls p 0
  else if cls = classDelivered then subjectByte cls p 7
  else if cls = classDeckMap then subjectByte cls p 4
  else if cls = classManifest then
    if p.length < 7 then Config.shortSubject cls p else BitVec.ofNat 16 (wordAt p 5 / 128)
  else if cls = classReset ∨ cls = classStandby ∨ cls = classWake ∨ cls = classOutletRestore ∨ cls = classHandoff
      ∨ cls = classClaim ∨ cls = classQuery ∨ cls = classReply then rx.destination.setWidth 16
  else 0

/-- R182: a slot matches on the class code and the subject word under its masks. -/
def AcceptanceSlot.matchesWord (a : AcceptanceSlot) (cls : Byte) (subject : BitVec 16) : Bool :=
  cls &&& a.classMask == a.classValue
    && subject &&& a.subjectMask.setWidth 16 == a.subjectValue.setWidth 16

/-- R182: the first slot that matches decides; when none matches, the telegram is rejected. -/
def acceptedBySlots (slots : List AcceptanceSlot) (cls : Byte) (subject : BitVec 16) : Bool :=
  match slots.find? fun a => a.matchesWord cls subject with
  | some a => a.accept
  | none => false

/-- R182, R183: what becomes of a taken telegram. -/
inductive Judgement where
  | deliver
  | elsewhere
  | filtered
  | malformed
  | unknownClass
deriving DecidableEq, Repr

/-- The destination names this node. -/
def addressedTo (c : NodeConfig) (rx : Rx) : Bool := rx.destination.toNat == c.address

/-- The destination is 0, all stations. -/
def broadcast (rx : Rx) : Bool := rx.destination == 0

/-- R183: the checks before delivery; the length is checked before a REPLY is set aside. -/
def judgeContent (cls : Byte) (p : List Byte) : Judgement :=
  match lengthAllowed cls p.length with
  | none => .unknownClass
  | some false => .malformed
  | some true => if cls = classReply then .unknownClass else .deliver

/-- R182: acceptance, then the checks of R183. -/
def judgeTelegram (c : NodeConfig) (cls : Byte) (rx : Rx) (p : List Byte) : Judgement :=
  if broadcast rx then
    if acceptedBySlots c.slots cls (subjectWord cls rx p) then judgeContent cls p else .filtered
  else if addressedTo c rx then judgeContent cls p
  else .elsewhere

end Sys2Proof.Machine
end

