-- ==== Sys2Proof/Machine/Flags.lean ====
section
/-! DEFINITION. The derived values: line state, outlet state and summary, latches, claim state, contest and
cabin states, the feed hold, read states, and the outputs a node shows. -/

namespace Sys2Proof.Machine

/-! ## Node and line -/

/-- The node states in which the blocks run (R42, R59, R114, R142, R184). -/
def NodeState.running : NodeState → Bool
  | .joining | .sorting | .standbyPending | .standby => true
  | .start | .configFault => false

/-- R133: the node states in which OUTLET-STATE is queued. -/
def NodeState.reportsOutlets : NodeState → Bool
  | .joining | .sorting | .standbyPending => true
  | .start | .configFault | .standby => false

/-- R179: the line state derived from the score, outside DETACHED. -/
def lineStateOf (score : Nat) : LineState :=
  if score < 100 then .active else if score < 160 then .caution else .mute

/-- R172, R179: the line states in which the node sends, confirms and marks errors. -/
def LineState.drives : LineState → Bool
  | .active | .caution => true
  | .mute | .detached => false

/-! ## Outlets -/

/-- R131: the state derived for an outlet. -/
def outletStateOf (role : OutletRole) (o : OutletRecord) (closed : List Nat) : OutletState :=
  if o.jam then .jammed
  else if o.gaugeFault || o.actuatorFault then .fault
  else if (match role with
    | .deck d => closed.contains d
    | .stray => false) then .closed
  else if o.fullLatch then .full
  else .opened

/-- R106: the states in which the DC drops ARMED commitments. -/
def OutletState.drops : OutletState → Bool
  | .jammed | .fault | .closed => true
  | .full | .opened => false

/-- R132: the summary of a DECK-role outlet. -/
def summaryOf (c : OutletConfig) (state : OutletState) (reading : Nat) : Summary :=
  match state with
  | .opened => if reading < c.shareLimit then .openLow else .openHigh
  | _ => .unavailable

/-- R123, R124: the full latch after a reading. -/
def fullLatchOf (c : OutletConfig) (o : OutletRecord) (reading : Nat) : Bool :=
  if c.fullLimit ≤ reading then true
  else if o.firstPending then false
  else if reading ≤ c.clearLimit then false
  else o.fullLatch

/-! ## Manifest store -/

/-- R63: a cabin record is COMPLETE when delivered equals expected, OPEN while it is less. -/
def CabinRecord.complete (r : CabinRecord) : Bool := r.delivered == r.expected

/-- R62: whether an entry bears a delivered mark. -/
def TagEntry.marked (e : TagEntry) : Bool := e.mark != .none

/-- R64: two spans overlap when a cabin lies within both. -/
def spansOverlap (a b : Nat × Nat) : Bool := decide (a.1 ≤ b.2) && decide (b.1 ≤ a.2)

/-- The span of a range. -/
def MapRange.span (r : MapRange) : Nat × Nat := (r.first, r.last)

/-- R64: a range is CONTESTED if it overlaps a range of a different deck. -/
def rangeStateIn (rs : List MapRange) (r : MapRange) : RangeState :=
  if rs.any fun q => q.deck != r.deck && spansOverlap q.span r.span then .contested else .clear

/-- R64: the contest state of every range, recomputed. -/
def recontest (rs : List MapRange) : List MapRange := rs.map fun r => { r with state := rangeStateIn rs r }

/-- R65: the result of a cabin lookup. -/
inductive CabinLookup where
  | unmapped
  | contested
  | deck (d : Nat)
deriving DecidableEq, Repr

/-- A cabin lies within a range. -/
def MapRange.holds (r : MapRange) (cabin : Nat) : Bool := decide (r.first ≤ cabin) && decide (cabin ≤ r.last)

/-- R65: a cabin lookup in a map. -/
def lookupCabin (map : List MapRange) (cabin : Nat) : CabinLookup :=
  match map.filter fun r => r.holds cabin with
  | [] => .unmapped
  | r :: rs => if (r :: rs).any fun q => q.state == .contested then .contested else .deck r.deck

/-- R62: the placement an examination gives: PLACED for a deck or CONTESTED, UNPLACED for UNMAPPED. -/
def placementOf : CabinLookup → Placement
  | .unmapped => .unplaced
  | .contested => .placed
  | .deck _ => .placed

/-! ## Stray log -/

/-- R159: all claims name the same cabin. -/
def oneCabin : List ClaimFields → Bool
  | [] => true
  | c :: cs => cs.all fun d => d.cabin == c.cabin

/-- R159: the claim state derived from the claim list and the window. -/
def claimStateOf (claims : List ClaimFields) (window : ClaimWindow) : ClaimState :=
  match claims with
  | [] =>
    match window with
    | .none => .notAsked
    | .running => .opened
    | .ended => .unclaimed
  | c :: cs => if oneCabin (c :: cs) then .claimed else .disputed

/-! ## Section Tracker and reader -/

/-- R58: the read state given when a window closes other than by a break. -/
def readStateOf (readerFitted : Bool) (tags : List Nat) : ReadState :=
  if tags.isEmpty then (if readerFitted then .noRead else .notRead) else .read

/-- R34: the read state a HANDOFF carries. -/
def BagRecord.handoffReadState (readerFitted : Bool) (r : BagRecord) : ReadState :=
  if r.readState = .windowOpen then readStateOf readerFitted r.tags else r.readState

/-- R33: a record whose commitment is in phase FIRED is no candidate. -/
def BagRecord.isFired (r : BagRecord) : Bool :=
  match r.commitment with
  | some c => c.phase == .fired
  | none => false

/-- R21: the feed hold after a record is added to a list that then holds n records. -/
def feedHoldAfterAdd (n : Nat) (held : Bool) : Bool := if Config.feedHoldAt ≤ n then true else held

/-- R21: the feed hold after a record leaves a list that then holds n records. -/
def feedHoldAfterRemoval (n : Nat) (held : Bool) : Bool := if n ≤ Config.feedReleaseAt then false else held

/-- R52: the check digit is the sum of the ten tag digits modulo 10. -/
def checkDigitGood (digits : List Nat) : Bool := digits.getD 10 0 == (digits.take 10).foldl (· + ·) 0 % 10

/-- R52: the tag number of ten digits, most significant first. -/
def tagOfDigits (digits : List Nat) : Nat := (digits.take 10).foldl (fun n d => n * 10 + d) 0

/-! ## Outputs (R92, R189, 11.6) -/

/-- What the status output's lamp shows (R189). -/
inductive StatusLamp where
  | dark
  | steady
  | slowBlink
  | flashes (n : Nat)
deriving DecidableEq, Repr

/-- R189, R196: the status output, derived from the node state and the fault code. -/
def State.statusOutput (s : State) : StatusLamp :=
  if s.nc.powered then
    match s.nc.state with
    | .start => .dark
    | .configFault => .flashes (s.nc.faultCode.getD 0)
    | .joining | .sorting | .standbyPending => .steady
    | .standby => .slowBlink
  else .dark

/-- R92: the pusher output is driven while the stroke timer is RUNNING. -/
def State.pusherOutput (s : State) (k : OutletNo) : Bool := (s.dc.strokes.get k).isSome

/-- R63, R62: how many entries are UNPLACED. -/
def unplacedCount (table : List TagEntry) : Nat := table.countP fun e => e.placement == .unplaced

/-- R92: every stroke timer is IDLE. -/
def DivertController.strokesIdle (d : DivertController) : Bool :=
  OutletNo.all.all fun k => (d.strokes.get k).isNone

end Sys2Proof.Machine
end

