-- ==== Sys2Proof/Machine/Formats.lean ====
section
/-! DEFINITION. The byte layouts the node writes (chapter 11): the check value, the codes, the payload of every
class it sends, and the telegram on the line, byte by byte and bit by bit. -/

namespace Sys2Proof.Machine

/-! ## The check value (R205) -/

/-- One bit through the generator x^16 + x^12 + x^5 + 1. -/
def checkBit (c : BitVec 16) (b : Bool) : BitVec 16 :=
  if c.getLsbD 15 != b then (c <<< 1) ^^^ 0x1021#16 else c <<< 1

/-- One byte, most significant bit first. -/
def checkByte (c : BitVec 16) (b : Byte) : BitVec 16 :=
  [7, 6, 5, 4, 3, 2, 1, 0].foldl (fun c i => checkBit c (b.getLsbD i)) c

/-- R205: the check value, started from 0xFFFF and not inverted. -/
def checkValue (bs : List Byte) : BitVec 16 := bs.foldl checkByte 0xFFFF#16

/-! ## Fields (11, R204) -/

/-- A one-byte value. -/
def bytes1 (n : Nat) : List Byte := [BitVec.ofNat 8 n]

/-- A two-byte value, most significant byte first. -/
def bytes2 (n : Nat) : List Byte := [BitVec.ofNat 8 (n / 256), BitVec.ofNat 8 n]

/-- A tag: five bytes, most significant first. -/
def bytes5 (n : Nat) : List Byte :=
  [BitVec.ofNat 8 (n / 4294967296), BitVec.ofNat 8 (n / 16777216), BitVec.ofNat 8 (n / 65536),
   BitVec.ofNat 8 (n / 256), BitVec.ofNat 8 n]

/-- A counter: four bytes, most significant first. -/
def bytes4 (c : Counter) : List Byte :=
  [c.extractLsb' 24 8, c.extractLsb' 16 8, c.extractLsb' 8 8, c.extractLsb' 0 8]

/-- A set-or-clear value: 1 when set. -/
def bytesFlag (b : Bool) : List Byte := [if b then 1 else 0]

/-! ## Codes (11.3) -/

def reasonCode : Option StrayReason → Nat
  | none => 0
  | some .tagSurplus => 1
  | some .gap => 2
  | some .lapLimit => 3
  | some .tagConflict => 4
  | some .mapConflict => 5
  | some .deckClosed => 6
  | some .duplicate => 7
  | some .excess => 8

def readStateCode : ReadState → Nat
  | .windowOpen => 0
  | .read => 1
  | .noRead => 2
  | .notRead => 3

def summaryCode : Summary → Nat
  | .openLow => 1
  | .openHigh => 2
  | .unavailable => 3

def outletStateCode : OutletState → Nat
  | .opened => 1
  | .full => 2
  | .closed => 3
  | .fault => 4
  | .jammed => 5

def causeCode : MisplacedCause → Nat
  | .moved => 1
  | .withdrawn => 2
  | .remapped => 3

def nodeStateCode : NodeState → Nat
  | .start => 0
  | .configFault => 1
  | .joining => 2
  | .sorting => 3
  | .standbyPending => 4
  | .standby => 5

def lineStateCode : LineState → Nat
  | .active => 0
  | .caution => 1
  | .mute => 2
  | .detached => 3

def rateStateCode : RateState → Nat
  | .running => 0
  | .measuring => 1

def roleCode : OutletRole → Nat
  | .stray => 0
  | .deck d => d

def placementCode : Placement → Nat
  | .placed => 1
  | .unplaced => 2

def rangeStateCode : RangeState → Nat
  | .clear => 1
  | .contested => 2

def windowCode : ClaimWindow → Nat
  | .none => 0
  | .running => 1
  | .ended => 2

def claimStateCode : ClaimState → Nat
  | .notAsked => 0
  | .opened => 1
  | .claimed => 2
  | .disputed => 3
  | .unclaimed => 4

def conditionCode : ReplyCondition → Nat
  | .done => 0
  | .notFound => 1
  | .busy => 2
  | .refused => 3

/-- R204: a delivered mark is three bytes. -/
def markBytes : DeliveredMark → List Byte
  | .none => bytes1 0 ++ bytes1 0 ++ bytes1 0
  | .self k d => bytes1 1 ++ bytes1 k.number ++ bytes1 d
  | .peer n => bytes1 2 ++ bytes1 n ++ bytes1 0

/-- R204: a cabin lookup result. -/
def lookupCode : CabinLookup → Nat
  | .unmapped => 0
  | .contested => 0xFF
  | .deck d => d

/-! ## The classes the node sends (R168, 11.2) -/

/-- R168: the urgency of a class. -/
def Body.urgency : Body → Nat
  | .handoff _ => 1
  | .lost _ => 2
  | .misplaced _ => 2
  | .strayCall _ _ => 2
  | .claim _ _ => 2
  | .delivered _ => 3
  | .outletState _ _ _ => 4
  | .reply _ _ _ => 6
  | .counters _ => 6
  | .hello _ => 7

/-- 11.1: the class code. -/
def Body.classCode : Body → Byte
  | .handoff _ => classHandoff
  | .lost _ => classLost
  | .misplaced _ => classMisplaced
  | .strayCall _ _ => classStrayCall
  | .claim _ _ => classClaim
  | .delivered _ => classDelivered
  | .outletState _ _ _ => classOutletState
  | .reply _ _ _ => classReply
  | .counters _ => classReply
  | .hello _ => classHello

/-- The urgency of an entry of the send queue. -/
def SendEntry.urgency (e : SendEntry) : Nat := e.telegram.body.urgency

/-- 11.2: the HANDOFF payload; a tag slot beyond the tag count is sent as 0. -/
def handoffPayload (f : HandoffFields) : List Byte :=
  bytes2 f.bag.toNat ++ bytes1 f.tags.length ++ bytes5 (f.tags.getD 0 0) ++ bytes5 (f.tags.getD 1 0)
    ++ bytes2 f.length ++ bytes1 (readStateCode f.readState) ++ bytes1 f.lap
    ++ bytes1 ((if f.deferred then 1 else 0) + (if f.missed then 2 else 0)) ++ bytes1 (reasonCode f.reason)

/-- 11.2: the LOST payload. -/
def lostPayload (f : LossReport) : List Byte :=
  bytes1 f.lastSection ++ bytes1 f.lap ++ bytes1 f.reporter ++ f.tags.flatMap bytes5

/-- 11.2: the MISPLACED payload. -/
def misplacedPayload (f : MisplacedReport) : List Byte :=
  bytes5 f.tag ++ bytes1 f.oldDeck ++ bytes1 (causeCode f.cause) ++ bytes2 (f.newCabin.getD 0)

/-- 11.2: the STRAY-CALL payload. -/
def strayCallPayload (sequence : Count) (tags : List Nat) : List Byte :=
  bytes2 sequence.toNat ++ tags.flatMap bytes5

/-- 11.2: the CLAIM payload. -/
def claimPayload (sequence : Count) (f : ClaimFields) : List Byte :=
  bytes2 sequence.toNat ++ bytes5 f.tag ++ bytes2 f.cabin ++ bytes1 f.deck ++ bytes1 f.node

/-- 11.2: the DELIVERED payload. -/
def deliveredPayload (f : DeliveredFields) : List Byte :=
  bytes5 f.tag ++ bytes2 f.cabin ++ bytes1 f.deck ++ bytes1 f.node ++ bytes1 f.outlet

/-- 11.2: the OUTLET-STATE payload. -/
def outletStatePayload (deck : Nat) (summary : Summary) (reading : Nat) : List Byte :=
  bytes1 deck ++ bytes1 (summaryCode summary) ++ bytes1 reading

/-- 11.2: the HELLO payload: four served decks, 0 for each unused place. -/
def helloPayload (f : HelloFields) : List Byte :=
  bytes1 f.address ++ bytes1 (nodeStateCode f.state) ++ bytesFlag f.retentionLost ++ bytes2 f.digest.toNat
    ++ bytes1 (f.decks.getD 0 0) ++ bytes1 (f.decks.getD 1 0) ++ bytes1 (f.decks.getD 2 0)
    ++ bytes1 (f.decks.getD 3 0)

/-- 11.2: the payload of a telegram the node sends. -/
def Body.payload : Body → List Byte
  | .handoff f => handoffPayload f
  | .lost f => lostPayload f
  | .misplaced f => misplacedPayload f
  | .strayCall sequence tags => strayCallPayload sequence tags
  | .claim sequence f => claimPayload sequence f
  | .delivered f => deliveredPayload f
  | .outletState deck summary reading => outletStatePayload deck summary reading
  | .reply kind condition data => kind :: bytes1 (conditionCode condition) ++ data
  | .counters values => values.flatMap bytes4
  | .hello f => helloPayload f

/-- 11.1: the bytes the check value covers, from the class code to the end of the payload. -/
def checkedBytes (cls destination : Byte) (payload : List Byte) : List Byte :=
  cls :: destination :: BitVec.ofNat 8 payload.length :: payload

/-- 11.1: the telegram on the line, sent by the node with this address. -/
def Telegram.bytes (address : Nat) (t : Telegram) : List Byte :=
  BitVec.ofNat 8 t.body.urgency :: BitVec.ofNat 8 address ::
    (checkedBytes t.body.classCode (BitVec.ofNat 8 t.destination) t.body.payload
      ++ bytes2 (checkValue (checkedBytes t.body.classCode (BitVec.ofNat 8 t.destination) t.body.payload)).toNat)

/-! ## The bits of the line (R167) -/

/-- R167: a byte on the line, a level being true where it is dominant: the start bit, the data bits, most significant first
and dominant for 0, and the stop bit. -/
def frameByte (b : Byte) : List Bool := true :: ([7, 6, 5, 4, 3, 2, 1, 0].map fun i => !b.getLsbD i) ++ [false]

/-- R167: the byte of eight data bits. -/
def dataByte (levels : List Bool) : Byte :=
  BitVec.ofNat 8 (levels.foldl (fun n dominant => 2 * n + if dominant then 0 else 1) 0)

/-- R167: the confirm slot as its sender drives it: the confirm bit and the two bits of the delimiter, left recessive. -/
def confirmSlot : List Bool := [false, false, false]

/-- R167: the levels that the node with this address drives to send a telegram. -/
def Telegram.levels (address : Nat) (t : Telegram) : List Bool := (t.bytes address).flatMap frameByte ++ confirmSlot

/-- R167, R171, R172: the levels a station drives, bit by bit, on a line that it leaves recessive otherwise. -/
def LineDrive.levels : LineDrive → List Bool
  | .quiet => []
  | .confirm => [true]
  | .errorMark => List.replicate Config.errorMarkBits true
  | .telegram levels => levels

end Sys2Proof.Machine
end

