-- ==== Sys2Proof/Machine/Sampling.lean ====
section
/-! DEFINITION. The sampled inputs, one sample at a time: the filters of the eyes and fault inputs (R12, R13, R15), the
character receiver (R47, R48) and the measurement of a rate mark (R49, R50), and what a command's samples come to. -/

namespace Sys2Proof.Machine

/-! ## The samples of a command -/

/-- The samples of a command taken one after another: where the sampler stands after them, and the event at the last of
them, if there is one. Events that no block is told of (`tells`) pass by. None where the samples hold an event that is
another command's: one that is not the command's own (`row`), or one that comes before the last sample (DESIGN CHOICE,
notes/assumptions/37.md). -/
def hear {σ ε : Type} (sample : Bool → σ → σ × Option ε) (tells row : ε → Bool) :
    List Bool → σ → Option (σ × Option ε)
  | [], f => some (f, none)
  | b :: bs, f =>
    match (sample b f).2 with
    | none => hear sample tells row bs (sample b f).1
    | some e =>
      if tells e then
        if row e && bs.isEmpty then some ((sample b f).1, some e) else none
      else hear sample tells row bs (sample b f).1

/-! ## Eyes and fault inputs (R12, R13, R15) -/

/-- R12, R13: what a filter's sample brings: the adoption of the initial level, or a change of the filtered level. -/
inductive FilterEvent where
  | adopts (level : Bool)
  | changes (level : Bool)
deriving DecidableEq, Repr

/-- The filtered level after the event. -/
def FilterEvent.level : FilterEvent → Bool
  | .adopts level => level
  | .changes level => level

/-- R13, R15: the initial level the first samples give: the level they show, and where they show both, a free value
(notes/assumptions/38.md). -/
def initialLevel (samples : List Bool) : Bool :=
  if samples.all id then true else if samples.any id then Config.mixedInitialLevel samples else false

/-- R12, R13: one sample of an input whose filter takes a new level after `hold` consecutive opposite samples, and adopts
its initial level from the first `hold`. Samples of these opposite to the level adopted do not count toward the first run,
which starts at 0 (DESIGN CHOICE, notes/assumptions/38.md). -/
def InputFilter.sample (hold : Nat) (b : Bool) : InputFilter → InputFilter × Option FilterEvent
  | .adopting seen =>
    if seen.length + 1 < hold then (.adopting (seen ++ [b]), none)
    else (.following (initialLevel (seen ++ [b])) 0, some (.adopts (initialLevel (seen ++ [b]))))
  | .following level run =>
    if b = level then (.following level 0, none)
    else if run + 1 < hold then (.following level (run + 1), none)
    else (.following b 0, some (.changes b))

/-- R13, R14: of the induction eye both edges are delivered, and no adoption. -/
def FilterEvent.isEdge : FilterEvent → Bool
  | .adopts _ => false
  | .changes _ => true

/-- R13, R14: of the handoff eye and the exit eyes the blocked edge alone is used. -/
def FilterEvent.isBlockedEdge (e : FilterEvent) : Bool := e == .changes true

/-- R12: the cleared edge. -/
def FilterEvent.isClearedEdge (e : FilterEvent) : Bool := e == .changes false

/-- R15: of a fault input every change is delivered, and the adoption of ASSERTED. -/
def FilterEvent.isFaultReport (e : FilterEvent) : Bool := e != .adopts false

/-- R12, R14: samples of the induction eye, for one of its two edges. -/
def hearInduction (blocked : Bool) (samples : List Bool) (f : InputFilter) : Option (InputFilter × Option FilterEvent) :=
  hear (InputFilter.sample Config.eyeHold) FilterEvent.isEdge
    (if blocked then FilterEvent.isBlockedEdge else FilterEvent.isClearedEdge) samples f

/-- R12, R14: samples of the handoff eye or of an exit eye. -/
def hearEye (samples : List Bool) (f : InputFilter) : Option (InputFilter × Option FilterEvent) :=
  hear (InputFilter.sample Config.eyeHold) FilterEvent.isBlockedEdge FilterEvent.isBlockedEdge samples f

/-- R15: samples of a fault input. -/
def hearFault (samples : List Bool) (f : InputFilter) : Option (InputFilter × Option FilterEvent) :=
  hear (InputFilter.sample Config.faultHold) FilterEvent.isFaultReport FilterEvent.isFaultReport samples f

/-! ## The character receiver (R47, R48) -/

/-- R47, R48: what a sample of the reader line brings. -/
inductive LineEvent where
  | character (ch : Byte)
  | framingError
  | brokenLine
deriving DecidableEq, Repr

/-- R47: bit i of a character, the start bit being bit 0: the majority of samples 7, 8 and 9 of its sixteen, numbered from
1 (DEDUCED, notes/assumptions/39.md). -/
def bitOf (line : List Bool) (i : Nat) : Bool :=
  let a := line.getD (16 * i + 6) false
  let b := line.getD (16 * i + 7) false
  let c := line.getD (16 * i + 8) false
  (a && b) || (a && c) || (b && c)

/-- R47: the eight data bits, least significant first. -/
def characterOf (line : List Bool) : Byte :=
  BitVec.ofNat 8 ((List.range 8).foldl (fun n i => n + if bitOf line (i + 1) then 2 ^ i else 0) 0)

/-- R47: how many samples decide the start bit, and how many the stop bit. -/
def startSamples : Nat := 9
def stopSamples : Nat := 153

/-- R48: the samples of twelve bit times. -/
def breakSamples : Nat := 192

/-- R47, R48: the receiver once its samples since the leading edge are `line`, the last of them `b`. After a low stop bit a
high sample is a framing error at once, and the end of the twelfth bit time is a break where the line was low throughout and
a framing error where it had risen before (the moment is DEDUCED, notes/assumptions/39.md). -/
def receiveLine (b : Bool) (line : List Bool) : Receiver × Option LineEvent :=
  if line.length = startSamples ∧ bitOf line 0 = true then (.hunting b, none)
  else if line.length = stopSamples ∧ bitOf line 9 = true then (.hunting b, some (.character (characterOf line)))
  else if stopSamples ≤ line.length ∧ b = true then (.hunting true, some .framingError)
  else if line.length < breakSamples then (.receiving line, none)
  else if line.any id then (.hunting false, some .framingError)
  else (.afterBreak, some .brokenLine)

/-- R47, R48: one sample of the reader line in RUNNING. -/
def Receiver.sample (b : Bool) : Receiver → Receiver × Option LineEvent
  | .hunting seenHigh =>
    if b then (.hunting true, none) else if seenHigh then (.receiving [false], none) else (.hunting false, none)
  | .receiving line => receiveLine b (line ++ [b])
  | .afterBreak => if b then (.hunting true, none) else (.afterBreak, none)

/-- R47: a received character. -/
def LineEvent.isCharacter : LineEvent → Bool
  | .character _ => true
  | .framingError | .brokenLine => false

/-- R47, R48: samples of the reader line in RUNNING, for the events of one command. -/
def hearLine (row : LineEvent → Bool) (line : List Bool) (r : Receiver) : Option (Receiver × Option LineEvent) :=
  hear Receiver.sample (fun _ => true) row line r

/-! ## Rate measurement (R49, R50) -/

/-- R49, R50: what a tick in MEASURING brings. -/
inductive RateEvent where
  | measured (ticks : Nat)
  | overflows
deriving DecidableEq, Repr

/-- R49: a measurement completes. -/
def RateEvent.isMeasured : RateEvent → Bool
  | .measured _ => true
  | .overflows => false

/-- R50: a measurement is abandoned. -/
def RateEvent.isOverflow (e : RateEvent) : Bool := !e.isMeasured

/-- R49: the timing after a tick of the measurement clock at which it is not abandoned. -/
def Timing.tick (fell : Bool) (t : Timing) : Timing :=
  { ticks := t.ticks + 1, falls := if fell then t.falls + 1 else t.falls }

/-- R49, R50: one sample of the reader line in MEASURING. A tick at which M would pass 65,535 abandons the measurement
whatever the line does at it, and is itself no new first falling edge (DEDUCED, notes/assumptions/40.md). -/
def Measurement.sample (b : Bool) (m : Measurement) : Measurement × Option RateEvent :=
  let fell := m.last == some true && !b
  match m.timing with
  | none => ({ last := some b, timing := if fell then some ⟨0, 1⟩ else none }, none)
  | some t =>
    if Config.maxTicks < t.ticks + 1 then ({ last := some b, timing := none }, some .overflows)
    else if fell = true ∧ t.falls = 4 then (.idle, some (.measured (t.ticks + 1)))
    else ({ last := some b, timing := some (t.tick fell) }, none)

/-- R49, R50: samples of the reader line in MEASURING, for the events of one command. -/
def hearTicks (row : RateEvent → Bool) (line : List Bool) (m : Measurement) : Option (Measurement × Option RateEvent) :=
  hear Measurement.sample (fun _ => true) row line m

end Sys2Proof.Machine
end

