-- ==== Sys2Proof/Machine/LineBits.lean ====
section
/-! DEFINITION. The hall line, one bit at a time (R167, R169 to R172): the idle gap, a telegram of another station checked as
it arrives, and this node's own telegram compared with the line. A bit is true where the line is dominant. -/

namespace Sys2Proof.Machine

/-! ## What a bit brings -/

/-- R170, R172: how an attempt of this node ends on the line: arbitration lost, a bit read other than sent after the key, or
the confirm slot read with these levels. -/
inductive AttemptResult where
  | lostArbitration
  | bitError
  | confirmSlot (confirmDominant delimiterDominant : Bool)
deriving DecidableEq, Repr

/-- R171: why a telegram being received ends with a receive error: a fault this node finds, or another station's error mark
in the confirm delimiter. -/
inductive ReceiveFault where
  | framing
  | checkMismatch
  | errorMark
deriving DecidableEq, Repr

/-- R169 to R173: what a bit of the hall line brings. -/
inductive HallEvent where
  | idleGap
  | received (bytes : List Byte) (confirmed : Bool)
  | fault (f : ReceiveFault)
  | ended (result : AttemptResult)
deriving DecidableEq, Repr

/-! ## Between telegrams (R169) -/

/-- R169: a bit between telegrams: twelve recessive ones are an idle gap, and each further twelve another; once the line is
idle a dominant bit is a start bit. On a line not yet idle it starts no telegram (DEDUCED, notes/assumptions/48.md). -/
def betweenBit (b idle : Bool) (run : Nat) : LineWatch × Option HallEvent :=
  if b then (if idle then .receiving [] [true] else .between false 0, none)
  else if run + 1 < Config.gapBits then (.between idle (run + 1), none)
  else (.between true 0, some .idleGap)

/-- R169: the recessive bits in a row at the end of the bits read. -/
def recessiveRun (read : List Bool) : Nat := (read.reverse.takeWhile fun b => !b).length

/-- R169: the line at the end of a telegram of which these bits have been read: its last recessive bits are the first of the next
idle gap. A telegram contains no idle gap, so a twelfth recessive bit inside one ends none, and the gap ends at the next
(DESIGN CHOICE, notes/assumptions/48.md). -/
def lineAfter (read : List Bool) : LineWatch := .between false (min (Config.gapBits - 1) (recessiveRun read))

/-! ## A telegram of another station (R167, R171, R173) -/

/-- R167: the bits of a telegram read so far: those of its bytes, and those that follow them. -/
def readSoFar (bytes : List Byte) (bits : List Bool) : List Bool := bytes.flatMap frameByte ++ bits

/-- R171: a fault ends the telegram being received, of which these bits have been read. -/
def faultAt (f : ReceiveFault) (read : List Bool) : LineWatch × Option HallEvent := (lineAfter read, some (.fault f))

/-- R167: the bytes up to the check value, which the payload length places. -/
def wholeTelegram (bytes : List Byte) : Bool := decide (bytes.length = 7 + (bytes.getD 4 0).toNat)

/-- 11.1: the check value as the last two bytes carry it. -/
def carriedCheck (hi lo : Byte) : BitVec 16 := hi ++ lo

/-- R171, R205: the check value received is the one computed over class, destination, payload length and payload. -/
def checkMatches (bytes : List Byte) : Bool :=
  checkValue ((bytes.drop 2).take (bytes.length - 4))
    == carriedCheck (bytes.getD (bytes.length - 2) 0) (bytes.getD (bytes.length - 1) 0)

/-- R171: a byte of the telegram has been read, the last of these: a payload length above 32 is a framing fault, and a check
value that does not match is found at the check value's last stop bit. -/
def byteEnd (bytes : List Byte) : LineWatch × Option HallEvent :=
  if bytes.length = 5 ∧ Config.maxPayload < (bytes.getD 4 0).toNat then faultAt .framing (readSoFar bytes [])
  else if wholeTelegram bytes = true ∧ checkMatches bytes = false then faultAt .checkMismatch (readSoFar bytes [])
  else (.receiving bytes [], none)

/-- R167, R171: a bit of a byte: a recessive start bit or a dominant stop bit is a framing fault. -/
def byteBit (b : Bool) (bytes : List Byte) (bits : List Bool) : LineWatch × Option HallEvent :=
  if bits.isEmpty then (if b then (.receiving bytes [true], none) else faultAt .framing (readSoFar bytes [b]))
  else if bits.length < 9 then (.receiving bytes (bits ++ [b]), none)
  else if b then faultAt .framing (readSoFar bytes (bits ++ [b]))
  else byteEnd (bytes ++ [dataByte (bits.drop 1)])

/-- R167, R171, R173: a bit of the confirm slot: the confirm bit, at either level, and the delimiter, in which a dominant bit
is another station's error mark. At the end of a recessive delimiter the telegram is received without error. -/
def slotBit (b : Bool) (bytes : List Byte) (bits : List Bool) : LineWatch × Option HallEvent :=
  if bits.isEmpty then (.receiving bytes [b], none)
  else if b then faultAt .errorMark (readSoFar bytes (bits ++ [b]))
  else if bits.length < 2 then (.receiving bytes (bits ++ [b]), none)
  else (lineAfter (readSoFar bytes (bits ++ [b])), some (.received bytes (bits.headD false)))

/-! ## A telegram of this node (R170, R172) -/

/-- R170: the place of a data bit of the key, the first two bytes, counted in bits from the key's start bit. -/
def keyDataBit (i : Nat) : Bool := decide (1 ≤ i ∧ i ≤ 8 ∨ 11 ≤ i ∧ i ≤ 18)

/-- R170: the node has lost arbitration within the key and receives the rest of the telegram, whose bits so far it has
read. -/
def receiveFrom (read : List Bool) : LineWatch :=
  if read.length ≤ 10 then .receiving [] read else .receiving [dataByte ((read.drop 1).take 8)] (read.drop 10)

/-- R172: the confirm slot that closes the bits read: its confirm bit, and whether its delimiter is dominant. -/
def slotEnd (read : List Bool) : LineWatch × Option HallEvent :=
  let slot := read.drop (read.length - 3)
  (lineAfter read, some (.ended (.confirmSlot (slot.headD false) ((slot.drop 1).any id))))

/-- R170, R172: a bit of an attempt, the node sending `x` in it and having `rest` to send after it, the confirm slot included. In
the data bits of the key a recessive bit read dominant is a lost arbitration, and nothing else is compared there (DEDUCED,
notes/assumptions/49.md); after the key every difference up to the confirm slot is a transmit error. -/
def attemptBit (b : Bool) (read : List Bool) (x : Bool) (rest : List Bool) : LineWatch × Option HallEvent :=
  if rest.isEmpty then slotEnd (read ++ [b])
  else if rest.length < 3 ∨ b = x then (.attempting (read ++ [b]) rest, none)
  else if 19 ≤ read.length then (lineAfter (read ++ [b]), some (.ended .bitError))
  else if b = true ∧ keyDataBit read.length = true then
    (receiveFrom (read ++ [b]), some (.ended .lostArbitration))
  else (.attempting (read ++ [b]) rest, none)

/-! ## Every bit -/

/-- R167, R169 to R172: one bit of the hall line. -/
def LineWatch.sample (b : Bool) : LineWatch → LineWatch × Option HallEvent
  | .between idle run => betweenBit b idle run
  | .receiving bytes bits => if wholeTelegram bytes then slotBit b bytes bits else byteBit b bytes bits
  | .attempting read left =>
    match left with
    | x :: rest => attemptBit b read x rest
    | [] => (.between false 0, none)

/-- R169: an idle gap. -/
def HallEvent.isIdleGap (e : HallEvent) : Bool := e == .idleGap

/-- R171: a receive error. -/
def HallEvent.isFault : HallEvent → Bool
  | .fault _ => true
  | .idleGap | .received _ _ | .ended _ => false

/-- R175: the end of an attempt. -/
def HallEvent.isEnd : HallEvent → Bool
  | .ended _ => true
  | .idleGap | .received _ _ | .fault _ => false

/-- R169: the line is idle, and no start bit has been read on it. -/
def LineWatch.idle : LineWatch → Bool
  | .between idle _ => idle
  | .receiving _ _ | .attempting _ _ => false

/-- R167, R169: the end of a telegram received without error, as far as the next idle gap can reach back into it: the low byte
of its check value, the confirm bit, and the recessive delimiter. -/
def telegramEnd (check : BitVec 16) (confirmed : Bool) : List Bool :=
  frameByte (check.setWidth 8) ++ [confirmed, false, false]

/-- R169, R173: a telegram with this check value has been taken at the end of its confirm delimiter; an attempt of this node goes
on (DESIGN CHOICE, notes/assumptions/42.md). -/
def LineWatch.afterTelegram (check : BitVec 16) (confirmed : Bool) : LineWatch → LineWatch
  | .attempting read left => .attempting read left
  | .between _ _ | .receiving _ _ => lineAfter (telegramEnd check confirmed)

/-- R185: the queue has been emptied, and an attempt of this node, where one was in progress, is over at the delimiter of the
telegram that emptied it (DESIGN CHOICE, notes/assumptions/42.md). -/
def LineWatch.withoutAttempt : LineWatch → LineWatch
  | .attempting _ _ => lineAfter [false, false]
  | .between idle run => .between idle run
  | .receiving bytes bits => .receiving bytes bits

end Sys2Proof.Machine
end

