-- ==== Sys2Proof/Decode.lean ====
section
/-! DEFINITION. Reading commands from bits: the words of the opcode table, which gives no row any bits, and the bits
of one telegram as they stand on the hall line (11.1, R167, R171, R205). -/

namespace Sys2Proof

open Machine

/-- The command a word of spec/opcode_table.json spells. The table gives none of its rows any bits, so no word spells
a command. -/
def decodeTableWord (_nbits _w : Nat) : Option Instr := none

/-- 11.1, 11.3: the command for a QUERY whose payload is a kind code and a 5-byte argument. -/
def decodeQuery (rx : Rx) (kind : Byte) (argument : BitVec 40) : Instr :=
  if kind = 1 then .identity rx argument
  else if kind = 2 then .counters rx argument
  else if kind = 3 then .outlet rx argument
  else if kind = 4 then .tag rx argument
  else if kind = 5 then .cabin rx argument
  else if kind = 6 then .strayLog rx argument
  else if kind = 7 then .map rx argument
  else .queryKindUnknown rx kind argument

/-- 11.2: the argument of a QUERY payload. -/
def queryArgument (p : List Byte) : BitVec 40 := BitVec.ofNat 40 (fiveAt p 1)

/-- 11.1: the command for a telegram of a class whose payload has a length the class allows; a REPLY, an unknown class
and a wrong length are telegrams discarded before delivery (R183). -/
def decodeClass (cls : Byte) (rx : Rx) (p : List Byte) : Instr :=
  if lengthAllowed cls p.length ≠ some true then .telegramDiscarded cls rx p
  else if cls = classDeckClose then .deckClose rx p
  else if cls = classDeckOpen then .deckOpen rx p
  else if cls = classPurge then .purge rx p
  else if cls = classReset then .reset rx p
  else if cls = classStandby then .standby rx p
  else if cls = classWake then .wake rx p
  else if cls = classOutletRestore then .outletRestore rx p
  else if cls = classManifest then .manifest rx p
  else if cls = classManifestWithdraw then .manifestWithdraw rx p
  else if cls = classDeckMap then .deckMap rx p
  else if cls = classHandoff then .handoff rx p
  else if cls = classLost then .lost rx p
  else if cls = classMisplaced then .misplaced rx p
  else if cls = classDelivered then .delivered rx p
  else if cls = classOutletState then .outletState rx p
  else if cls = classStrayCall then .strayCall rx p
  else if cls = classClaim then .claim rx p
  else if cls = classQuery then decodeQuery rx (p.getD 0 0) (queryArgument p)
  else if cls = classHello then .hello rx p
  else .telegramDiscarded cls rx p

/-- 11.1: the command for the bytes of a telegram received without error, with its confirm bit, taken at a time in
milliseconds. R167 and 11.1 give
an urgency of 0 to 7 and a sender of 0 to 63 and say nothing of a key byte whose upper bits are not 0: the low three and six
bits are read and the others ignored (DESIGN CHOICE, notes/assumptions/43.md). -/
def decodeTelegram (time : Nat) (confirmed : Bool) : List Byte → Option Instr
  | urgency :: sender :: cls :: destination :: length :: rest =>
    some (decodeClass cls
      { urgency := urgency.setWidth 3, sender := sender.setWidth 6, destination := destination, time := time,
        check := carriedCheck (rest.getD length.toNat 0) (rest.getD (length.toNat + 1) 0), confirmed := confirmed }
      (rest.take length.toNat))
  | _ => none

/-- R167, R169, R171, R173: the command for the bits that a node reads from the start bit of a telegram on: the command of the
telegram's class at the end of its confirm delimiter, or a receive error at the bit that shows a fault. Bits that go no
further than a telegram in progress, or past its end, give none. -/
def decodeLine (time : Nat) (line : List Bool) : Option Instr :=
  match hear LineWatch.sample (fun _ => true) (fun _ => true) line (.between true 0) with
  | some (_, some (.received bytes confirmed)) => decodeTelegram time confirmed bytes
  | some (_, some (.fault _)) => some (.receiveError line)
  | some (_, some .idleGap) => some (.idleGap line)
  | some (_, some (.ended _)) => none
  | some (_, none) => none
  | none => none

end Sys2Proof
end

