-- ==== Sys2Proof/Machine/Image.lean ====
section
/-! DEFINITION. The configuration image (11.5): its fields as the node reads them, and the seven checks of R3. -/

namespace Sys2Proof.Machine

/-- 11.5: the offset of an outlet block. -/
def outletOffset : OutletNo → Nat
  | .o1 => 0x1A
  | .o2 => 0x2C
  | .o3 => 0x3E
  | .o4 => 0x50

/-- 11.3: the role a role byte stands for. -/
def roleOfByte (n : Nat) : OutletRole := if n = 0 then .stray else .deck n

/-- 11.5: an outlet block. -/
def imageOutlet (b : List Byte) (k : OutletNo) : OutletConfig :=
  let i := outletOffset k
  { fitted := byteAt b i == 1, role := roleOfByte (byteAt b (i + 1)), centre := wordAt b (i + 2),
    arm := wordAt b (i + 4), leadMs := wordAt b (i + 6), confirm := wordAt b (i + 8), maxLength := wordAt b (i + 10),
    longCapable := byteAt b (i + 12) == 1, strokeMs := wordAt b (i + 13), fullLimit := byteAt b (i + 15),
    shareLimit := byteAt b (i + 16), clearLimit := byteAt b (i + 17) }

/-- 11.5: acceptance slot n, from 0. -/
def imageSlot (b : List Byte) (n : Nat) : AcceptanceSlot :=
  let i := 0x62 + 5 * n
  { classValue := b.getD i 0, classMask := b.getD (i + 1) 0, subjectValue := b.getD (i + 2) 0,
    subjectMask := b.getD (i + 3) 0, accept := byteAt b (i + 4) == 1 }

/-- R45: the divider of a fixed reader rate, or AUTO. -/
def rateOfByte : Nat → ReaderRate
  | 1 => .fixed 120
  | 2 => .fixed 60
  | 3 => .fixed 30
  | 4 => .fixed 20
  | 5 => .fixed 10
  | _ => .auto

/-- 11.5: the line rate in kbit/s. -/
def lineRateOfByte : Nat → Nat
  | 1 => 125
  | 2 => 250
  | _ => 500

/-- 11.6: the address the straps read, with weights 1 to 32. -/
def strapAddress (straps : BitVec 6) : Nat := straps.toNat

/-- R187, R205: the check value stored at the image's end. -/
def storedCheck (b : List Byte) : BitVec 16 := BitVec.ofNat 16 (wordAt b 0x8A)

/-- R187: the configuration the node freezes from the straps and an accepted image. -/
def configOf (straps : BitVec 6) (b : List Byte) : NodeConfig :=
  { address := strapAddress straps, digest := storedCheck b, lineRateKbit := lineRateOfByte (byteAt b 0),
    readerFitted := byteAt b 1 == 1, readerRate := rateOfByte (byteAt b 2), downstream := byteAt b 3,
    lapOrigin := byteAt b 4 == 1, lapLimit := byteAt b 5, handoff := wordAt b 6, feed := wordAt b 8,
    scanTail := wordAt b 10, lateSpan := wordAt b 12, tolerance := wordAt b 14, minLength := wordAt b 16,
    mergeLimit := wordAt b 18, averaging := byteAt b 0x14,
    gaugeMode := if byteAt b 0x15 = 1 then .paced else .continuous, refreshSec := byteAt b 0x16,
    joinSec := byteAt b 0x17, claimMs := wordAt b 0x18,
    outlets := ⟨imageOutlet b .o1, imageOutlet b .o2, imageOutlet b .o3, imageOutlet b .o4⟩,
    slots := (List.range 8).map (imageSlot b) }

/-- A field lies in its range. -/
def inRange (lo hi n : Nat) : Bool := decide (lo ≤ n) && decide (n ≤ hi)

/-- R2, 11.5: the range check of one outlet block. The fields of an outlet whose fitted byte is 0 are not
checked; a fitted byte other than 0 or 1 fails whatever the block holds. -/
def outletRangesOk (b : List Byte) (k : OutletNo) : Bool :=
  let i := outletOffset k
  let o := imageOutlet b k
  if byteAt b i = 0 then true
  else if byteAt b i ≠ 1 then false
  else inRange 0 Config.maxDeck (byteAt b (i + 1)) && inRange 100 20000 o.centre && inRange 20 2000 o.arm
    && decide (o.arm < o.centre) && inRange 0 500 o.leadMs && inRange 20 1000 o.confirm
    && inRange 100 1500 o.maxLength && inRange 0 1 (byteAt b (i + 12)) && inRange 20 1000 o.strokeMs
    && decide (o.clearLimit < o.shareLimit) && decide (o.shareLimit ≤ o.fullLimit)

/-- R1, R3 check 3, R45, R187, 11.5: every field of the image lies in its range. -/
def imageRangesOk (straps : BitVec 6) (b : List Byte) : Bool :=
  inRange 1 3 (byteAt b 0) && inRange 0 1 (byteAt b 1) && inRange 1 6 (byteAt b 2)
    && inRange 1 Config.maxNode (byteAt b 3) && byteAt b 3 != strapAddress straps
    && inRange 0 1 (byteAt b 4) && inRange 1 7 (byteAt b 5)
    && inRange 200 30000 (wordAt b 6) && inRange 0 8000 (wordAt b 8) && inRange 0 2000 (wordAt b 10)
    && inRange 100 4000 (wordAt b 12) && inRange 10 400 (wordAt b 14) && inRange 10 200 (wordAt b 16)
    && inRange 200 4000 (wordAt b 18)
    && (byteAt b 0x14 == 1 || byteAt b 0x14 == 4 || byteAt b 0x14 == 16) && inRange 0 1 (byteAt b 0x15)
    && inRange 1 10 (byteAt b 0x16) && inRange 1 30 (byteAt b 0x17) && inRange 500 10000 (wordAt b 0x18)
    && OutletNo.all.all (outletRangesOk b) && OutletNo.all.any (fun k => byteAt b (outletOffset k) == 1)
    && (List.range 8).all (fun n => inRange 0 1 (byteAt b (0x62 + 5 * n + 4)))

/-- R3 check 4: at most one fitted outlet has role STRAY. -/
def strayOutletsOk (c : NodeConfig) : Bool :=
  decide ((c.fittedOutlets.countP fun k => (c.outlet k).role == .stray) ≤ 1)

/-- R3 check 5: no two fitted outlets have role DECK with the same deck. -/
def decksDistinct (c : NodeConfig) : Bool := decide c.servedDecks.Nodup

/-- R3 check 6: every push and its confirmation are decided before the handoff window opens. -/
def placementOk (c : NodeConfig) : Bool :=
  c.fittedOutlets.all fun k =>
    decide ((c.outlet k).centre + (c.outlet k).maxLength / 2 + (c.outlet k).confirm + c.tolerance < c.handoff)

/-- R3 check 7: the count span. -/
def spanOk (c : NodeConfig) : Bool := decide (c.handoff + c.tolerance + c.mergeLimit < 32768)

/-- R3 check 2: the image can be read in full and its check value is the one stored at its end. -/
def imageCheckOk (b : List Byte) : Bool :=
  decide (Config.imageBytes ≤ b.length) && checkValue (b.take 0x8A) == storedCheck b

/-- R3: the code of the first check that fails, none when every check passes. -/
def startFault (straps : BitVec 6) (b : List Byte) : Option Nat :=
  if strapAddress straps = 0 ∨ Config.maxNode < strapAddress straps then some 1
  else if imageCheckOk b = false then some 2
  else if imageRangesOk straps b = false then some 3
  else if strayOutletsOk (configOf straps b) = false then some 4
  else if decksDistinct (configOf straps b) = false then some 5
  else if placementOk (configOf straps b) = false then some 6
  else if spanOk (configOf straps b) = false then some 7
  else none

end Sys2Proof.Machine
end

