-- ==== Sys2Proof/Machine/Ops.lean ====
section
/-! DEFINITION. The operations the commands share, block by block: queueing a telegram, logging a report, looking a
tag up, the notices to the Section Tracker, the ending of a record, re-deriving an outlet, the reports of
Node Control, and the taking of a received telegram. Each changes the blocks it names and nothing else. -/

namespace Sys2Proof.Machine

/-! ## One block at a time -/

def State.onInputs (s : State) (f : InputFilters → InputFilters) : State := { s with inputs := f s.inputs }
def State.onSt (s : State) (f : SectionTracker → SectionTracker) : State := { s with st := f s.st }
def State.onTrp (s : State) (f : TagReadPort → TagReadPort) : State := { s with trp := f s.trp }
def State.onMs (s : State) (f : ManifestStore → ManifestStore) : State := { s with ms := f s.ms }
def State.onDc (s : State) (f : DivertController → DivertController) : State := { s with dc := f s.dc }
def State.onOm (s : State) (f : OutletMonitor → OutletMonitor) : State := { s with om := f s.om }
def State.onSu (s : State) (f : StrayUnit → StrayUnit) : State := { s with su := f s.su }
def State.onHlc (s : State) (f : HallLine → HallLine) : State := { s with hlc := f s.hlc }
def State.onNc (s : State) (f : NodeControl → NodeControl) : State := { s with nc := f s.nc }

def SectionTracker.tally (t : SectionTracker) (f : StCounters → StCounters) : SectionTracker :=
  { t with counters := f t.counters }
def TagReadPort.tally (t : TagReadPort) (f : TrpCounters → TrpCounters) : TagReadPort :=
  { t with counters := f t.counters }
def ManifestStore.tally (t : ManifestStore) (f : MsCounters → MsCounters) : ManifestStore :=
  { t with counters := f t.counters }
def DivertController.tally (t : DivertController) (f : DcCounters → DcCounters) : DivertController :=
  { t with counters := f t.counters }
def OutletMonitor.tally (t : OutletMonitor) (f : OmCounters → OmCounters) : OutletMonitor :=
  { t with counters := f t.counters }
def StrayUnit.tally (t : StrayUnit) (f : SuCounters → SuCounters) : StrayUnit :=
  { t with counters := f t.counters }
def HallLine.tally (t : HallLine) (f : HlcCounters → HlcCounters) : HallLine :=
  { t with counters := f t.counters }
def NodeControl.tally (t : NodeControl) (f : NcCounters → NcCounters) : NodeControl :=
  { t with counters := f t.counters }

/-- The blocks run: JOINING, SORTING, STANDBY-PENDING and STANDBY. -/
def State.running (s : State) : Bool := s.nc.state.running

/-! ## What the samples of a command bring (R12, R47, R49) -/

/-- A command whose samples have been heard: the sampler stands where they leave it (`store`), and their event, if there is
one, takes its effect (`act`). Samples that are another command's change nothing (DESIGN CHOICE,
notes/assumptions/37.md). -/
def State.heard {σ ε : Type} (s : State) (r : Option (σ × Option ε)) (store : σ → State → State)
    (act : ε → State → State) : State :=
  match r with
  | none => s
  | some (f, none) => store f s
  | some (f, some e) => act e (store f s)

/-- R12: the induction eye's filter stands at f. -/
def State.putInduction (f : InputFilter) (s : State) : State := s.onInputs fun i => { i with induction := f }
/-- R12: the handoff eye's filter stands at f. -/
def State.putHandoff (f : InputFilter) (s : State) : State := s.onInputs fun i => { i with handoff := f }
/-- R12: the filter of outlet k's exit eye stands at f. -/
def State.putExit (k : OutletNo) (f : InputFilter) (s : State) : State :=
  s.onInputs fun i => { i with exits := i.exits.set k f }
/-- R15: the filter of outlet k's fault input stands at f. -/
def State.putFault (k : OutletNo) (f : InputFilter) (s : State) : State :=
  s.onInputs fun i => { i with faults := i.faults.set k f }
/-- R47: the character receiver stands at r. -/
def State.putReceiver (r : Receiver) (s : State) : State := s.onTrp fun t => { t with receiver := r }
/-- R49: the measurement in progress stands at m. -/
def State.putMeasurement (m : Measurement) (s : State) : State := s.onTrp fun t => { t with measurement := m }

/-! ## The send queue (R174, R176, R177) -/

/-- R176: an OUTLET-STATE supersedes one for the same deck, a HELLO supersedes a HELLO. -/
def Body.supersedes : Body → Body → Bool
  | .outletState d _ _, .outletState e _ _ => d == e
  | .hello _, .hello _ => true
  | _, _ => false

/-- R174: a telegram joins with attempt count 0. -/
def SendEntry.fresh (t : Telegram) : SendEntry := { telegram := t, attempts := 0, onLine := false }

/-- R176: the queue with the waiting entry a telegram supersedes replaced by it, if there is one. -/
def replaceWaiting (t : Telegram) : List SendEntry → Option (List SendEntry)
  | [] => none
  | e :: es =>
    if !e.onLine && t.body.supersedes e.telegram.body then some (SendEntry.fresh t :: es)
    else (replaceWaiting t es).map (e :: ·)

/-- R174: an entry joins after the last entry of its urgency and ahead of every less urgent entry. -/
def insertByUrgency (e : SendEntry) : List SendEntry → List SendEntry
  | [] => [e]
  | x :: xs => if e.urgency < x.urgency then e :: x :: xs else x :: insertByUrgency e xs

/-- R177: the queue without the victim of displacement by a telegram of this urgency: the last of the waiting
entries that are strictly less urgent, which in a queue kept in order is the least urgent and, among equals,
the most recently enqueued. -/
def displaceFor (urgency : Nat) : List SendEntry → Option (List SendEntry)
  | [] => none
  | e :: es =>
    match displaceFor urgency es with
    | some es' => some (e :: es')
    | none => if !e.onLine && decide (urgency < e.urgency) then some es else none

/-- R174, R176, R177, R181: a block queues a telegram. -/
def HallLine.enqueue (t : Telegram) (h : HallLine) : HallLine :=
  if h.line = .detached then h.tally fun c => { c with givenUp := c.givenUp + 1 }
  else
    match replaceWaiting t h.queue with
    | some q => { h with queue := q }.tally fun c => { c with superseded := c.superseded + 1 }
    | none =>
      if h.queue.length < Config.maxQueue then
        { h with queue := insertByUrgency (SendEntry.fresh t) h.queue }
      else
        match displaceFor t.body.urgency h.queue with
        | some q =>
          { h with queue := insertByUrgency (SendEntry.fresh t) q }.tally
            fun c => { c with displaced := c.displaced + 1 }
        | none => h.tally fun c => { c with displaced := c.displaced + 1 }

/-- A block queues a telegram for a destination (0 for all stations). -/
def State.send (s : State) (destination : Nat) (body : Body) : State :=
  s.onHlc (HallLine.enqueue ⟨destination, body⟩)

/-- R178, R179: the score changes and the line state is derived anew, except while DETACHED. -/
def HallLine.rescore (f : Nat → Nat) (h : HallLine) : HallLine :=
  if h.line = .detached then h else { h with score := f h.score, line := lineStateOf (f h.score) }

/-- R178: the score rises, saturating at 255. -/
def scoreUp (n score : Nat) : Nat := min Config.maxScore (score + n)

/-- R178: the score falls, saturating at 0. -/
def scoreDown (n score : Nat) : Nat := score - n

/-! ## The stray log (R151, R152) -/

/-- R152: the SU creates an entry at the newest end, overwriting the oldest of a full ring. -/
def StrayUnit.create (kind : LogKind) (tags : List Nat) (lap length : Option Nat) (claims : List ClaimFields)
    (window : ClaimWindow) (u : StrayUnit) : StrayUnit :=
  let e : LogEntry :=
    { sequence := u.nextSequence, kind := kind, tags := tags, lap := lap, length := length, claims := claims,
      window := window, state := claimStateOf claims window }
  match u.ring with
  | [] => { u with ring := [e], nextSequence := u.nextSequence + 1 }
  | old :: rest =>
    if u.ring.length < Config.maxLog then
      { u with ring := u.ring ++ [e], nextSequence := u.nextSequence + 1 }
    else
      { u with ring := rest ++ [e], nextSequence := u.nextSequence + 1,
               timers := u.timers.filter fun w => w.sequence != old.sequence }.tally
        fun c => { c with logOverwrites := c.logOverwrites + 1 }

/-- R202: the stray-log change mark is set. -/
def State.markLog (s : State) : State := s.onNc fun n => { n with logMark := true }

/-- R202: the deck-map change mark is set. -/
def State.markMap (s : State) : State := s.onNc fun n => { n with mapMark := true }

/-- R154: the SU creates a REPORTED entry. -/
def State.logReport (s : State) (kind : LogKind) (tags : List Nat) (lap : Option Nat) : State :=
  (s.onSu fun u =>
    (u.create kind tags lap none [] .none).tally fun c => { c with reportsLogged := c.reportsLogged + 1 }).markLog

/-- R164: the SU removes every entry of the ring and withdraws the end of every running window. -/
def State.clearLog (s : State) : State :=
  let t := s.onSu fun u => { u with ring := [], timers := [] }
  if s.su.ring.isEmpty then t else t.markLog

/-- R37: the ST queues a LOST, and gives its content to the SU at the stray node. -/
def State.reportLost (s : State) (r : LossReport) : State :=
  let t := s.send 0 (.lost r)
  if s.config.isStrayNode then t.logReport (.lost r.lastSection r.reporter) r.tags (some r.lap) else t

/-- R71: the MS queues a MISPLACED, and gives its content to the SU at the stray node. -/
def State.reportMisplaced (s : State) (r : MisplacedReport) : State :=
  let t := (s.onMs fun m => m.tally fun c => { c with misplacedReports := c.misplacedReports + 1 }).send 0
    (.misplaced r)
  if s.config.isStrayNode then
    t.logReport (.misplaced s.config.address r.oldDeck r.newCabin r.cause) [r.tag] none
  else t

/-! ## Lookups and marks of the Manifest Store (R62 to R65, R73 to R75) -/

/-- The entry the tag table holds for a tag. -/
def ManifestStore.entry (m : ManifestStore) (tag : Nat) : Option TagEntry := m.table.find? fun e => e.tag == tag

/-- R65, R84: a tag lookup. -/
def ManifestStore.lookup (m : ManifestStore) (tag : Nat) : Option TagEntry :=
  if m.purgeRunning then none else m.entry tag

/-- The record of a cabin. -/
def ManifestStore.cabin (m : ManifestStore) (cabin : Nat) : Option CabinRecord :=
  m.cabins.find? fun r => r.cabin == cabin

/-- The entries that name a cabin. -/
def ManifestStore.entriesOf (m : ManifestStore) (cabin : Nat) : List TagEntry :=
  m.table.filter fun e => e.cabin == cabin

/-- Enters a tag entry in place of the entry with its tag, if there is one. -/
def putEntry (e : TagEntry) : List TagEntry → List TagEntry
  | [] => [e]
  | x :: xs => if e.tag < x.tag then e :: x :: xs else if e.tag = x.tag then e :: xs else x :: putEntry e xs

/-- Enters a cabin record in place of the cabin's record, if there is one. -/
def putCabin (r : CabinRecord) : List CabinRecord → List CabinRecord
  | [] => [r]
  | x :: xs => if r.cabin < x.cabin then r :: x :: xs else if r.cabin = x.cabin then r :: xs else x :: putCabin r xs

/-- R63: after an event on a cabin's entries its record is created, removed or recounted, with expected raised to
delivered where delivered passes it. -/
def ManifestStore.recount (cabin : Nat) (m : ManifestStore) : ManifestStore :=
  if (m.entriesOf cabin).isEmpty then { m with cabins := m.cabins.filter fun r => r.cabin != cabin }
  else
    let d := (m.entriesOf cabin).countP TagEntry.marked
    { m with cabins := putCabin ⟨cabin, max (((m.cabin cabin).map CabinRecord.expected).getD 0) d, d⟩ m.cabins }

/-- R63: a MANIFEST naming the cabin is accepted with piece total n. -/
def ManifestStore.declare (cabin n : Nat) (m : ManifestStore) : ManifestStore :=
  match m.cabin cabin with
  | some r => { m with cabins := putCabin { r with expected := max n r.delivered } m.cabins }
  | none => m

/-- Enters an entry and recounts its cabin. -/
def ManifestStore.put (e : TagEntry) (m : ManifestStore) : ManifestStore :=
  { m with table := putEntry e m.table }.recount e.cabin

/-- Removes an entry and recounts its cabin. -/
def ManifestStore.drop (e : TagEntry) (m : ManifestStore) : ManifestStore :=
  { m with table := m.table.filter fun x => x.tag != e.tag }.recount e.cabin

/-- R73: the DC asks for a SELF mark. -/
def ManifestStore.markSelf (tag : Nat) (k : OutletNo) (deck : Nat) (m : ManifestStore) : ManifestStore :=
  match m.lookup tag with
  | none => m.tally fun c => { c with deliveredUnrecorded := c.deliveredUnrecorded + 1 }
  | some e =>
    match e.mark with
    | .none => m.put { e with mark := .self k deck }
    | .peer _ => (m.put { e with mark := .self k deck }).tally
        fun c => { c with doubleDeliveries := c.doubleDeliveries + 1 }
    | .self _ _ => m.tally fun c => { c with doubleDeliveries := c.doubleDeliveries + 1 }

/-- R75: the SU asks for a strayed mark. -/
def ManifestStore.markStrayed (tag : Nat) (m : ManifestStore) : ManifestStore :=
  match m.lookup tag with
  | none => m
  | some e => { m with table := putEntry { e with strayed := true } m.table }

/-- R156: the deck a claim carries: the lookup's deck, or 0 for UNMAPPED or CONTESTED. -/
def claimDeck : CabinLookup → Nat
  | .deck d => d
  | .unmapped => 0
  | .contested => 0

/-- R156: the claim of a node for a tag, if its slice holds the tag. -/
def State.claimFor (s : State) (tag : Nat) : Option ClaimFields :=
  (s.ms.lookup tag).map fun e =>
    { node := s.config.address, tag := tag, cabin := e.cabin, deck := claimDeck (lookupCabin s.ms.map e.cabin) }

/-! ## The tracking list and its notices (R18, R21, R38) -/

/-- The record with a local number. -/
def SectionTracker.record (t : SectionTracker) (n : Count) : Option BagRecord :=
  t.records.find? fun r => r.number == n

/-- Changes the record with a local number. -/
def SectionTracker.modify (n : Count) (f : BagRecord → BagRecord) (t : SectionTracker) : SectionTracker :=
  { t with records := t.records.map fun r => if r.number = n then f r else r }

/-- R38: a notice is applied to the record it names, or counted as orphaned. -/
def SectionTracker.notice (n : Count) (f : BagRecord → BagRecord) (t : SectionTracker) : SectionTracker :=
  match t.record n with
  | some _ => t.modify n f
  | none => t.tally fun c => { c with orphanedNotices := c.orphanedNotices + 1 }

/-- R18, R21: a record leaves the list and the feed hold is re-evaluated. -/
def SectionTracker.remove (n : Count) (t : SectionTracker) : SectionTracker :=
  let rs := t.records.filter fun r => r.number != n
  { t with records := rs, feedHold := feedHoldAfterRemoval rs.length t.feedHold }

/-- R146: a reason is set only on a record that holds none. -/
def BagRecord.giveReason (reason : StrayReason) (r : BagRecord) : BagRecord :=
  if r.reason.isNone then { r with reason := some reason } else r

/-- R38: the commitment becomes absent. -/
def BagRecord.uncommit (r : BagRecord) : BagRecord := { r with commitment := none }

/-- R56: the ST applies a tag read notice. -/
def SectionTracker.tagRead (n : Count) (tag : Nat) (t : SectionTracker) : SectionTracker :=
  match t.record n with
  | none => t.tally fun c => { c with orphanedNotices := c.orphanedNotices + 1 }
  | some r =>
    if r.tags.contains tag then t.tally fun c => { c with duplicateReads := c.duplicateReads + 1 }
    else if r.tags.length < Config.maxRecordTags then t.modify n fun r => { r with tags := r.tags ++ [tag] }
    else (t.modify n (BagRecord.giveReason .tagSurplus)).tally fun c => { c with surplusTags := c.surplusTags + 1 }

/-! ## Scan windows (R54) -/

/-- The entry of the window list for a record. -/
def TagReadPort.window (t : TagReadPort) (n : Count) : Option ScanWindow := t.windows.find? fun w => w.record == n

/-- R54: a window closes: it leaves the window list and the ST is sent a window closed notice. -/
def State.closeWindow (s : State) (n : Count) (state : ReadState) : State :=
  (s.onTrp fun t => { t with windows := t.windows.filter fun w => w.record != n }).onSt
    (SectionTracker.notice n fun r => { r with readState := state })

/-- The tags a record holds, none once it has left the list. -/
def SectionTracker.tagsOf (t : SectionTracker) (n : Count) : List Nat :=
  ((t.record n).map BagRecord.tags).getD []

/-- R58: a window closes with the read state given by the tags held. -/
def State.closeWindowByTags (s : State) (n : Count) : State :=
  s.closeWindow n (readStateOf s.config.readerFitted (s.st.tagsOf n))

/-! ## The ending of a record (R39, R113) -/

/-- R113: the DC withdraws a record's arm points and its commitment with its points. -/
def DivertController.forget (n : Count) (d : DivertController) : DivertController :=
  { d with commitments := d.commitments.filter fun c => c.record != n,
           armPoints := d.armPoints.filter fun p => p.record != n }

/-- R39: the TRP and the DC are told that a record has ended. The record has left the list, so the notice of a
window closed by it is orphaned (R38). -/
def State.endRecord (s : State) (n : Count) : State :=
  (match s.trp.window n with
   | some _ => s.closeWindowByTags n
   | none => s).onDc (DivertController.forget n)

/-! ## Commitments (R106) -/

/-- R91: the DC's commitment for a record. -/
def DivertController.commitmentOf (d : DivertController) (n : Count) : Option Commitment :=
  d.commitments.find? fun c => c.record == n

/-- R91: the DC removes a record's commitment. -/
def DivertController.release (n : Count) (d : DivertController) : DivertController :=
  { d with commitments := d.commitments.filter fun c => c.record != n }

/-- R106: an ARMED commitment for an outlet. -/
def Commitment.armedFor (k : OutletNo) (c : Commitment) : Bool := c.outlet == k && c.phase == .armed

/-- R106: every ARMED commitment for an outlet is dropped. -/
def State.dropArmed (s : State) (k : OutletNo) : State :=
  let gone := s.dc.commitments.filter (Commitment.armedFor k)
  gone.foldl (fun s c => s.onSt (SectionTracker.notice c.record BagRecord.uncommit))
    (s.onDc fun d =>
      { d with commitments := d.commitments.filter fun c => !c.armedFor k }.tally
        fun c => { c with dropped := c.dropped + BitVec.ofNat 32 gone.length })

/-! ## Outlet states and summaries (R131 to R135) -/

/-- The OM's record of an outlet. -/
def OutletMonitor.outlet (m : OutletMonitor) (k : OutletNo) : OutletRecord := m.outlets.get k

/-- Replaces the OM's record of an outlet. -/
def OutletMonitor.setOutlet (k : OutletNo) (o : OutletRecord) (m : OutletMonitor) : OutletMonitor :=
  { m with outlets := m.outlets.set k o }

/-- R133, R134: the OM queues an OUTLET-STATE for a DECK-role outlet, as its summary and reading stand. -/
def State.queueOutletState (s : State) (k : OutletNo) : State :=
  match (s.config.outlet k).deckServed with
  | some d =>
    (s.onOm fun m => m.tally fun c => { c with statesQueued := c.statesQueued + 1 }).send 0
      (.outletState d (s.om.outlet k).summary (s.om.outlet k).reading)
  | none => s

/-- R132, R133: the OM derives a DECK-role outlet's summary; a change, or a first reading (`first`), is reported
in the node states that report. -/
def State.summarise (s : State) (k : OutletNo) (first : Bool) : State :=
  match (s.config.outlet k).deckServed with
  | none => s
  | some _ =>
    let o := s.om.outlet k
    let summary := summaryOf (s.config.outlet k) o.state o.reading
    let t := s.onOm (OutletMonitor.setOutlet k { o with summary := summary })
    if (first || summary != o.summary) && s.nc.state.reportsOutlets then t.queueOutletState k else t

/-- R131: the OM derives an outlet's state; on a change it stores the state and tells the DC. The summary follows. -/
def State.rederive (s : State) (k : OutletNo) (first : Bool) : State :=
  let o := s.om.outlet k
  let new := outletStateOf (s.config.outlet k).role o s.om.closed
  (if new = o.state then s
   else
     let t := s.onOm (OutletMonitor.setOutlet k { o with state := new })
     if new.drops then t.dropArmed k else t).summarise k first

/-- R129, R130: the OM re-derives each fitted DECK-role outlet whose deck is one of these, in order of outlet number, which
R130 leaves open (DESIGN CHOICE, notes/assumptions/45.md). -/
def State.rederiveDecks (s : State) (decks : List Nat) : State :=
  OutletNo.all.foldl (fun s k =>
    match (s.config.outlet k).deckServed with
    | some d => if decks.contains d then s.rederive k false else s
    | none => s) s

/-- R134, R135: one OUTLET-STATE for each DECK-role outlet whose first reading has been taken, in order of outlet
number; the refresh timer restarts. -/
def State.queueOutletStates (s : State) : State :=
  (OutletNo.all.foldl (fun s k => if (s.om.outlet k).firstPending then s else s.queueOutletState k) s).onOm
    fun m => { m with refreshTimer := some (s.config.refreshSec * 1000) }

/-- R120, R122: a pass starts at the lowest-numbered fitted outlet; in PACED mode the next start is timed. -/
def State.startPass (s : State) : State :=
  s.onOm fun m =>
    { m with pass := s.config.firstFitted,
             paceTimer := match s.config.gaugeMode with
               | .paced => some Config.pacePeriodMs
               | .continuous => none }

/-- R130: the OM empties the closed-deck set and re-derives the outlets whose deck was in it. -/
def State.clearClosedDecks (s : State) : State :=
  (s.onOm fun m => { m with closed := [] }).rederiveDecks s.om.closed

/-! ## Node Control (R190 to R194) -/

/-- R191: Node Control queues a HELLO. -/
def State.queueHello (s : State) : State :=
  s.send 0 (.hello { address := s.config.address, state := s.nc.state, retentionLost := s.ms.retentionLost,
                     digest := s.config.digest, decks := s.config.servedDecks })

/-- R193: the four conditions of the standby test. -/
def State.quiet (s : State) : Bool :=
  s.st.records.isEmpty && s.st.expectations.isEmpty && s.dc.commitments.isEmpty && s.dc.strokesIdle
    && s.hlc.queue.isEmpty

/-- R193, R143, R59: the node enters STANDBY. -/
def State.enterStandby (s : State) : State :=
  ((s.onNc fun n =>
      { n with state := .standby }.tally fun c => { c with standbys := c.standbys + 1 }).onOm
    fun m => { m with pass := none, paceTimer := none, refreshTimer := none }).onTrp
    fun t => { t with assembly := none }

/-- R193: the standby test. -/
def State.standbyTest (s : State) : State :=
  if s.nc.state = .standbyPending ∧ s.quiet = true then s.enterStandby else s

/-- R194: a wake cause returns a node in STANDBY to SORTING; in any other state nothing is restarted. -/
def State.wakeUp (s : State) : State :=
  if s.nc.state = .standby then
    ((s.onNc fun n =>
        { n with state := .sorting }.tally fun c => { c with wakes := c.wakes + 1 }).queueHello.startPass).queueOutletStates
  else s

/-- R190: Node Control enters JOINING: the join timer starts and a HELLO is queued. -/
def State.enterJoining (s : State) : State :=
  (s.onNc fun n => { n with state := .joining, joinTimer := some (s.config.joinSec * 1000) }).queueHello

/-! ## Taking a telegram (R172, R173, R178, R182, R183) -/

/-- R172: the node drives the confirm bit of a telegram in which it has found no fault. -/
def State.confirms (s : State) (rx : Rx) : Bool := (broadcast rx || addressedTo s.config rx) && s.hlc.line.drives

/-- R172: what the node drives in the confirm bit. -/
def State.confirmDrive (s : State) (rx : Rx) : LineDrive := if s.confirms rx then .confirm else .quiet

/-- R172, R173, R178: the HLC confirms a telegram and takes it: an error-free receipt. A telegram that comes while an
attempt of this node is in progress is taken the same way, and what was driven for it is what the node drove last (DESIGN
CHOICE, notes/assumptions/42.md). -/
def State.takeTelegram (s : State) (rx : Rx) : State :=
  s.onHlc fun h =>
    ({ h with
        drive := s.confirmDrive rx
        watch := h.watch.afterTelegram rx.check (rx.confirmed || s.confirms rx) }.rescore (scoreDown 1)).tally
      fun c => { c with taken := c.taken + 1 }

/-- R184: in CONFIG-FAULT a telegram is taken, and neither confirmed, scored nor delivered. -/
def State.takeInFault (s : State) (rx : Rx) : State :=
  s.onHlc fun h =>
    { h with watch := h.watch.afterTelegram rx.check rx.confirmed }.tally fun c => { c with taken := c.taken + 1 }

/-- R182, R183: a telegram that is not delivered is counted by what became of it. -/
def State.discard (s : State) : Judgement → State
  | .deliver => s
  | .elsewhere => s
  | .filtered => s.onHlc fun h => h.tally fun c => { c with filteredOut := c.filteredOut + 1 }
  | .malformed => s.onHlc fun h => h.tally fun c => { c with malformed := c.malformed + 1 }
  | .unknownClass => s.onHlc fun h => h.tally fun c => { c with unknownClass := c.unknownClass + 1 }

/-- R173, R182 to R184: a telegram received without error, given to its owner (`owner`) when it is delivered. -/
def State.receive (s : State) (cls : Byte) (rx : Rx) (p : List Byte) (owner : State → State) : State :=
  match s.nc.state with
  | .start => s
  | .configFault => s.takeInFault rx
  | _ =>
    match judgeTelegram s.config cls rx p with
    | .deliver => owner (s.takeTelegram rx)
    | j => (s.takeTelegram rx).discard j

/-- R194: an owner's rule for an addressed class that wakes the node. -/
def State.wakeIfAddressed (s : State) (rx : Rx) : State := if broadcast rx then s else s.wakeUp

end Sys2Proof.Machine
end

