-- ==== Sys2Proof/Machine/Outlets.lean ====
section
/-! DEFINITION. Chapter 6, the Outlet Monitor: gauge passes and readings, actuator faults, misses and jams, the
closed-deck set, outlet reports, and the peer outlet view. -/

namespace Sys2Proof.Machine

/-! ## Gauges (R120 to R125) -/

/-- R121, R123 to R125: an outlet record after a reading. -/
def OutletRecord.takeReading (c : OutletConfig) (reading : Nat) (faulted : Bool) (o : OutletRecord) : OutletRecord :=
  { o with reading := reading, fullLatch := fullLatchOf c o reading, gaugeFault := faulted, firstPending := false }

/-- R120, R122: where the converter goes after an outlet. -/
def NodeConfig.placeAfter (c : NodeConfig) (k : OutletNo) : Option OutletNo :=
  match c.nextFitted k with
  | some j => some j
  | none =>
    match c.gaugeMode with
    | .continuous => c.firstFitted
    | .paced => none

/-- R120 to R125, R131, R132: the end of an outlet's Nth conversion. -/
def State.takeConversions (s : State) (k : OutletNo) (codes : List (BitVec 10)) : State :=
  let o := s.om.outlet k
  (s.onOm fun m =>
    { m with
      outlets := m.outlets.set k
        (o.takeReading (s.config.outlet k) (readingOf s.config.averaging codes) (readingFaulted codes))
      pass := s.config.placeAfter k }.tally fun c =>
        if readingFaulted codes then { c with faultedReadings := c.faultedReadings + 1 } else c).rederive k o.firstPending

/-- GAUGE_CONVERSION_END (R120): the codes of the outlet the converter is on. -/
def execGaugeConversionEnd (codes : List (BitVec 10)) (s : State) : Host.Outcome State Fault Refusal :=
  .next (
    match s.om.pass with
    | some k => if s.running && codes.length == s.config.averaging then s.takeConversions k codes else s
    | none => s)

/-- GAUGE_PASS_START (R122): in PACED mode, 1,000 ms after the previous start. -/
def execGaugePassStart (s : State) : Host.Outcome State Fault Refusal :=
  .next (if s.running && s.om.paceTimer.isSome && s.om.pass.isNone then s.startPass else s)

/-! ## Actuator faults, misses and restores (R126 to R128) -/

/-- R126: the OM follows the filtered level of outlet k's fault input. -/
def State.followFault (s : State) (k : OutletNo) (asserted : Bool) : State :=
  (s.onOm (OutletMonitor.setOutlet k { s.om.outlet k with actuatorFault := asserted })).rederive k false

/-- ACTUATOR_FAULT_CHANGE (R15, R126): the samples of a fitted outlet's fault input. -/
def execActuatorFaultChange (k : OutletNo) (samples : List Bool) (s : State) : Host.Outcome State Fault Refusal :=
  .next (
    if s.running && (s.config.outlet k).fitted then
      s.heard (hearFault samples (s.inputs.faults.get k)) (State.putFault k) fun e t => t.followFault k e.level
    else s)

/-- R127: an outlet record after a miss. -/
def OutletRecord.miss (o : OutletRecord) : OutletRecord :=
  if o.misses < 2 then { o with misses := o.misses + 1 }
  else if o.misses = 2 then { o with misses := 3, jam := true }
  else { o with misses := 3 }

/-- R127: a miss that jams: the third since the last confirmation. -/
def OutletRecord.missJams (o : OutletRecord) : Bool := o.misses == 2

/-- R110, R127, R131: the DC reports a missed push. -/
def State.reportMiss (s : State) (k : OutletNo) : State :=
  let o := s.om.outlet k
  let t := s.onOm fun m => (m.setOutlet k o.miss).tally fun c => if o.missJams then { c with jams := c.jams + 1 } else c
  if o.missJams then t.rederive k false else t

/-- R108, R127: the DC reports a confirmed push. -/
def State.reportConfirmation (s : State) (k : OutletNo) : State :=
  s.onOm (OutletMonitor.setOutlet k { s.om.outlet k with misses := 0 })

/-- R128: the outlet an OUTLET-RESTORE names, if it is one of the node's. -/
def NodeConfig.fittedNumber (c : NodeConfig) (n : Nat) : Option OutletNo :=
  (OutletNo.ofNat? n).filter fun k => (c.outlet k).fitted

/-- R128: the OM takes an OUTLET-RESTORE. -/
def State.takeRestore (s : State) (rx : Rx) (n : Nat) : State :=
  match if broadcast rx then none else s.config.fittedNumber n with
  | none => s.onOm fun m => m.tally fun c => { c with restoresRefused := c.restoresRefused + 1 }
  | some k =>
    (s.onOm fun m =>
      (m.setOutlet k { s.om.outlet k with jam := false, misses := 0 }).tally
        fun c => { c with restores := c.restores + 1 }).rederive k false

/-- OUTLET_RESTORE (R128): addressed, it wakes a node in STANDBY (R194). -/
def execOutletRestore (rx : Rx) (p : List Byte) (s : State) : Host.Outcome State Fault Refusal :=
  .next (s.receive classOutletRestore rx p fun s => (s.wakeIfAddressed rx).takeRestore rx (byteAt p 0))

/-! ## The closed-deck set (R129) -/

/-- R129: a deck enters the set, kept in rising order. -/
def insertDeck (d : Nat) : List Nat → List Nat
  | [] => [d]
  | x :: xs => if d < x then d :: x :: xs else x :: insertDeck d xs

/-- R129: a DECK-CLOSE or DECK-OPEN that names a deck out of range. -/
def OutletMonitor.refuseDeck (m : OutletMonitor) : OutletMonitor :=
  m.tally fun c => { c with deckRefused := c.deckRefused + 1 }

/-- R129: the OM takes a DECK-CLOSE. -/
def State.takeDeckClose (s : State) (d : Nat) : State :=
  if inRange 1 Config.maxDeck d then
    (s.onOm fun m =>
      { m with closed := if m.closed.contains d then m.closed else insertDeck d m.closed }.tally
        fun c => { c with deckCloses := c.deckCloses + 1 }).rederiveDecks
        (if s.om.closed.contains d then [] else [d])
  else s.onOm OutletMonitor.refuseDeck

/-- DECK_CLOSE (R129). -/
def execDeckClose (rx : Rx) (p : List Byte) (s : State) : Host.Outcome State Fault Refusal :=
  .next (s.receive classDeckClose rx p fun s => s.takeDeckClose (byteAt p 0))

/-- R129: the OM takes a DECK-OPEN. -/
def State.takeDeckOpen (s : State) (d : Nat) : State :=
  if inRange 1 Config.maxDeck d then
    (s.onOm fun m =>
      { m with closed := m.closed.filter fun x => x != d }.tally
        fun c => { c with deckOpens := c.deckOpens + 1 }).rederiveDecks (if s.om.closed.contains d then [d] else [])
  else s.onOm OutletMonitor.refuseDeck

/-- DECK_OPEN (R129). -/
def execDeckOpen (rx : Rx) (p : List Byte) (s : State) : Host.Outcome State Fault Refusal :=
  .next (s.receive classDeckOpen rx p fun s => s.takeDeckOpen (byteAt p 0))

/-! ## Outlet reports (R134) -/

/-- REFRESH_TIMER_EXPIRY (R134): in STANDBY the timer is stopped (R143). -/
def execRefreshTimerExpiry (s : State) : Host.Outcome State Fault Refusal :=
  .next (if s.running && s.om.refreshTimer.isSome then s.queueOutletStates else s)

/-! ## The peer outlet view (R136 to R141) -/

/-- R137: an OUTLET-STATE as read: an unknown summary code reads as no summary. -/
structure ReceivedOutletState where
  deck    : Nat
  summary : Option Summary
  reading : Nat
deriving DecidableEq, Repr

/-- 11.2: the OUTLET-STATE payload. -/
def readOutletState (p : List Byte) : ReceivedOutletState :=
  { deck := byteAt p 0, summary := summaryOfCode (byteAt p 1), reading := byteAt p 2 }

/-- R136: the entry for a pair of peer and deck. -/
def ViewEntry.isFor (peer deck : Nat) (e : ViewEntry) : Bool := e.peer == peer && e.deck == deck

/-- R137: an OUTLET-STATE is applied to the view. -/
def OutletMonitor.hear (e : ViewEntry) (m : OutletMonitor) : OutletMonitor :=
  if m.view.any (ViewEntry.isFor e.peer e.deck) then
    { m with view := (m.view.filter fun x => !x.isFor e.peer e.deck) ++ [e] }
  else if m.view.length < Config.maxView then { m with view := m.view ++ [e] }
  else { m with view := m.view.drop 1 ++ [e] }.tally fun c => { c with viewReplacements := c.viewReplacements + 1 }

/-- R137: the OM takes an OUTLET-STATE. -/
def OutletMonitor.takeOutletState (c : NodeConfig) (rx : Rx) (r : ReceivedOutletState) (m : OutletMonitor) :
    OutletMonitor :=
  match r.summary with
  | none => m.tally fun c => { c with statesRefused := c.statesRefused + 1 }
  | some summary =>
    if inRange 1 Config.maxNode rx.sender.toNat && inRange 1 Config.maxDeck r.deck then
      if c.serves r.deck then
        m.hear { peer := rx.sender.toNat, deck := r.deck, summary := summary, reading := r.reading,
                 lastHeard := rx.time }
      else m.tally fun c => { c with statesUnserved := c.statesUnserved + 1 }
    else m.tally fun c => { c with statesRefused := c.statesRefused + 1 }

/-- OUTLET_STATE (R137). -/
def execOutletState (rx : Rx) (p : List Byte) (s : State) : Host.Outcome State Fault Refusal :=
  .next (s.receive classOutletState rx p fun s =>
    s.onOm (OutletMonitor.takeOutletState s.config rx (readOutletState p)))

/-- R136, R140: the time of an entry's expiry: three refresh periods after its last hearing. -/
def ViewEntry.expiry (c : NodeConfig) (e : ViewEntry) : Nat := e.lastHeard + 3 * (c.refreshSec * 1000)

/-- VIEW_EXPIRY (R140): the expiry of the entry for a pair, if it has come by the given time. -/
def execViewExpiry (peer deck time : Nat) (s : State) : Host.Outcome State Fault Refusal :=
  .next (
    if s.running && s.om.view.any (fun e => e.isFor peer deck && decide (e.expiry s.config ≤ time)) then
      s.onOm fun m =>
        { m with view := m.view.filter fun e => !e.isFor peer deck }.tally
          fun c => { c with viewExpiries := c.viewExpiries + 1 }
    else s)

/-- R141: a peer's HELLO wipes its entries. -/
def OutletMonitor.wipe (peer : Nat) (m : OutletMonitor) : OutletMonitor :=
  ({ m with view := m.view.filter fun e => e.peer != peer } : OutletMonitor).tally fun c =>
    { c with viewWiped := c.viewWiped + BitVec.ofNat 32 (m.view.countP fun (e : ViewEntry) => e.peer == peer) }

end Sys2Proof.Machine
end

