-- ==== Sys2Proof/Machine/Strays.lean ====
section
/-! DEFINITION. Chapter 7, the Stray Unit: IN-CHUTE entries and calls, reports from the line, the answer to a call,
the judging of claims, and claim windows. -/

namespace Sys2Proof.Machine

/-! ## IN-CHUTE entries (R153, R157) -/

/-- R157: the claims the stray node places from its own slice, in the entry's tag order. -/
def State.ownClaims (s : State) (tags : List Nat) : List ClaimFields := tags.filterMap s.claimFor

/-- R75, R157: the strayed mark of each tag found. -/
def ManifestStore.markAllStrayed (tags : List Nat) (m : ManifestStore) : ManifestStore :=
  tags.foldl (fun m t => m.markStrayed t) m

/-- R153: an IN-CHUTE entry for a tagless stray. -/
def StrayUnit.logTagless (reason : Option StrayReason) (lap : Nat) (length : Option Nat) (u : StrayUnit) : StrayUnit :=
  (u.create (.inChute reason) [] (some lap) length [] .none).tally
    fun c => { c with strayEntries := c.strayEntries + 1 }

/-- R153, R157, R159, R160: an IN-CHUTE entry for a tagged stray, with the stray node's own claims and its claim
window running. -/
def StrayUnit.logTagged (reason : Option StrayReason) (tags : List Nat) (lap : Nat) (length : Option Nat)
    (claims : List ClaimFields) (periodMs : Nat) (u : StrayUnit) : StrayUnit :=
  let v := u.create (.inChute reason) tags (some lap) length claims .running
  ({ v with timers := v.timers ++ [⟨u.nextSequence, periodMs⟩] } : StrayUnit).tally fun c =>
    { c with
      strayEntries := c.strayEntries + 1
      callsQueued := c.callsQueued + 1
      ownClaims := c.ownClaims + BitVec.ofNat 32 claims.length
      disputes := if claimStateOf claims .running = .disputed then c.disputes + 1 else c.disputes }

/-- R153: the SU is given a stray delivered into the stray outlet. -/
def State.logStray (s : State) (tags : List Nat) (reason : Option StrayReason) (lap : Nat) (length : Option Nat) :
    State :=
  if tags.isEmpty then (s.onSu (StrayUnit.logTagless reason lap length)).markLog
  else
    (((s.onSu (StrayUnit.logTagged reason tags lap length (s.ownClaims tags) s.config.claimMs)).onMs
      (ManifestStore.markAllStrayed tags)).markLog).send 0 (.strayCall s.su.nextSequence tags)

/-! ## LOST and MISPLACED from the line (R154, R155) -/

/-- R154: the checks on a LOST. -/
def lossRefused (r : LossReport) : Bool :=
  r.tags.contains 0 || !decide r.tags.Nodup || decide (2 < r.tags.length) || decide (7 < r.lap)
    || !inRange 1 Config.maxNode r.lastSection || !inRange 1 Config.maxNode r.reporter

/-- R154: the checks on a MISPLACED. -/
def misplacedRefused (r : ReceivedMisplaced) : Bool :=
  r.tag == 0 || !inRange 1 Config.maxDeck r.oldDeck
    || match r.cause, r.newCabin with
      | none, _ => true
      | some .withdrawn, c => c.isSome
      | some _, none => true
      | some _, some c => !inRange 1 Config.maxCabin c

/-- R155: a report at a node that holds no log. -/
def StrayUnit.reportNotLogged (u : StrayUnit) : StrayUnit :=
  u.tally fun c => { c with reportsNotLogged := c.reportsNotLogged + 1 }

/-- R154: a report that fails its checks. -/
def StrayUnit.reportRefused (u : StrayUnit) : StrayUnit :=
  u.tally fun c => { c with reportsRefused := c.reportsRefused + 1 }

/-- R154, R155: the SU takes a LOST from the line. -/
def State.takeLost (s : State) (r : LossReport) : State :=
  if s.config.isStrayNode then
    if lossRefused r then s.onSu StrayUnit.reportRefused
    else s.logReport (.lost r.lastSection r.reporter) r.tags (some r.lap)
  else s.onSu StrayUnit.reportNotLogged

/-- LOST (R154). -/
def execLost (rx : Rx) (p : List Byte) (s : State) : Host.Outcome State Fault Refusal :=
  .next (s.receive classLost rx p fun s => s.takeLost (readLost p))

/-- R154, R155: the SU takes a MISPLACED from the line; the reporting node is the sender. -/
def State.takeMisplaced (s : State) (reporter : Nat) (r : ReceivedMisplaced) : State :=
  if s.config.isStrayNode then
    if misplacedRefused r then s.onSu StrayUnit.reportRefused
    else s.logReport (.misplaced reporter r.oldDeck r.newCabin (r.cause.getD .moved)) [r.tag] none
  else s.onSu StrayUnit.reportNotLogged

/-- MISPLACED (R154). -/
def execMisplaced (rx : Rx) (p : List Byte) (s : State) : Host.Outcome State Fault Refusal :=
  .next (s.receive classMisplaced rx p fun s => s.takeMisplaced rx.sender.toNat (readMisplaced p))

/-! ## STRAY-CALL (R156) -/

/-- R156: the checks on a STRAY-CALL. -/
def callRefused (tags : List Nat) : Bool :=
  tags.isEmpty || decide (2 < tags.length) || tags.contains 0 || !decide tags.Nodup

/-- R156: the answer for one tag of a call: a CLAIM to the caller and the strayed mark, if the tag is found. -/
def State.answerCall (caller : Nat) (sequence : Count) (s : State) (tag : Nat) : State :=
  match s.claimFor tag with
  | some f =>
    ((s.send caller (.claim sequence f)).onMs (ManifestStore.markStrayed tag)).onSu
      fun u => u.tally fun c => { c with claimsQueued := c.claimsQueued + 1 }
  | none => s

/-- R156: the SU takes a STRAY-CALL. -/
def State.takeCall (s : State) (caller : Nat) (sequence : Count) (tags : List Nat) : State :=
  if callRefused tags then s.onSu fun u => u.tally fun c => { c with callsRefused := c.callsRefused + 1 }
  else
    tags.foldl (State.answerCall caller sequence)
      (s.onSu fun u => u.tally fun c => { c with callsTaken := c.callsTaken + 1 })

/-- STRAY_CALL (R156). -/
def execStrayCall (rx : Rx) (p : List Byte) (s : State) : Host.Outcome State Fault Refusal :=
  .next (s.receive classStrayCall rx p fun s => s.takeCall rx.sender.toNat (readSequence p) (readCallTags p))

/-! ## CLAIM (R162) -/

/-- R162: the lines of the table, by their counters. -/
inductive ClaimVerdict where
  | withoutLog | refused | unknown | unasked | mismatched | repeated | late | surplus | taken
deriving DecidableEq, Repr

/-- R162, line 2: the checks on a CLAIM. -/
def claimRefused (rx : Rx) (f : ClaimFields) : Bool :=
  f.tag == 0 || !inRange 1 Config.maxCabin f.cabin || decide (Config.maxDeck < f.deck)
    || !inRange 1 Config.maxNode f.node || f.node != rx.sender.toNat || broadcast rx

/-- R162, lines 4 to 9: a CLAIM against the entry it names. -/
def judgeClaim (e : LogEntry) (f : ClaimFields) : ClaimVerdict :=
  if e.window = .none then .unasked
  else if e.tags.contains f.tag = false then .mismatched
  else if e.claims.any fun d => d.node == f.node && d.tag == f.tag then .repeated
  else if e.window = .ended ∧ e.state ≠ .unclaimed then .late
  else if Config.maxClaims ≤ e.claims.length then .surplus
  else .taken

/-- R162: the first applicable line for a CLAIM. -/
def StrayUnit.judge (u : StrayUnit) (strayNode : Bool) (rx : Rx) (sequence : Count) (f : ClaimFields) : ClaimVerdict :=
  if strayNode = false then .withoutLog
  else if claimRefused rx f then .refused
  else
    match u.ring.find? fun e => e.sequence == sequence with
    | none => .unknown
    | some e => judgeClaim e f

/-- R162: the counter a verdict is counted under. -/
def ClaimVerdict.count (v : ClaimVerdict) (c : SuCounters) : SuCounters :=
  match v with
  | .withoutLog => { c with claimsWithoutLog := c.claimsWithoutLog + 1 }
  | .refused => { c with claimsRefused := c.claimsRefused + 1 }
  | .unknown => { c with claimsUnknown := c.claimsUnknown + 1 }
  | .unasked => { c with claimsUnasked := c.claimsUnasked + 1 }
  | .mismatched => { c with claimsMismatched := c.claimsMismatched + 1 }
  | .repeated => { c with claimsRepeated := c.claimsRepeated + 1 }
  | .late => { c with claimsLate := c.claimsLate + 1 }
  | .surplus => { c with claimsSurplus := c.claimsSurplus + 1 }
  | .taken => { c with claimsTaken := c.claimsTaken + 1 }

/-- R159, R162: a claim is appended to an entry and its state recomputed. -/
def LogEntry.addClaim (f : ClaimFields) (e : LogEntry) : LogEntry :=
  { e with claims := e.claims ++ [f], state := claimStateOf (e.claims ++ [f]) e.window }

/-- R159: an entry becomes DISPUTED from any other state. -/
def becomesDisputed (before after : LogEntry) : Bool := before.state != .disputed && after.state == .disputed

/-- R162, line 9: the claim is appended to the entry it names. -/
def StrayUnit.addClaim (sequence : Count) (f : ClaimFields) (u : StrayUnit) : StrayUnit :=
  ({ u with ring := u.ring.map fun e => if e.sequence = sequence then e.addClaim f else e } : StrayUnit).tally fun c =>
    { c with disputes :=
        if u.ring.any fun e => e.sequence == sequence && becomesDisputed e (e.addClaim f) then c.disputes + 1
        else c.disputes }

/-- R161, R162: the SU takes a CLAIM. -/
def State.takeClaim (s : State) (rx : Rx) (sequence : Count) (f : ClaimFields) : State :=
  let v := s.su.judge s.config.isStrayNode rx sequence f
  let t := s.onSu fun u => u.tally v.count
  if v = .taken then (t.onSu (StrayUnit.addClaim sequence f)).markLog else t

/-- CLAIM (R162): an addressed CLAIM wakes a node in STANDBY (R161, R194). -/
def execClaim (rx : Rx) (p : List Byte) (s : State) : Host.Outcome State Fault Refusal :=
  .next (s.receive classClaim rx p fun s =>
    (s.wakeIfAddressed rx).takeClaim rx (readSequence p) (readClaim p))

/-! ## Claim windows (R160, R165) -/

/-- R160: the window of an entry ends and its state is recomputed. -/
def LogEntry.endWindow (e : LogEntry) : LogEntry :=
  { e with window := .ended, state := claimStateOf e.claims .ended }

/-- R160: an OPEN entry becomes UNCLAIMED at the end of its window. -/
def LogEntry.goesUnclaimed (e : LogEntry) : Bool := e.state == .opened && e.endWindow.state == .unclaimed

/-- R160: the end of the window of the entry with a sequence number, with its timer no longer registered. -/
def StrayUnit.endWindowOf (sequence : Count) (u : StrayUnit) : StrayUnit :=
  ({ u with
    ring := u.ring.map fun e => if e.sequence = sequence then e.endWindow else e
    timers := u.timers.filter fun w => w.sequence != sequence } : StrayUnit).tally fun c =>
      { c with endedUnclaimed :=
          if u.ring.any fun e => e.sequence == sequence && e.goesUnclaimed then c.endedUnclaimed + 1
          else c.endedUnclaimed }

/-- CLAIM_WINDOW_END (R160): the end of a running window. -/
def execClaimWindowEnd (sequence : Count) (s : State) : Host.Outcome State Fault Refusal :=
  .next (
    if s.running && s.su.timers.any fun w => w.sequence == sequence then
      let t := s.onSu (StrayUnit.endWindowOf sequence)
      if s.su.ring.any fun e => e.sequence == sequence && e.goesUnclaimed then t.markLog else t
    else s)

/-- R165: in START every RUNNING window is ENDED, and each OPEN entry that becomes UNCLAIMED is counted. -/
def StrayUnit.endAllWindows (u : StrayUnit) : StrayUnit :=
  ({ u with
    ring := u.ring.map fun e => if e.window = .running then e.endWindow else e
    timers := [] } : StrayUnit).tally fun c =>
      { c with endedUnclaimed := c.endedUnclaimed +
          BitVec.ofNat 32 (u.ring.countP fun e => e.window == .running && e.goesUnclaimed) }

end Sys2Proof.Machine
end

