-- ==== Sys2Proof/Machine/TagReading.lean ====
section
/-! DEFINITION. Chapter 3, the Tag Read Port: the samples of the reader line, characters, framing errors, breaks and reports, rate measurement, and
the scan windows. -/

namespace Sys2Proof.Machine

/-- R46, R59: the port is fitted, the TRP runs, and it decodes characters. -/
def State.readerRuns (s : State) : Bool := s.running && s.config.readerFitted && s.trp.rateState == .running

/-- R46, R59: the port is fitted, the TRP runs, and it times a rate mark. -/
def State.readerMeasures (s : State) : Bool := s.running && s.config.readerFitted && s.trp.rateState == .measuring

/-! ## Binding reads and breaks (R55 to R57) -/

/-- R55: a valid report is bound to the oldest record in the window list, or is an orphan read. -/
def State.bindRead (s : State) (tag : Nat) : State :=
  match s.trp.windows with
  | [] => s.onTrp fun t => t.tally fun c => { c with orphanReads := c.orphanReads + 1 }
  | w :: _ =>
    (s.onTrp fun t => t.tally fun c => { c with boundReads := c.boundReads + 1 }).onSt
      (SectionTracker.tagRead w.record tag)

/-- R57: a break is bound to the oldest record in the window list that holds no tags, or is an orphan break. -/
def State.bindBreak (s : State) : State :=
  match s.trp.windows.find? fun w => (s.st.tagsOf w.record).isEmpty with
  | some w =>
    (s.onTrp fun t => t.tally fun c => { c with boundBreaks := c.boundBreaks + 1 }).closeWindow w.record .noRead
  | none => s.onTrp fun t => t.tally fun c => { c with orphanBreaks := c.orphanBreaks + 1 }

/-! ## Report assembly (R52, R53) -/

/-- R53: the report in assembly, if any, is invalid: one read error, its characters discarded. -/
def TagReadPort.invalidate (t : TagReadPort) : TagReadPort :=
  match t.assembly with
  | none => t
  | some _ => { t with assembly := none }.tally fun c => { c with readErrors := c.readErrors + 1 }

/-- R52: the end mark completes a report of these eleven characters, which is judged. -/
def State.judgeReport (s : State) (cs : List Byte) : State :=
  let digits := cs.map digitOf
  if checkDigitGood digits && tagOfDigits digits != 0 then
    (s.onTrp fun t =>
      { t with assembly := none }.tally fun c => { c with validReports := c.validReports + 1 }).bindRead
        (tagOfDigits digits)
  else s.onTrp TagReadPort.invalidate

/-- R52: report assembly takes a received character by its position. -/
def State.assemble (s : State) (ch : Byte) : State :=
  match s.trp.assembly with
  | none => if ch = reportMark then s.onTrp fun t => { t with assembly := some [] } else s
  | some cs =>
    if ch = reportMark then s.onTrp fun t => { t.invalidate with assembly := some [] }
    else if cs.length < 11 then
      if isDigitChar ch then s.onTrp fun t => { t with assembly := some (cs ++ [ch]) }
      else s.onTrp TagReadPort.invalidate
    else if ch = endMark then s.judgeReport cs
    else s.onTrp TagReadPort.invalidate

/-- R47: a character is received with a good stop bit. R59: in STANDBY report assembly takes none. -/
def State.receiveCharacter (s : State) (ch : Byte) : State :=
  let t := s.onTrp fun t => { t with framingRun := 0 }
  if s.nc.state = .standby then t else t.assemble ch

/-- R47: what a line event that ends with a received character does. -/
def State.takeCharacter (e : LineEvent) (s : State) : State :=
  match e with
  | .character ch => s.receiveCharacter ch
  | .framingError | .brokenLine => s

/-- CHARACTER_RECEIVED (R47, R52): the samples of the reader line. -/
def execCharacterReceived (line : List Bool) (s : State) : Host.Outcome State Fault Refusal :=
  .next (
    if s.readerRuns then
      s.heard (hearLine LineEvent.isCharacter line s.trp.receiver) State.putReceiver State.takeCharacter
    else s)

/-- REPORT (R52): the samples of the reader line; the character received is the end mark. -/
def execReport (s : State) (line : List Bool) : Host.Outcome State Fault Refusal :=
  .next (
    if s.readerRuns then
      s.heard (hearLine (fun e => e == .character endMark) line s.trp.receiver) State.putReceiver State.takeCharacter
    else s)

/-! ## Framing errors and breaks (R47, R48, R51) -/

/-- R51: the port returns to MEASURING, with no tick taken. -/
def TagReadPort.remeasure (t : TagReadPort) : TagReadPort :=
  { t with rateState := .measuring, divider := 0, measurement := .idle, framingRun := 0 }.tally
    fun c => { c with remeasurements := c.remeasurements + 1 }

/-- R47, R51, R53: the TRP after a framing error. -/
def TagReadPort.framingError (auto : Bool) (t : TagReadPort) : TagReadPort :=
  let u := { t.invalidate with framingRun := t.framingRun + 1 }.tally
    fun c => { c with framingErrors := c.framingErrors + 1 }
  if auto && decide (4 ≤ t.framingRun + 1) then u.remeasure else u

/-- R47: a character has a framing error. -/
def State.takeFramingError (s : State) : State :=
  s.onTrp (TagReadPort.framingError (s.config.readerRate == .auto))

/-- FRAMING_ERROR (R47): the samples of the reader line. -/
def execFramingError (s : State) (line : List Bool) : Host.Outcome State Fault Refusal :=
  .next (
    if s.readerRuns then
      s.heard (hearLine (fun e => e == .framingError) line s.trp.receiver) State.putReceiver
        fun _ t => t.takeFramingError
    else s)

/-- R48: a break is taken. R59: in STANDBY it is discarded without being counted. -/
def State.takeBreak (s : State) : State :=
  if s.nc.state = .standby then s
  else (s.onTrp fun t => t.invalidate.tally fun c => { c with breaks := c.breaks + 1 }).bindBreak

/-- BREAK (R48): the samples of the reader line. -/
def execReaderBreak (s : State) (line : List Bool) : Host.Outcome State Fault Refusal :=
  .next (
    if s.readerRuns then
      s.heard (hearLine (fun e => e == .brokenLine) line s.trp.receiver) State.putReceiver fun _ t => t.takeBreak
    else s)

/-! ## Rate measurement (R49, R50) -/

/-- R49: the port enters RUNNING with the divider of a measurement of this many ticks and its receiver in HUNTING. -/
def TagReadPort.finishMeasurement (ticks : Nat) (t : TagReadPort) : TagReadPort :=
  { t with rateState := .running, divider := dividerOf ticks, rateOverflow := false, receiver := .hunting false }.tally
    fun c => { c with rateMeasurements := c.rateMeasurements + 1 }

/-- R50: the measurement is abandoned. -/
def TagReadPort.abandonMeasurement (t : TagReadPort) : TagReadPort :=
  { t with rateOverflow := true }.tally fun c => { c with rateOverflows := c.rateOverflows + 1 }

/-- R49, R50: what the end of a measurement does. -/
def State.takeRate (e : RateEvent) (s : State) : State :=
  match e with
  | .measured ticks => s.onTrp (TagReadPort.finishMeasurement ticks)
  | .overflows => s.onTrp TagReadPort.abandonMeasurement

/-- RATE_MEASUREMENT (R49): the samples of the reader line, one a tick of the measurement clock. -/
def execRateMeasurement (line : List Bool) (s : State) : Host.Outcome State Fault Refusal :=
  .next (
    if s.readerMeasures then
      s.heard (hearTicks RateEvent.isMeasured line s.trp.measurement) State.putMeasurement State.takeRate
    else s)

/-- RATE_OVERFLOW (R50): the samples of the reader line, one a tick of the measurement clock. -/
def execRateOverflow (s : State) (line : List Bool) : Host.Outcome State Fault Refusal :=
  .next (
    if s.readerMeasures then
      s.heard (hearTicks RateEvent.isOverflow line s.trp.measurement) State.putMeasurement State.takeRate
    else s)

/-! ## Close points (R54) -/

/-- R54: the record's close point is taken, if it is registered and reached. -/
def State.takeClosePoint (s : State) (n : Count) : State :=
  match s.trp.window n with
  | some ⟨_, some c⟩ => if hasReached s.st.encoderCount c then s.closeWindowByTags n else s
  | _ => s

/-- R54: at a trailing edge the close point is registered, and taken at once if already reached (R7). -/
def State.registerClosePoint (s : State) (n leading : Count) (length : Nat) : State :=
  (s.onTrp fun t =>
    { t with windows := t.windows.map fun w =>
        if w.record = n then { w with close := some (closePointOf s.config leading length) } else w }).takeClosePoint n

/-- CLOSE_POINT (R54). -/
def execClosePoint (n : Count) (s : State) : Host.Outcome State Fault Refusal :=
  .next (if s.running then s.takeClosePoint n else s)

end Sys2Proof.Machine
end

