-- ==== Sys2Proof/Machine/Tracking.lean ====
section
/-! DEFINITION. Chapter 2, bag tracking and handoff: arrivals, trailing edges and their binding, the handoff eye, the
span, window-end and expiry points, and the HANDOFF telegram. -/

namespace Sys2Proof.Machine

/-! ## Arrivals (R16, R17, R19, R20) -/

/-- R17: the first number from c on that no record holds. -/
def freeNumber (used : List Count) : Nat → Count → Count
  | 0, c => c
  | n + 1, c => if used.contains c then freeNumber used n (c + 1) else c

/-- R17: the local number the ST gives the next record. -/
def SectionTracker.newNumber (t : SectionTracker) : Count :=
  freeNumber (t.records.map BagRecord.number) (t.records.length + 1) t.nextNumber

/-- R16: a record at its creation. -/
def BagRecord.create (number leading : Count) : BagRecord :=
  { number := number, leading := leading, length := none, binding := .awaiting, tags := [], readState := .windowOpen,
    lap := 0, deferred := false, missed := false, reason := none, commitment := none }

/-- R19, R21: the ST appends a record for a blocked edge at the present count. -/
def SectionTracker.arrive (t : SectionTracker) : SectionTracker :=
  { t with records := t.records ++ [BagRecord.create t.newNumber t.encoderCount],
           passage := .ofRecord t.newNumber, nextNumber := t.newNumber + 1,
           feedHold := feedHoldAfterAdd (t.records.length + 1) t.feedHold }.tally
    fun c => { c with arrivals := c.arrivals + 1 }

/-- R93: the arm points of a new record, one for each fitted outlet. -/
def armPointsFor (c : NodeConfig) (n leading : Count) : List ArmPoint :=
  c.fittedOutlets.map fun k => { record := n, outlet := k, count := armCountOf (c.outlet k) leading }

/-- R19: an arrival: the record, its scan window (R54) and its arm points (R93). -/
def State.arrive (s : State) : State :=
  let n := s.st.newNumber
  ((s.onSt SectionTracker.arrive).onTrp fun t => { t with windows := t.windows ++ [⟨n, none⟩] }).onDc
    fun d => { d with armPoints := d.armPoints ++ armPointsFor s.config n s.st.encoderCount }

/-- R20: an overflow arrival. -/
def SectionTracker.overflow (t : SectionTracker) : SectionTracker :=
  { t with passage := .ignored }.tally fun c => { c with overflowArrivals := c.overflowArrivals + 1 }

/-- R14, R19, R20: a blocked edge at the induction eye wakes a node in STANDBY and is then taken by the ST. -/
def State.inductionBlocked (s : State) : State :=
  let t := s.wakeUp
  if t.st.records.length < Config.maxRecords then t.arrive else t.onSt SectionTracker.overflow

/-- INDUCTION_BLOCKED_EDGE (R12, R19): the samples of the induction eye. -/
def execInductionBlockedEdge (s : State) (samples : List Bool) : Host.Outcome State Fault Refusal :=
  .next (
    if s.running then
      s.heard (hearInduction true samples s.inputs.induction) State.putInduction fun _ t => t.inductionBlocked
    else s)

/-! ## Binding (R26 to R31) -/

/-- R29: the tags after a merge, and whether a third distinct tag was met. -/
def mergeTags (held : List Nat) : List Nat → List Nat × Bool
  | [] => (held, false)
  | t :: ts =>
    if held.contains t then mergeTags held ts
    else if held.length < Config.maxRecordTags then mergeTags (held ++ [t]) ts
    else ((mergeTags held ts).1, true)

/-- R29: the read state after a merge: READ for a record closed without tags to which the merge gave one. -/
def mergedReadState (r : BagRecord) (merged : List Nat) : ReadState :=
  match r.readState with
  | .noRead | .notRead => if r.tags.length < merged.length then .read else r.readState
  | .windowOpen | .read => r.readState

/-- R29: binding, upstream, tags and read state. -/
def BagRecord.join (e : Expectation) (r : BagRecord) : BagRecord :=
  let m := mergeTags r.tags e.tags
  let r' := { r with binding := .bound e.node e.bag, tags := m.1, readState := mergedReadState r m.1 }
  if m.2 then r'.giveReason .tagSurplus else r'

/-- R30, R31: the lap a binding gives. -/
def boundLap (c : NodeConfig) (lap : Nat) : Nat := min (if c.lapOrigin then lap + 1 else lap) c.lapLimit

/-- R30, R31: lap, flags and stray reason. -/
def BagRecord.inherit (c : NodeConfig) (e : Expectation) (r : BagRecord) : BagRecord :=
  let r' := { r with
    lap := boundLap c e.lap
    deferred := if c.lapOrigin then r.deferred else r.deferred || e.deferred
    missed := r.missed || e.missed
    reason := match r.reason with
      | some x => some x
      | none => e.reason }
  if c.lapOrigin && r'.lap == c.lapLimit then r'.giveReason .lapLimit else r'

/-- R29 to R31: a HANDOFF binds to a record. -/
def BagRecord.bind (c : NodeConfig) (e : Expectation) (r : BagRecord) : BagRecord := (r.join e).inherit c e

/-- R37: the LOST of an expectation. -/
def Expectation.loss (c : NodeConfig) (e : Expectation) : LossReport :=
  { lastSection := e.node, lap := e.lap, reporter := c.address, tags := e.tags }

/-- R26: an AWAITING record whose length has been set is tested against the expectation list. -/
def State.bindAtTrailing (s : State) (n : Count) (length : Nat) : State :=
  match s.st.expectations with
  | [] => s
  | e :: rest =>
    if withinTolerance s.config.tolerance e.length length then
      s.onSt fun t => { t with expectations := rest }.modify n (BagRecord.bind s.config e)
    else if s.config.mergeLimit < length then s
    else
      match rest with
      | [] => s
      | e2 :: rest2 =>
        if withinTolerance s.config.tolerance e2.length length then
          ((s.onSt fun t =>
            { t with expectations := rest }.tally fun c => { c with expectationsLost := c.expectationsLost + 1 }).reportLost
              (e.loss s.config)).onSt
            fun t => { t with expectations := rest2 }.modify n (BagRecord.bind s.config e2)
        else s

/-! ## The trailing edge (R22) -/

/-- R22: a record shorter than the minimum length is withdrawn. -/
def State.withdraw (s : State) (n : Count) : State :=
  ((s.onSt fun t => (t.remove n).tally fun c => { c with withdrawn := c.withdrawn + 1 }).endRecord n).standbyTest

/-- R22, R26: a record that is AWAITING takes part in the trailing-edge binding. -/
def State.bindIfAwaiting (s : State) (n : Count) (length : Nat) : State :=
  match s.st.record n with
  | some r => if r.binding = .awaiting then s.bindAtTrailing n length else s
  | none => s

/-- R22: the trailing edge of the passage of a record in the list. -/
def State.trailingEdge (s : State) (n leading : Count) : State :=
  let length := (s.st.encoderCount - leading).toNat
  let t := (s.onSt (SectionTracker.modify n fun r => { r with length := some length })).registerClosePoint n leading
    length
  if length < s.config.minLength then t.withdraw n
  else if s.config.mergeLimit < length then
    (t.onSt (SectionTracker.modify n (BagRecord.giveReason .gap))).bindIfAwaiting n length
  else t.bindIfAwaiting n length

/-- R22: a cleared edge that finds no passage's record. -/
def SectionTracker.unmatched (t : SectionTracker) : SectionTracker :=
  t.tally fun c => { c with unmatchedTrailing := c.unmatchedTrailing + 1 }

/-- R22: a cleared edge at the induction eye. -/
def State.inductionCleared (s : State) : State :=
  let t := s.onSt fun t => { t with passage := .none }
  match s.st.passage with
  | .ignored => t
  | .none => t.onSt SectionTracker.unmatched
  | .ofRecord n =>
    match s.st.record n with
    | none => t.onSt SectionTracker.unmatched
    | some r => t.trailingEdge n r.leading

/-- INDUCTION_CLEARED_EDGE (R12, R22): the samples of the induction eye. -/
def execInductionClearedEdge (s : State) (samples : List Bool) : Host.Outcome State Fault Refusal :=
  .next (
    if s.running then
      s.heard (hearInduction false samples s.inputs.induction) State.putInduction fun _ t => t.inductionCleared
    else s)

/-! ## The handoff eye (R33 to R35) -/

/-- R33: the candidate for a blocked edge at the handoff eye. -/
def SectionTracker.candidate (t : SectionTracker) : Option BagRecord := t.records.find? fun r => !r.isFired

/-- R34: the content of the HANDOFF for a record. -/
def BagRecord.handoffFields (c : NodeConfig) (r : BagRecord) : HandoffFields :=
  { bag := r.number, tags := r.tags, length := r.length.getD 0, readState := r.handoffReadState c.readerFitted,
    lap := r.lap, deferred := r.deferred, missed := r.missed, reason := r.reason }

/-- R34: the candidate is handed off. -/
def State.handOff (s : State) (r : BagRecord) : State :=
  (((s.onSt fun t =>
    (t.remove r.number).tally fun c => { c with handedOff := c.handedOff + 1 }).send s.config.downstream
      (.handoff (r.handoffFields s.config))).endRecord r.number).standbyTest

/-- R34, R35: a blocked edge at the handoff eye. -/
def State.handoffBlocked (s : State) : State :=
  match s.st.candidate with
  | some r =>
    if hasReached s.st.encoderCount (windowStartOf s.config r.leading) then s.handOff r
    else s.onSt fun t => t.tally fun c => { c with untracked := c.untracked + 1 }
  | none => s.onSt fun t => t.tally fun c => { c with untracked := c.untracked + 1 }

/-- HANDOFF_EYE_BLOCKED_EDGE (R12, R34, R35): the samples of the handoff eye. -/
def execHandoffEyeBlockedEdge (s : State) (samples : List Bool) : Host.Outcome State Fault Refusal :=
  .next (
    if s.running then
      s.heard (hearEye samples s.inputs.handoff) State.putHandoff fun _ t => t.handoffBlocked
    else s)

/-! ## Span, window-end and expiry points (R25, R28, R36) -/

/-- R28: a record still AWAITING at its span point becomes NEW. -/
def BagRecord.spanned (r : BagRecord) : BagRecord := if r.binding = .awaiting then { r with binding := .new } else r

/-- R28: the span point of a record, if reached. -/
def State.takeSpanPoint (s : State) (n : Count) : State :=
  match s.st.record n with
  | some r =>
    if hasReached s.st.encoderCount (spanPointOf s.config r.leading) then
      s.onSt (SectionTracker.modify n BagRecord.spanned)
    else s
  | none => s

/-- SPAN_POINT (R28). -/
def execSpanPoint (n : Count) (s : State) : Host.Outcome State Fault Refusal :=
  .next (if s.running then s.takeSpanPoint n else s)

/-- R37: the LOST of a record. -/
def BagRecord.loss (c : NodeConfig) (r : BagRecord) : LossReport :=
  { lastSection := c.address, lap := r.lap, reporter := c.address, tags := r.tags }

/-- R36: the window-end point of a record, if reached. -/
def State.takeWindowEnd (s : State) (n : Count) : State :=
  match s.st.record n with
  | some r =>
    if hasReached s.st.encoderCount (windowEndOf s.config r.leading) then
      (((s.onSt fun t => (t.remove n).tally fun c => { c with lost := c.lost + 1 }).reportLost
        (r.loss s.config)).endRecord n).standbyTest
    else s
  | none => s

/-- WINDOW_END_POINT (R36). -/
def execWindowEndPoint (n : Count) (s : State) : Host.Outcome State Fault Refusal :=
  .next (if s.running then s.takeWindowEnd n else s)

/-- R23: an expectation is named by its sending node and upstream bag number. -/
def Expectation.isFrom (node : Nat) (bag : Count) (e : Expectation) : Bool := e.node == node && e.bag == bag

/-- R25: the expiry point of an expectation, if reached. -/
def State.takeExpiry (s : State) (node : Nat) (bag : Count) : State :=
  match s.st.expectations.find? (Expectation.isFrom node bag) with
  | some e =>
    if hasReached s.st.encoderCount (expiryPointOf s.config e.receipt) then
      ((s.onSt fun t =>
        { t with expectations := t.expectations.filter fun x => !x.isFrom node bag }.tally
          fun c => { c with expectationsLost := c.expectationsLost + 1 }).reportLost (e.loss s.config)).standbyTest
    else s
  | none => s

/-- EXPIRY_POINT (R25). -/
def execExpiryPoint (node : Nat) (bag : Count) (s : State) : Host.Outcome State Fault Refusal :=
  .next (if s.running then s.takeExpiry node bag else s)

/-! ## The HANDOFF telegram (R23, R24, R27) -/

/-- R23: a repeat of a HANDOFF already taken. -/
def SectionTracker.alreadyTaken (t : SectionTracker) (node : Nat) (bag : Count) : Bool :=
  t.expectations.any (Expectation.isFrom node bag) || t.records.any fun r => r.binding == .bound node bag

/-- R23: the checks the ST refuses a HANDOFF on. -/
def SectionTracker.refuses (t : SectionTracker) (rx : Rx) (h : ReceivedHandoff) : Bool :=
  broadcast rx || decide (2 < h.tagCount) || h.tags.contains 0 || !decide h.tags.Nodup || decide (7 < h.lap)
    || !(h.readCode == 1 || h.readCode == 2 || h.readCode == 3) || (reasonOfCode h.reasonCode).isNone
    || t.alreadyTaken rx.sender.toNat h.bag

/-- R23: the content of a HANDOFF taken at a count. -/
def expectationOf (node : Nat) (h : ReceivedHandoff) (receipt : Count) : Expectation :=
  { node := node, bag := h.bag, tags := h.tags, length := h.length, lap := h.lap, deferred := h.deferred,
    missed := h.missed, reason := (reasonOfCode h.reasonCode).getD none, receipt := receipt }

/-- R27: the record a HANDOFF of this length late-binds to. -/
def SectionTracker.lateRecord (t : SectionTracker) (tol length : Nat) : Option BagRecord :=
  t.records.find? fun r => r.binding == .awaiting && withinTolerance tol r.measured length

/-- R24: an expectation joins the list; a full list first loses its oldest. -/
def SectionTracker.expect (e : Expectation) (t : SectionTracker) : SectionTracker :=
  if t.expectations.length < Config.maxExpectations then { t with expectations := t.expectations ++ [e] }
  else { t with expectations := t.expectations.drop 1 ++ [e] }.tally
    fun c => { c with expectationOverflow := c.expectationOverflow + 1 }

/-- R23, R27: the ST takes a HANDOFF. -/
def SectionTracker.takeHandoff (c : NodeConfig) (rx : Rx) (h : ReceivedHandoff) (t : SectionTracker) :
    SectionTracker :=
  if t.refuses rx h then t.tally fun c => { c with handoffsRefused := c.handoffsRefused + 1 }
  else
    let e := expectationOf rx.sender.toNat h t.encoderCount
    match t.lateRecord c.tolerance h.length with
    | some r => t.modify r.number (BagRecord.bind c e)
    | none => t.expect e

/-- HANDOFF (R23): an addressed HANDOFF wakes a node in STANDBY (R194). -/
def execHandoff (rx : Rx) (p : List Byte) (s : State) : Host.Outcome State Fault Refusal :=
  .next (s.receive classHandoff rx p fun s =>
    (s.wakeIfAddressed rx).onSt (SectionTracker.takeHandoff s.config rx (readHandoff p)))

end Sys2Proof.Machine
end

