-- ==== Sys2Proof/Machine/Divert.lean ====
section
/-! DEFINITION. Chapter 5, the Divert Controller: the decision sequence, commitments, firing, misses, stroke timers and
exit-eye edges. -/

namespace Sys2Proof.Machine

/-! ## The decision sequence (R95 to R99) -/

/-- R96: the outcomes of the decision sequence. -/
inductive Decision where
  /-- No divert. -/
  | pass
  /-- No divert, for a missing length (R98). -/
  | passNoLength
  /-- The record receives a stray reason; no divert. -/
  | markStray (reason : StrayReason)
  /-- Step 13: the record's deferred flag is set; no divert. -/
  | deferBag
  /-- Step 1: commit to the stray outlet. -/
  | commitStray
  /-- Step 14: commit to the deck outlet for this tag, cabin and deck. -/
  | commitDeck (tag cabin deck : Nat)
deriving DecidableEq, Repr

/-- R95: the entries found for a record's tags, in the record's tag order. -/
def ManifestStore.found (m : ManifestStore) (tags : List Nat) : List TagEntry := tags.filterMap m.lookup

/-- R96, step 4: the entries found name different cabins. -/
def cabinsConflict : List TagEntry → Bool
  | a :: b :: _ => a.cabin != b.cabin
  | _ => false

/-- R96, step 10: the cabin record has delivered equal to expected. -/
def ManifestStore.cabinComplete (m : ManifestStore) (cabin : Nat) : Bool :=
  match m.cabin cabin with
  | some r => r.complete
  | none => false

/-- R96, step 13: the view holds a live OPEN-LOW entry for the deck from another node below this reading. -/
def OutletMonitor.betterPeer (m : OutletMonitor) (address deck reading : Nat) : Bool :=
  m.view.any fun e => e.deck == deck && e.peer != address && e.summary == .openLow && decide (e.reading < reading)

/-- R96, step 1, for a record that carries a stray reason. -/
def strayDecision (o : OutletConfig) (m : OutletRecord) (length : Option Nat) : Decision :=
  if o.role = .stray ∧ m.state = .opened then
    match length with
    | none => .passNoLength
    | some l => if l ≤ o.maxLength then .commitStray else .pass
  else .pass

/-- R96, steps 11 to 14, for the entry used at an outlet of its deck. -/
def outletDecision (s : State) (k : OutletNo) (deck : Nat) (r : BagRecord) (e : TagEntry) : Decision :=
  let o := s.config.outlet k
  let m := s.om.outlet k
  match r.length with
  | none => .passNoLength
  | some l =>
    if o.maxLength < l ∨ (e.oversize = true ∧ o.longCapable = false) then .pass
    else if m.state ≠ .opened then .pass
    else if o.shareLimit ≤ m.reading ∧ r.deferred = false ∧ s.om.betterPeer s.config.address deck m.reading = true then
      .deferBag
    else .commitDeck e.tag e.cabin deck

/-- R96, steps 6 to 14, for the entry used at an outlet of role DECK(deck). -/
def entryDecision (s : State) (k : OutletNo) (deck : Nat) (r : BagRecord) (e : TagEntry) : Decision :=
  match lookupCabin s.ms.map e.cabin with
  | .contested => .markStray .mapConflict
  | .unmapped => .pass
  | .deck d =>
    if d ≠ deck then .pass
    else if s.om.closed.contains d then .markStray .deckClosed
    else if e.marked then .markStray .duplicate
    else if s.ms.cabinComplete e.cabin then .markStray .excess
    else outletDecision s k deck r e

/-- R96: the decision for a record at outlet k. -/
def decideRoute (s : State) (k : OutletNo) (r : BagRecord) : Decision :=
  if r.reason.isSome then strayDecision (s.config.outlet k) (s.om.outlet k) r.length
  else
    match (s.config.outlet k).role with
    | .stray => .pass
    | .deck deck =>
      let es := s.ms.found r.tags
      if cabinsConflict es then .markStray .tagConflict
      else
        match es with
        | [] => .pass
        | e :: _ => entryDecision s k deck r e

/-! ## Firing and missing (R103, R104, R110) -/

/-- R91: the phase of a commitment changes. -/
def DivertController.setFired (n : Count) (d : DivertController) : DivertController :=
  { d with commitments := d.commitments.map fun c => if c.record = n then { c with phase := .fired } else c }

/-- R103: the record's commitment is in phase FIRED. -/
def BagRecord.fire (r : BagRecord) : BagRecord :=
  { r with commitment := r.commitment.map fun c => { c with phase := .fired } }

/-- R110: the record's commitment is absent and its missed flag set. -/
def BagRecord.miss (r : BagRecord) : BagRecord := { r with commitment := none, missed := true }

/-- R110: the deadline point of a FIRED commitment is taken: the push is missed. -/
def State.missPush (s : State) (c : Commitment) : State :=
  (((s.onDc fun d => (d.release c.record).tally fun x => { x with misses := x.misses + 1 }).onSt
    (SectionTracker.notice c.record BagRecord.miss)).reportMiss c.outlet).standbyTest

/-- R110: the deadline point of a record's FIRED commitment, if reached. -/
def State.takeDeadline (s : State) (n : Count) : State :=
  match s.dc.commitmentOf n with
  | some c =>
    if c.phase = .fired ∧ hasReached s.st.encoderCount c.deadline = true then s.missPush c else s
  | none => s

/-- R103: the pusher fires; a deadline already reached is taken at once (R7). -/
def State.firePusher (s : State) (c : Commitment) : State :=
  ((s.onDc fun d =>
      { d.setFired c.record with
        strokes := d.strokes.set c.outlet (some (s.config.outlet c.outlet).strokeMs) }.tally
        fun x => { x with fires := x.fires + 1 }).onSt
    (SectionTracker.notice c.record BagRecord.fire)).takeDeadline c.record

/-- R104: the pusher is busy: the commitment is dropped. -/
def State.dropBusy (s : State) (c : Commitment) : State :=
  ((s.onDc fun d => (d.release c.record).tally fun x => { x with pusherBusy := x.pusherBusy + 1 }).onSt
    (SectionTracker.notice c.record BagRecord.uncommit)).standbyTest

/-- R103, R104: the fire point of a record's ARMED commitment, if reached. -/
def State.takeFirePoint (s : State) (n : Count) : State :=
  match s.dc.commitmentOf n with
  | some c =>
    if c.phase = .armed ∧ hasReached s.st.encoderCount c.fire = true then
      match s.dc.strokes.get c.outlet with
      | none => s.firePusher c
      | some _ => s.dropBusy c
    else s
  | none => s

/-- FIRE_POINT (R103, R104). -/
def execFirePoint (n : Count) (s : State) : Host.Outcome State Fault Refusal :=
  .next (if s.running then s.takeFirePoint n else s)

/-- DEADLINE_POINT (R110). -/
def execDeadlinePoint (n : Count) (s : State) : Host.Outcome State Fault Refusal :=
  .next (if s.running then s.takeDeadline n else s)

/-! ## Arm points (R93, R94, R100) -/

/-- R100 to R102: the commitment of a record to outlet k. -/
def commitmentFor (s : State) (k : OutletNo) (r : BagRecord) (kind : CommitmentKind) : Commitment :=
  let o := s.config.outlet k
  let lead := leadOf o s.st.speed
  let fire := fireCountOf o r.leading r.measured lead
  { record := r.number, outlet := k, kind := kind, lead := lead, fire := fire, deadline := deadlineOf o fire,
    phase := .armed }

/-- R16, R38: the ST's view of a commitment made. -/
def Commitment.onRecord (c : Commitment) (r : BagRecord) : BagRecord :=
  { r with commitment := some { outlet := c.outlet, fire := c.fire, deadline := c.deadline, phase := c.phase } }

/-- R100: a commitment is made; a fire point already reached is taken at once (R7). -/
def State.commit (s : State) (k : OutletNo) (r : BagRecord) (kind : CommitmentKind) : State :=
  let c := commitmentFor s k r kind
  let clamped := (s.config.outlet k).arm < unclampedLead s.st.speed (s.config.outlet k).leadMs
  ((s.onDc fun d =>
      { d with commitments := d.commitments ++ [c] }.tally fun x =>
        { x with
          commitments := x.commitments + 1
          leadClamped := if clamped then x.leadClamped + 1 else x.leadClamped }).onSt
    (SectionTracker.notice r.number c.onRecord)).takeFirePoint r.number

/-- R97 to R100: the outcome of the decision sequence is carried out. -/
def State.carryOut (s : State) (k : OutletNo) (r : BagRecord) : Decision → State
  | .pass => s
  | .passNoLength => s.onDc fun d => d.tally fun x => { x with noLengthAtArm := x.noLengthAtArm + 1 }
  | .markStray reason => s.onSt (SectionTracker.notice r.number (BagRecord.giveReason reason))
  | .deferBag =>
    (s.onDc fun d => d.tally fun x => { x with deferrals := x.deferrals + 1 }).onSt
      (SectionTracker.notice r.number fun r => { r with deferred := true })
  | .commitStray => s.commit k r .stray
  | .commitDeck tag cabin deck => s.commit k r (.deck tag cabin deck)

/-- R94: a record is evaluated for outlet k. -/
def State.evaluate (s : State) (k : OutletNo) (r : BagRecord) : State :=
  (s.onDc fun d => d.tally fun x => { x with evaluations := x.evaluations + 1 }).carryOut k r (decideRoute s k r)

/-- R93: an arm point is spent. -/
def DivertController.spend (n : Count) (k : OutletNo) (d : DivertController) : DivertController :=
  { d with armPoints := d.armPoints.filter fun p => !(p.record == n && p.outlet == k) }

/-- R93, R94: the arm point of a record for outlet k, if registered and reached. -/
def State.takeArmPoint (s : State) (n : Count) (k : OutletNo) : State :=
  match s.dc.armPoints.find? fun p => p.record == n && p.outlet == k with
  | some p =>
    if hasReached s.st.encoderCount p.count then
      let t := s.onDc (DivertController.spend n k)
      match s.st.record n with
      | some r => if s.nc.state = .joining ∨ r.commitment.isSome = true then t else t.evaluate k r
      | none => t
    else s
  | none => s

/-- ARM_POINT (R96). -/
def execArmPoint (n : Count) (k : OutletNo) (s : State) : Host.Outcome State Fault Refusal :=
  .next (if s.running then s.takeArmPoint n k else s)

/-! ## Stroke timers (R105) -/

/-- STROKE_TIMER_EXPIRY (R105): a running stroke timer expires. -/
def execStrokeTimerExpiry (k : OutletNo) (s : State) : Host.Outcome State Fault Refusal :=
  .next (
    if s.running && (s.dc.strokes.get k).isSome then
      (s.onDc fun d => { d with strokes := d.strokes.set k none }).standbyTest
    else s)

/-! ## Exit eyes (R107 to R112) -/

/-- R107: a FIRED commitment for outlet k. -/
def Commitment.firedFor (k : OutletNo) (c : Commitment) : Bool := c.outlet == k && c.phase == .fired

/-- R107: the FIRED commitment for outlet k whose record is oldest in the tracking list, with that record. -/
def State.confirmed (s : State) (k : OutletNo) : Option (BagRecord × Commitment) :=
  s.st.records.findSome? fun r =>
    (s.dc.commitments.find? fun c => c.record == r.number && c.firedFor k).map fun c => (r, c)

/-- R108: what every confirmed push does: the record leaves the list and ends, the outlet's miss counter returns
to 0, and the delivery is counted. -/
def State.deliverPush (s : State) (k : OutletNo) (r : BagRecord) : State :=
  ((((s.onDc fun d => (d.release r.number).tally fun x => { x with deliveries := x.deliveries + 1 }).onSt
    fun t => (t.remove r.number).tally fun x => { x with diverted := x.diverted + 1 }).endRecord
      r.number).reportConfirmation k)

/-- R108, R109, R112: what follows by kind: the mark and the DELIVERED, or the stray for the SU. -/
def State.followDelivery (s : State) (k : OutletNo) (r : BagRecord) : CommitmentKind → State
  | .deck tag cabin deck =>
    (s.onMs (ManifestStore.markSelf tag k deck)).send 0
      (.delivered { tag := tag, cabin := cabin, deck := deck, node := s.config.address, outlet := k.number })
  | .stray =>
    (s.onDc fun d => d.tally fun x => { x with strayDeliveries := x.strayDeliveries + 1 }).logStray r.tags r.reason
      r.lap r.length

/-- R107, R111: a blocked edge at outlet k's exit eye. -/
def State.exitBlocked (s : State) (k : OutletNo) : State :=
  match s.confirmed k with
  | some (r, c) => ((s.deliverPush k r).followDelivery k r c.kind).standbyTest
  | none => s.onDc fun d => d.tally fun x => { x with unsolicited := x.unsolicited + 1 }

/-- EXIT_EYE_BLOCKED_EDGE (R12, R107, R111): the samples of a fitted outlet's exit eye. -/
def execExitEyeBlockedEdge (k : OutletNo) (s : State) (samples : List Bool) : Host.Outcome State Fault Refusal :=
  .next (
    if s.running && (s.config.outlet k).fitted then
      s.heard (hearEye samples (s.inputs.exits.get k)) (State.putExit k) fun _ t => t.exitBlocked k
    else s)

end Sys2Proof.Machine
end

