-- ==== Sys2Proof/Machine/Belt.lean ====
section
/-! DEFINITION. Chapter 1: the encoder count with the points it reaches, and the speed windows. -/

namespace Sys2Proof.Machine

/-! ## Points (R7) -/

/-- R7: the points the blocks register, by the record or expectation they belong to. -/
inductive Point where
  | span (n : Count)
  | windowEnd (n : Count)
  | expiry (node : Nat) (bag : Count)
  | close (n : Count)
  | arm (n : Count) (k : OutletNo)
  | fire (n : Count)
  | deadline (n : Count)
deriving DecidableEq, Repr

/-- R7, R28: the span points reached and not yet taken; at a record no longer AWAITING the span point is done. -/
def State.dueSpans (s : State) : List Point :=
  (s.st.records.filter fun r =>
    r.binding == .awaiting && hasReached s.st.encoderCount (spanPointOf s.config r.leading)).map fun r => .span r.number

/-- R7, R36: the window-end points reached and not yet taken. -/
def State.dueWindowEnds (s : State) : List Point :=
  (s.st.records.filter fun r => hasReached s.st.encoderCount (windowEndOf s.config r.leading)).map
    fun r => .windowEnd r.number

/-- R7, R25: the expiry points reached and not yet taken. -/
def State.dueExpiries (s : State) : List Point :=
  (s.st.expectations.filter fun e => hasReached s.st.encoderCount (expiryPointOf s.config e.receipt)).map
    fun e => .expiry e.node e.bag

/-- R7, R54: the close points reached and not yet taken. -/
def State.dueCloses (s : State) : List Point :=
  (s.trp.windows.filter fun w =>
    match w.close with
    | some c => hasReached s.st.encoderCount c
    | none => false).map fun w => .close w.record

/-- R7, R93: the arm points reached and not yet taken. -/
def State.dueArms (s : State) : List Point :=
  (s.dc.armPoints.filter fun p => hasReached s.st.encoderCount p.count).map fun p => .arm p.record p.outlet

/-- R7, R103, R110: the fire and deadline points reached and not yet taken. -/
def State.duePushes (s : State) : List Point :=
  (s.dc.commitments.filter fun c =>
    match c.phase with
    | .armed => hasReached s.st.encoderCount c.fire
    | .fired => hasReached s.st.encoderCount c.deadline).map fun c =>
      match c.phase with
      | .armed => .fire c.record
      | .fired => .deadline c.record

/-- R7: every point reached and not yet taken. -/
def State.duePoints (s : State) : List Point :=
  s.dueCloses ++ s.dueSpans ++ s.duePushes ++ s.dueArms ++ s.dueWindowEnds ++ s.dueExpiries

/-- R7: a point is taken by the rule that registered it. -/
def State.takePoint (s : State) : Point → State
  | .span n => s.takeSpanPoint n
  | .windowEnd n => s.takeWindowEnd n
  | .expiry node bag => s.takeExpiry node bag
  | .close n => s.takeClosePoint n
  | .arm n k => s.takeArmPoint n k
  | .fire n => s.takeFirePoint n
  | .deadline n => s.takeDeadline n

/-- R6, R7: the points that an advance of the count reaches are taken at that event, in this order where one count reaches
several (DESIGN CHOICE, notes/assumptions/8.md). -/
def State.settlePoints (s : State) : State := s.duePoints.foldl State.takePoint s

/-- R6, R9: an accepted pulse advances the count and the open speed window's count, the latter up to 4,095. -/
def SectionTracker.advance (t : SectionTracker) : SectionTracker :=
  { t with encoderCount := t.encoderCount + 1, windowCount := min Config.maxWindowCount (t.windowCount + 1) }

/-- ENCODER_PULSE (R6): the count advances, and every registered point that this advance reaches is taken. -/
def execEncoderPulse (s : State) : Host.Outcome State Fault Refusal :=
  .next (if s.running then (s.onSt SectionTracker.advance).settlePoints else s)

/-! ## Speed windows (R9, R10) -/

/-- R9, R10: a speed window ends. -/
def SectionTracker.endWindow (t : SectionTracker) : SectionTracker :=
  { t with windowCount := 0, speed := 4 * t.windowCount, overrange := t.windowCount == Config.maxWindowCount }.tally
    fun c =>
      if t.windowCount = Config.maxWindowCount then { c with speedOverrange := c.speedOverrange + 1 } else c

/-- SPEED_WINDOW_END (R9). -/
def execSpeedWindowEnd (s : State) : Host.Outcome State Fault Refusal :=
  .next (if s.running then s.onSt SectionTracker.endWindow else s)

end Sys2Proof.Machine
end

