-- ==== Sys2Proof/Machine/HallLine.lean ====
section
/-! DEFINITION. Chapter 8, the Hall Line Controller: attempts and their ends, receive errors, detachment, idle gaps
and the rejoin, and the telegrams discarded before delivery. -/

namespace Sys2Proof.Machine

/-! ## The bits of the line (R169, R171, R184) -/

/-- R184: the node states in which the HLC reads the line. -/
def State.readsLine (s : State) : Bool := s.running || s.nc.state == .configFault

/-- R174: an entry is on the line. -/
def HallLine.attempting (h : HallLine) : Bool := h.queue.any SendEntry.onLine

/-- R175, R179: the queue holds a telegram and the node may send it. -/
def State.maySend (s : State) : Bool :=
  s.running && s.hlc.line.drives && !s.hlc.attempting && !s.hlc.queue.isEmpty

/-- R169, R175: a chance to start: the line is idle, no start bit has been read on it, and the node may send. -/
def State.chance (s : State) : Bool := s.maySend && s.hlc.watch.idle

/-- R180: a MUTE node at 255 holds a telegram, and none is on the line. -/
def HallLine.detaches (h : HallLine) : Bool :=
  h.line == .mute && h.score == Config.maxScore && !h.queue.isEmpty && !h.attempting

/-- R169, R180, R181: an idle gap is an event at a node that may send, that counts idle gaps or that detaches at one, and passes
by at any other; the other events of the line are events at every node. -/
def State.tellsHall (s : State) : HallEvent → Bool
  | .idleGap => s.maySend || s.running && (s.hlc.line == .detached || s.hlc.detaches)
  | .received _ _ | .fault _ | .ended _ => true

/-- R167, R169: the bits of a command of the hall line, for the events of one command. At a chance to start the next event is the
node's own start, so no bit comes before it (DESIGN CHOICE, notes/assumptions/47.md). -/
def State.hearHall (row : HallEvent → Bool) (line : List Bool) (s : State) : Option (LineWatch × Option HallEvent) :=
  if s.chance && !line.isEmpty then none else hear LineWatch.sample s.tellsHall row line s.hlc.watch

/-- R169: what has been read on the line stands at w. -/
def State.putWatch (w : LineWatch) (s : State) : State := s.onHlc fun h => { h with watch := w }

/-! ## The start of an attempt (R169, R174, R175) -/

/-- R175: an attempt starts with the first entry in the order; the node drives its bits (R167). -/
def HallLine.startAttempt (address : Nat) (h : HallLine) : HallLine :=
  match h.queue with
  | [] => h
  | e :: es =>
    { h with
      queue := { e with onLine := true } :: es
      drive := .telegram (e.telegram.levels address)
      watch := .attempting [] (e.telegram.levels address) }

/-- R169, R175: at a chance to start, the node starts. -/
def State.startAttempt (s : State) : State :=
  if s.chance then s.onHlc (HallLine.startAttempt s.config.address) else s

/-- ATTEMPT_START (R169, R175, R179): at the bit boundary after these bits; a node that may send starts at the first one that
follows an idle gap, and on an idle line at the next one. -/
def execAttemptStart (s : State) (line : List Bool := []) : Host.Outcome State Fault Refusal :=
  .next (
    if s.readsLine then
      match s.hearHall (fun e => e.isIdleGap && s.maySend) line with
      | none => s
      | some (w, _) => (s.putWatch w).startAttempt
    else s)

/-! ## The end of an attempt (R172, R175, R176) -/

/-- R175: the ends of an attempt. -/
inductive AttemptEnd where
  | confirmed | lost | failed
deriving DecidableEq, Repr

/-- R170, R172: the outcome of an attempt: an error mark or a missing confirm is a transmit error. -/
def attemptEndOf : AttemptResult → AttemptEnd
  | .lostArbitration => .lost
  | .bitError => .failed
  | .confirmSlot _ true => .failed
  | .confirmSlot false false => .failed
  | .confirmSlot true false => .confirmed

/-- R176: a newer telegram that supersedes the one on the line is waiting. -/
def newerWaiting (e : SendEntry) (q : List SendEntry) : Bool :=
  q.any fun x => !x.onLine && x.telegram.body.supersedes e.telegram.body

/-- R175: the entry on the line leaves the queue. -/
def HallLine.dropOnLine (h : HallLine) : HallLine := { h with queue := h.queue.filter fun e => !e.onLine }

/-- R175, R176: an attempt that did not deliver the entry ends: the entry is kept at its place with its new
attempt count, unless a newer one waits. -/
def HallLine.keepOnLine (attempts : Nat) (e : SendEntry) (h : HallLine) : HallLine :=
  if newerWaiting e h.queue then h.dropOnLine.tally fun c => { c with superseded := c.superseded + 1 }
  else
    { h with queue := h.queue.map fun x => if x.onLine then { x with attempts := attempts, onLine := false } else x }

/-- R175, R178: a transmit error, outside the last rule of R180. -/
def HallLine.failAttempt (e : SendEntry) (h : HallLine) : HallLine :=
  ((if Config.maxAttempts ≤ e.attempts + 1 then h.dropOnLine.tally fun c => { c with givenUp := c.givenUp + 1 }
    else h.keepOnLine (e.attempts + 1) e).rescore (scoreUp 8)).tally
      fun c => { c with transmitErrors := c.transmitErrors + 1 }

/-- R180, R181: a transmit error with the score at 255: the node enters DETACHED, and every entry of the queue is
given up. -/
def HallLine.detach (h : HallLine) : HallLine :=
  { h with queue := [], line := .detached, idleGaps := 0 }.tally fun c =>
    { c with
      transmitErrors := c.transmitErrors + 1
      detachments := c.detachments + 1
      givenUp := c.givenUp + BitVec.ofNat 32 h.queue.length }

/-- R170, R179: what the node drives once its attempt has ended: an error mark where it read a bit back other than it sent,
in the line states in which it may drive, and nothing otherwise. The line state is the one in which the bit was read, before the
transmit error scores (DESIGN CHOICE, notes/assumptions/51.md). -/
def HallLine.driveAfter (result : AttemptResult) (h : HallLine) : LineDrive :=
  match result with
  | .bitError => if h.line.drives then .errorMark else .quiet
  | .lostArbitration => .quiet
  | .confirmSlot _ _ => .quiet

/-- R175: the end of the attempt of an entry. -/
def HallLine.endAttempt (e : SendEntry) (result : AttemptResult) (h : HallLine) : HallLine :=
  let u := { h with drive := h.driveAfter result }
  match attemptEndOf result with
  | .confirmed => (u.dropOnLine.rescore (scoreDown 1)).tally fun c => { c with sent := c.sent + 1 }
  | .lost => (u.keepOnLine e.attempts e).tally fun c => { c with arbitrationLost := c.arbitrationLost + 1 }
  | .failed => if h.score = Config.maxScore then u.detach else u.failAttempt e

/-- R175: the attempt of the entry on the line ends; the HLC reports an empty queue (R193). -/
def State.endAttempt (e : HallEvent) (s : State) : State :=
  match e, s.hlc.queue.find? SendEntry.onLine with
  | .ended result, some entry => (s.onHlc (HallLine.endAttempt entry result)).standbyTest
  | _, _ => s

/-- ATTEMPT_END (R175): the bits of the line up to the one that ends this node's attempt. In CONFIG-FAULT there is none (R184). -/
def execAttemptEnd (line : List Bool) (s : State) : Host.Outcome State Fault Refusal :=
  .next (if s.running then s.heard (s.hearHall HallEvent.isEnd line) State.putWatch State.endAttempt else s)

/-! ## Receive errors (R171, R178) -/

/-- R171, R178, R179: a telegram being received ends with a receive error, which the node marks from the next bit on in the
line states that mark errors, whatever the fault: another station's error mark is read as a framing fault of its own. The line
state is the one in which the fault was found, before the receive error scores (DESIGN CHOICE, notes/assumptions/51.md). -/
def HallLine.receiveError (h : HallLine) : HallLine :=
  ({ h with drive := if h.line.drives then .errorMark else .quiet }.rescore (scoreUp 1)).tally
    fun c => { c with receiveErrors := c.receiveErrors + 1 }

/-- R184: in CONFIG-FAULT the receive error is counted; nothing is driven and no score is kept. -/
def HallLine.receiveErrorUnscored (h : HallLine) : HallLine :=
  h.tally fun c => { c with receiveErrors := c.receiveErrors + 1 }

/-- R171, R184: the telegram being received ends with a fault. -/
def State.takeFault (s : State) : State :=
  s.onHlc (if s.running then HallLine.receiveError else HallLine.receiveErrorUnscored)

/-- RECEIVE_ERROR (R171): the bits of the line up to the one that shows the fault; in START the line is not read. -/
def execReceiveError (line : List Bool) (s : State) : Host.Outcome State Fault Refusal :=
  .next (
    if s.readsLine then s.heard (s.hearHall HallEvent.isFault line) State.putWatch fun _ t => t.takeFault
    else s)

/-! ## Idle gaps: detachment and rejoin (R180, R181) -/

/-- R180: an idle gap passes at a MUTE node at 255 with a telegram queued. -/
def State.detach (s : State) : State := (s.onHlc fun h => { h with drive := .quiet }.detach).standbyTest

/-- R181: the HLC's part of a rejoin. -/
def HallLine.rejoin (h : HallLine) : HallLine :=
  { h with line := .active, score := 0, idleGaps := 0 }.tally fun c => { c with rejoins := c.rejoins + 1 }

/-- R181, R135, R133: the node rejoins: a HELLO, and a round in the node states that report outlets. -/
def State.rejoin (s : State) : State :=
  let t := (s.onHlc HallLine.rejoin).queueHello
  if s.nc.state.reportsOutlets then t.queueOutletStates else t

/-- R181: the next idle gap brings the idle-gap counter of a DETACHED node to 96. -/
def HallLine.rejoinsNext (h : HallLine) : Bool := h.line == .detached && decide (Config.rejoinGaps ≤ h.idleGaps + 1)

/-- R180, R181: an idle gap: the detachment of a MUTE node at 255, one more gap counted while DETACHED, or the rejoin at the
gap that makes the counter 96. -/
def State.takeIdleGap (s : State) : State :=
  if s.running then
    if s.hlc.detaches then s.detach
    else if s.hlc.rejoinsNext then s.rejoin
    else if s.hlc.line = .detached then s.onHlc fun h => { h with idleGaps := h.idleGaps + 1 }
    else s
  else s

/-- IDLE_GAP (R169, R181): the bits of the line up to the end of an idle gap. -/
def execIdleGap (s : State) (line : List Bool := []) : Host.Outcome State Fault Refusal :=
  .next (
    if s.readsLine then s.heard (s.hearHall HallEvent.isIdleGap line) State.putWatch fun _ t => t.takeIdleGap else s)

/-- DETACHMENT (R180): the idle gap at which a node detaches. -/
def execDetachment (s : State) (line : List Bool := []) : Host.Outcome State Fault Refusal :=
  .next (
    if s.readsLine then
      s.heard (s.hearHall (fun e => e.isIdleGap && s.hlc.detaches) line) State.putWatch fun _ t => t.takeIdleGap
    else s)

/-- REJOIN (R181): the idle gap at which a node rejoins. -/
def execRejoin (s : State) (line : List Bool := []) : Host.Outcome State Fault Refusal :=
  .next (
    if s.readsLine then
      s.heard (s.hearHall (fun e => e.isIdleGap && s.hlc.rejoinsNext) line) State.putWatch fun _ t => t.takeIdleGap
    else s)

/-! ## Discards (R182, R183) -/

/-- R182 to R184: a telegram taken from the line that no block is given. A telegram that would be delivered is the
event of its class's own command, and this one then has no effect. -/
def State.takeDiscarded (s : State) (cls : Byte) (rx : Rx) (p : List Byte) : State :=
  match s.nc.state with
  | .start => s
  | .configFault => s.takeInFault rx
  | _ =>
    match judgeTelegram s.config cls rx p with
    | .deliver => s
    | j => (s.takeTelegram rx).discard j

/-- TELEGRAM_DISCARDED (R183). -/
def execTelegramDiscarded (cls : Byte) (rx : Rx) (p : List Byte) (s : State) : Host.Outcome State Fault Refusal :=
  .next (s.takeDiscarded cls rx p)

end Sys2Proof.Machine
end

