-- ==== Sys2Proof/Machine/NodeControl.lean ====
section
/-! DEFINITION. Chapter 9, Node Control: the join timer, RESET, STANDBY, WAKE and HELLO. -/

namespace Sys2Proof.Machine

/-! ## Joining (R190) -/

/-- R190: the join timer expires and the node enters SORTING. -/
def NodeControl.finishJoining (n : NodeControl) : NodeControl :=
  { n with state := .sorting, joinTimer := none }.tally fun c => { c with joins := c.joins + 1 }

/-- JOIN_TIMER_EXPIRY (R190): the timer runs only in JOINING. -/
def execJoinTimerExpiry (s : State) : Host.Outcome State Fault Refusal :=
  .next (if s.nc.state = .joining ∧ s.nc.joinTimer.isSome = true then s.onNc NodeControl.finishJoining else s)

/-! ## RESET (R195, R11, R43, R61, R115, R144, R165, R185) -/

/-- R11, R43: the ST's part of a RESET: the lists and the passage go, the feed hold is released, and a new speed
window starts. -/
def SectionTracker.abandonAll (t : SectionTracker) : SectionTracker :=
  { t with records := [], expectations := [], passage := .none, feedHold := false, windowCount := 0, speed := 0,
           overrange := false }.tally
    fun c => { c with abandoned := c.abandoned + BitVec.ofNat 32 t.records.length }

/-- R43, R61, R113: every record is abandoned and ends. -/
def State.abandon (s : State) : State :=
  s.st.records.foldl (fun s r => s.endRecord r.number) (s.onSt SectionTracker.abandonAll)

/-- R115: the DC's part of a RESET. -/
def DivertController.clearAll (d : DivertController) : DivertController :=
  { d with commitments := [], armPoints := [], strokes := ⟨none, none, none, none⟩ }

/-- R185: the HLC's part of a RESET, taken at the end of its own confirm slot: no telegram of this node is on the line. -/
def HallLine.clearAtReset (h : HallLine) : HallLine :=
  { h with queue := [], score := 0, line := .active, idleGaps := 0, watch := h.watch.withoutAttempt }.tally
    fun c => { c with clearedAtReset := c.clearedAtReset + BitVec.ofNat 32 h.queue.length }

/-- R195: the blocks act on a RESET. -/
def State.resetBlocks (s : State) : State :=
  (((s.abandon).onDc DivertController.clearAll).onOm fun m => { m with view := [] }).onHlc HallLine.clearAtReset

/-- R195: the node enters JOINING with a HELLO, and the OM queues a round (R135). -/
def State.rejoinHall (s : State) : State :=
  (s.onNc fun n => n.tally fun c => { c with resets := c.resets + 1 }).enterJoining.queueOutletStates

/-- R195: Node Control takes a RESET. Taken in STANDBY, where the OM's passes are stopped (R143), it starts a pass
(DEDUCED, notes/assumptions/19.md). -/
def State.takeReset (s : State) : State :=
  let t := s.resetBlocks.rejoinHall
  if s.nc.state = .standby then t.startPass else t

/-- RESET (R195). -/
def execReset (rx : Rx) (p : List Byte) (s : State) : Host.Outcome State Fault Refusal :=
  .next (s.receive classReset rx p State.takeReset)

/-! ## STANDBY and WAKE (R192 to R194) -/

/-- R192: a command ignored in the node's state. -/
def State.ignoreCommand (s : State) : State :=
  s.onNc fun n => n.tally fun c => { c with commandsIgnored := c.commandsIgnored + 1 }

/-- R192, R193: Node Control takes a STANDBY. -/
def State.takeStandby (s : State) : State :=
  match s.nc.state with
  | .sorting => (s.onNc fun n => { n with state := .standbyPending }).standbyTest
  | _ => s.ignoreCommand

/-- STANDBY (R192). -/
def execStandby (rx : Rx) (p : List Byte) (s : State) : Host.Outcome State Fault Refusal :=
  .next (s.receive classStandby rx p State.takeStandby)

/-- R192, R194: Node Control takes a WAKE. -/
def State.takeWake (s : State) : State :=
  match s.nc.state with
  | .standbyPending => s.onNc fun n => { n with state := .sorting }
  | .standby => s.wakeUp
  | _ => s.ignoreCommand

/-- WAKE (R192): addressed or with destination 0. -/
def execWake (rx : Rx) (p : List Byte) (s : State) : Host.Outcome State Fault Refusal :=
  .next (s.receive classWake rx p State.takeWake)

/-! ## HELLO (R191, R141) -/

/-- R191: Node Control counts a HELLO, and a sender that carries this node's own address. -/
def NodeControl.hearHello (clash : Bool) (n : NodeControl) : NodeControl :=
  n.tally fun c =>
    { c with
      hellosTaken := c.hellosTaken + 1
      addressClashes := if clash then c.addressClashes + 1 else c.addressClashes }

/-- R191, R141: Node Control and the OM take a HELLO. -/
def State.takeHello (s : State) (sender : Nat) : State :=
  (s.onNc (NodeControl.hearHello (sender == s.config.address))).onOm (OutletMonitor.wipe sender)

/-- HELLO (R191). -/
def execHello (rx : Rx) (p : List Byte) (s : State) : Host.Outcome State Fault Refusal :=
  .next (s.receive classHello rx p fun s => s.takeHello rx.sender.toNat)

end Sys2Proof.Machine
end

