-- ==== Sys2Proof/Machine/Manifest.lean ====
section
/-! DEFINITION. Chapter 4, the Manifest Store: MANIFEST and its amendments, withdrawals, peers' deliveries, the deck
map, the sweep and the purge. -/

namespace Sys2Proof.Machine

/-- What a rule of the MS leaves: the stores, and the MISPLACED it gives, in order. -/
structure StoreChange where
  store   : ManifestStore
  reports : List MisplacedReport
deriving DecidableEq, Repr

/-- A rule of the MS takes effect: the stores change and each MISPLACED is queued (R71). -/
def State.commitStores (s : State) (x : StoreChange) : State :=
  x.reports.foldl State.reportMisplaced (s.onMs fun _ => x.store)

/-- A lookup gives a deck the node does not serve. -/
def CabinLookup.unserved (c : NodeConfig) : CabinLookup → Bool
  | .deck d => !c.serves d
  | .unmapped => false
  | .contested => false

/-! ## Insertion (R66, R67) -/

/-- R66: the checks on a MANIFEST. -/
def manifestRefused (f : ManifestFields) : Bool :=
  f.tag == 0 || !inRange 1 Config.maxCabin f.cabin || !inRange 1 Config.maxPieces f.pieces

/-- R67: an inserted entry. -/
def insertedEntry (f : ManifestFields) (look : CabinLookup) : TagEntry :=
  { tag := f.tag, cabin := f.cabin, pieces := f.pieces, oversize := f.oversize, placement := placementOf look,
    mark := .none, strayed := false }

/-- R67: an insertion. -/
def ManifestStore.insert (c : NodeConfig) (f : ManifestFields) (m : ManifestStore) : ManifestStore :=
  let look := lookupCabin m.map f.cabin
  if look.unserved c then m.tally fun c => { c with outsideSlice := c.outsideSlice + 1 }
  else if Config.maxTagEntries ≤ m.table.length then m.tally fun c => { c with tableFull := c.tableFull + 1 }
  else if look = .unmapped ∧ Config.maxUnplaced ≤ unplacedCount m.table then
    m.tally fun c => { c with unplacedFull := c.unplacedFull + 1 }
  else if m.cabin f.cabin = none ∧ Config.maxCabins ≤ m.cabins.length then
    m.tally fun c => { c with cabinFull := c.cabinFull + 1 }
  else if Config.maxPieces ≤ (m.entriesOf f.cabin).length then
    m.tally fun c => { c with piecesFull := c.piecesFull + 1 }
  else ((m.put (insertedEntry f look)).declare f.cabin f.pieces).tally fun c => { c with inserted := c.inserted + 1 }

/-! ## Amendments (R68 to R70) -/

/-- R68: an amendment that names the entry's cabin. -/
def ManifestStore.amend (f : ManifestFields) (e : TagEntry) (m : ManifestStore) : ManifestStore :=
  ((m.put { e with pieces := f.pieces, oversize := f.oversize }).declare f.cabin f.pieces).tally
    fun c => { c with amendments := c.amendments + 1 }

/-- R69: whether a cabin move keeps the entry's mark, by the old and the new lookup. -/
def keepsMark (old new : CabinLookup) : DeliveredMark → Bool
  | .none => true
  | .self _ e =>
    match new with
    | .deck d => d == e
    | .unmapped => true
    | .contested => true
  | .peer _ =>
    match old, new with
    | .deck d, .deck d' => d == d'
    | _, _ => true

/-- R71: the MISPLACED for an entry, if its mark is SELF. -/
def TagEntry.misplaced (e : TagEntry) (cause : MisplacedCause) (newCabin : Option Nat) : List MisplacedReport :=
  match e.mark with
  | .self _ deck => [{ tag := e.tag, oldDeck := deck, cause := cause, newCabin := newCabin }]
  | _ => []

/-- R70: an entry that moves. -/
def TagEntry.moved (f : ManifestFields) (keep : Bool) (look : CabinLookup) (e : TagEntry) : TagEntry :=
  { e with cabin := f.cabin, pieces := f.pieces, oversize := f.oversize, mark := if keep then e.mark else .none,
           placement := placementOf look }

/-- R69, R70: a cabin move. A removal to a deck not served here that is the SELF mark's own deck queues no MISPLACED, since R69
keeps the mark there (DESIGN CHOICE, notes/assumptions/44.md). A move that ends in a removal does not set expected of a record of
the cabin it names: R70 sets it for an entry that moves (DESIGN CHOICE, notes/assumptions/50.md). -/
def ManifestStore.move (c : NodeConfig) (f : ManifestFields) (e : TagEntry) (m : ManifestStore) : StoreChange :=
  let old := lookupCabin m.map e.cabin
  let new := lookupCabin m.map f.cabin
  let keep := keepsMark old new e.mark
  let reports := if keep then [] else e.misplaced .moved (some f.cabin)
  let amended := fun (x : ManifestStore) => x.tally fun c => { c with amendments := c.amendments + 1 }
  if new.unserved c then ⟨amended (m.drop e), reports⟩
  else if Config.maxPieces ≤ (m.entriesOf f.cabin).length then
    ⟨m.tally fun c => { c with piecesFull := c.piecesFull + 1 }, []⟩
  else if m.cabin f.cabin = none ∧ Config.maxCabins ≤ m.cabins.length ∧ 1 < (m.entriesOf e.cabin).length then
    ⟨m.tally fun c => { c with cabinFull := c.cabinFull + 1 }, []⟩
  else if new = .unmapped ∧ e.placement = .placed ∧ Config.maxUnplaced ≤ unplacedCount m.table then
    ⟨amended ((m.drop e).tally fun c => { c with unplacedFull := c.unplacedFull + 1 }),
      e.misplaced .moved (some f.cabin)⟩
  else
    ⟨amended ((({ m with table := putEntry (e.moved f keep new) m.table }.recount e.cabin).recount f.cabin).declare
      f.cabin f.pieces), reports⟩

/-- R66: a MANIFEST is checked and applied. -/
def ManifestStore.applyManifest (c : NodeConfig) (f : ManifestFields) (m : ManifestStore) : StoreChange :=
  if manifestRefused f then ⟨m.tally fun c => { c with manifestsRefused := c.manifestsRefused + 1 }, []⟩
  else
    match m.entry f.tag with
    | none => ⟨m.insert c f, []⟩
    | some e => if e.cabin = f.cabin then ⟨m.amend f e, []⟩ else m.move c f e

/-! ## Withdrawals (R72) -/

/-- R72: a MANIFEST-WITHDRAW removes the entry it names. -/
def ManifestStore.applyWithdraw (tag : Nat) (m : ManifestStore) : StoreChange :=
  match m.entry tag with
  | none => ⟨m, []⟩
  | some e =>
    ⟨(m.drop e).tally fun c => { c with withdrawals := c.withdrawals + 1 }, e.misplaced .withdrawn none⟩

/-! ## The deck map (R76 to R79) -/

/-- R76: the checks on a DECK-MAP. -/
def deckMapRefused (f : DeckMapFields) : Bool :=
  !inRange 1 Config.maxCabin f.first || !inRange 1 Config.maxCabin f.last || decide (f.last < f.first)
    || (!f.withdraw && !inRange 1 Config.maxDeck f.deck)

/-- R77: a span widened once by every range of deck d that it overlaps. -/
def widenOnce (d : Nat) (rs : List MapRange) (span : Nat × Nat) : Nat × Nat :=
  rs.foldl (fun sp r =>
    if r.deck == d && spansOverlap r.span sp then (min sp.1 r.first, max sp.2 r.last) else sp) span

/-- R77: the union: the span is widened in turn until no further range of deck d is taken in. -/
def widen (d : Nat) (rs : List MapRange) : Nat → Nat × Nat → Nat × Nat
  | 0, span => span
  | n + 1, span => widen d rs n (widenOnce d rs span)

/-- R77: the union of a new span of deck d. -/
def unionOf (d : Nat) (rs : List MapRange) (span : Nat × Nat) : Nat × Nat := widen d rs (rs.length + 1) span

/-- R77: a range of deck d that the union takes in. -/
def takenIn (d : Nat) (union : Nat × Nat) (r : MapRange) : Bool := r.deck == d && spansOverlap r.span union

/-- R64: ranges are kept in order of first cabin, then of last cabin, then of deck. -/
def MapRange.before (a b : MapRange) : Bool :=
  decide (a.first < b.first) || (a.first == b.first
    && (decide (a.last < b.last) || (a.last == b.last && decide (a.deck ≤ b.deck))))

/-- R64: a range is entered at its place in the order. -/
def insertRange (r : MapRange) : List MapRange → List MapRange
  | [] => [r]
  | x :: xs => if r.before x then r :: x :: xs else x :: insertRange r xs

/-- R80, R81: a sweep starts, or starts again; with no entry to examine it completes. -/
def ManifestStore.startSweep (m : ManifestStore) : ManifestStore :=
  if m.table.isEmpty then { m with sweep := none }.tally fun c => { c with sweepsCompleted := c.sweepsCompleted + 1 }
  else { m with sweep := some 0 }

/-- R77, R79: the map changes: the contest states are recomputed and a sweep starts. -/
def ManifestStore.changeMap (rs : List MapRange) (m : ManifestStore) : ManifestStore :=
  { m with map := recontest rs }.startSweep

/-- R77, R79: what a DECK-MAP does. -/
inductive MapChange where
  | unchanged
  | full
  | notFound
  | changed (map : List MapRange)
deriving DecidableEq, Repr

/-- R77: a range of deck d is added. -/
def addRange (d : Nat) (span : Nat × Nat) (rs : List MapRange) : MapChange :=
  let union := unionOf d rs span
  if rs.any fun r => r.deck == d && r.span == union then .unchanged
  else if rs.any (takenIn d union) || decide (rs.length < Config.maxRanges) then
    .changed (insertRange ⟨union.1, union.2, d, .clear⟩ (rs.filter fun r => !takenIn d union r))
  else .full

/-- R79: the ranges with exactly this span are withdrawn, whatever their deck. -/
def withdrawRanges (span : Nat × Nat) (rs : List MapRange) : MapChange :=
  if rs.any fun r => r.span == span then .changed (rs.filter fun r => r.span != span) else .notFound

/-- R76, R77, R79: the change a DECK-MAP that passes its checks makes. -/
def DeckMapFields.change (f : DeckMapFields) (rs : List MapRange) : MapChange :=
  if f.withdraw then withdrawRanges (f.first, f.last) rs else addRange f.deck (f.first, f.last) rs

/-- R76 to R79, R202: a DECK-MAP is checked and applied. -/
def State.applyDeckMap (s : State) (f : DeckMapFields) : State :=
  if deckMapRefused f then s.onMs fun m => m.tally fun c => { c with mapRefused := c.mapRefused + 1 }
  else
    match f.change s.ms.map with
    | .unchanged => s
    | .full => s.onMs fun m => m.tally fun c => { c with mapFull := c.mapFull + 1 }
    | .notFound => s.onMs fun m => m.tally fun c => { c with mapNotFound := c.mapNotFound + 1 }
    | .changed map => (s.onMs (ManifestStore.changeMap map)).markMap

/-! ## The hold queue (R83) -/

/-- A manifest telegram is applied by its rule (R66 to R79). -/
def State.applyHeld (s : State) : HeldTelegram → State
  | .manifest f => s.commitStores (s.ms.applyManifest s.config f)
  | .withdraw tag => s.commitStores (s.ms.applyWithdraw tag)
  | .deckMap f => s.applyDeckMap f

/-- R83: a telegram is put at the newest end of the hold queue, or dropped. -/
def ManifestStore.holdTelegram (t : HeldTelegram) (m : ManifestStore) : ManifestStore :=
  if m.hold.length < Config.maxHeld then { m with hold := m.hold ++ [t] }
  else m.tally fun c => { c with holdOverruns := c.holdOverruns + 1 }

/-- R83: the MS takes a manifest telegram: held while a purge runs, applied otherwise. -/
def State.takeManifestTelegram (s : State) (t : HeldTelegram) : State :=
  if s.ms.purgeRunning then s.onMs (ManifestStore.holdTelegram t) else s.applyHeld t

/-- MANIFEST (R66). -/
def execManifest (rx : Rx) (p : List Byte) (s : State) : Host.Outcome State Fault Refusal :=
  .next (s.receive classManifest rx p fun s => s.takeManifestTelegram (.manifest (readManifest p)))

/-- MANIFEST_WITHDRAW (R72). -/
def execManifestWithdraw (rx : Rx) (p : List Byte) (s : State) : Host.Outcome State Fault Refusal :=
  .next (s.receive classManifestWithdraw rx p fun s => s.takeManifestTelegram (.withdraw (tagAt p 0)))

/-- DECK_MAP (R76). -/
def execDeckMap (rx : Rx) (p : List Byte) (s : State) : Host.Outcome State Fault Refusal :=
  .next (s.receive classDeckMap rx p fun s => s.takeManifestTelegram (.deckMap (readDeckMap p)))

/-! ## A peer's DELIVERED (R74) -/

/-- R74: the checks on a DELIVERED. -/
def deliveredRefused (f : DeliveredFields) : Bool :=
  f.tag == 0 || !inRange 1 Config.maxCabin f.cabin || !inRange 1 Config.maxDeck f.deck
    || !inRange 1 Config.maxNode f.node || !inRange 1 4 f.outlet

/-- R74: the MS takes a DELIVERED from a peer. -/
def ManifestStore.takeDelivered (f : DeliveredFields) (m : ManifestStore) : ManifestStore :=
  if deliveredRefused f then m.tally fun c => { c with deliveredRefused := c.deliveredRefused + 1 }
  else
    match m.lookup f.tag with
    | none => m
    | some e =>
      match e.mark with
      | .none => m.put { e with mark := .peer f.node }
      | _ => m.tally fun c => { c with doubleDeliveries := c.doubleDeliveries + 1 }

/-- DELIVERED (R74). -/
def execDelivered (rx : Rx) (p : List Byte) (s : State) : Host.Outcome State Fault Refusal :=
  .next (s.receive classDelivered rx p fun s => s.onMs (ManifestStore.takeDelivered (readDelivered p)))

/-! ## The sweep (R80, R81) -/

/-- R80: the examination of an entry against the map. -/
def ManifestStore.examine (c : NodeConfig) (e : TagEntry) (m : ManifestStore) : StoreChange :=
  let removed : StoreChange :=
    ⟨(m.drop e).tally fun c => { c with sweepRemovals := c.sweepRemovals + 1 }, e.misplaced .remapped (some e.cabin)⟩
  match lookupCabin m.map e.cabin with
  | .deck d =>
    if c.serves d then
      if keepsMark (.deck d) (.deck d) e.mark then ⟨m.put { e with placement := .placed }, []⟩
      else ⟨m.put { e with placement := .placed, mark := .none }, e.misplaced .remapped (some e.cabin)⟩
    else removed
  | .contested => ⟨m.put { e with placement := .placed }, []⟩
  | .unmapped =>
    if e.placement = .unplaced ∨ unplacedCount m.table < Config.maxUnplaced then
      ⟨m.put { e with placement := .unplaced }, []⟩
    else removed

/-- R80: the entry with the lowest tag above the tag last examined. -/
def ManifestStore.nextToExamine (last : Nat) (m : ManifestStore) : Option TagEntry :=
  m.table.find? fun e => decide (last < e.tag)

/-- R80, R81: the sweep's place after the entry with this tag: it completes when no entry remains above it. -/
def ManifestStore.advanceSweep (last : Nat) (m : ManifestStore) : ManifestStore :=
  match m.nextToExamine last with
  | some _ => { m with sweep := some last }
  | none => { m with sweep := none }.tally fun c => { c with sweepsCompleted := c.sweepsCompleted + 1 }

/-- R80: the next examination of a sweep that last examined this tag. -/
def State.examineNext (s : State) (last : Nat) : State :=
  match s.ms.nextToExamine last with
  | none => s.onMs (ManifestStore.advanceSweep last)
  | some e => (s.commitStores (s.ms.examine s.config e)).onMs (ManifestStore.advanceSweep e.tag)

/-- SWEEP_EXAMINATION (R80). -/
def execSweepExamination (s : State) : Host.Outcome State Fault Refusal :=
  .next (
    match s.ms.sweep with
    | some last => if s.running then s.examineNext last else s
    | none => s)

/-! ## The purge (R82, R85, R86) -/

/-- R82: the MS empties its stores as a purge starts: from here on they are treated as empty (R84). -/
def ManifestStore.startPurge (m : ManifestStore) : ManifestStore :=
  { m with table := [], cabins := [], map := [], purgePending := true, sweep := none, purgeRunning := true }

/-- R86: a purge restarts: the held telegrams are discarded. -/
def ManifestStore.restartPurge (m : ManifestStore) : ManifestStore :=
  { m.startPurge with hold := [] }.tally
    fun c => { c with heldDiscarded := c.heldDiscarded + BitVec.ofNat 32 m.hold.length }

/-- R82, R86, R202: the MS takes a PURGE. -/
def State.takePurge (s : State) : State :=
  ((s.onMs fun m => if m.purgeRunning then m.restartPurge else m.startPurge).clearLog.clearClosedDecks).markMap

/-- PURGE (R82). -/
def execPurge (rx : Rx) (p : List Byte) (s : State) : Host.Outcome State Fault Refusal :=
  .next (s.receive classPurge rx p State.takePurge)

/-- R85, R88: a purge completes with the stores empty. -/
def ManifestStore.finishPurge (m : ManifestStore) : ManifestStore :=
  { m with table := [], cabins := [], map := [], purgePending := false, retentionLost := false,
           purgeRunning := false, hold := [] }.tally fun c => { c with purgesCompleted := c.purgesCompleted + 1 }

/-- R85: the purge completes and the held telegrams are applied, oldest first. -/
def State.completePurge (s : State) : State := s.ms.hold.foldl State.applyHeld (s.onMs ManifestStore.finishPurge)

/-- PURGE_COMPLETE (R85). -/
def execPurgeComplete (s : State) : Host.Outcome State Fault Refusal :=
  .next (if s.running && s.ms.purgeRunning then s.completePurge else s)

end Sys2Proof.Machine
end

