-- ==== Sys2Proof/Machine/Power.lean ====
section
/-! DEFINITION. Power-on, the end of START, the loss of main power, and the low mark of the retention monitor (R87,
R88, R165, R188, R189, R196). -/

namespace Sys2Proof.Machine

/-! ## POWER_ON: stages 1 to 3 of START (R188) -/

/-- R87: the MS's part of the retention check: the low mark is read and cleared, and stores it calls invalid are
cleared. -/
def ManifestStore.checkRetention (m : ManifestStore) : ManifestStore :=
  if m.lowMark then
    { m with table := [], cabins := [], map := [], purgePending := false, retentionLost := true, lowMark := false }
  else m

/-- R87, R165: the SU's part of the retention check. -/
def StrayUnit.checkRetention (lost : Bool) (u : StrayUnit) : StrayUnit :=
  if lost then { u with ring := [], nextSequence := 0, timers := [] } else u

/-- R87: stage 1. -/
def State.checkRetention (s : State) : State :=
  (s.onMs ManifestStore.checkRetention).onSu (StrayUnit.checkRetention s.ms.lowMark)

/-- R88: stage 2: an interrupted purge is completed, with the stray log cleared. -/
def State.finishPendingPurge (s : State) : State :=
  if s.ms.purgePending then
    (s.onMs ManifestStore.finishPurge).onSu fun u => { u with ring := [], timers := [] }
  else s

/-- R165: stage 3. -/
def State.endStaleWindows (s : State) : State := s.onSu StrayUnit.endAllWindows

/-- POWER_ON (R188): main power reaches its operating level and START begins. -/
def execPowerOn (s : State) : Host.Outcome State Fault Refusal :=
  .next (
    if s.nc.powered then s
    else (s.onNc fun n => { n with powered := true, state := .start }).checkRetention.finishPendingPurge.endStaleWindows)

/-! ## START_COMPLETE: stage 4 (R3, R188, R189) -/

/-- R202: both change marks are set at the end of START. -/
def NodeControl.markBoth (n : NodeControl) : NodeControl := { n with logMark := true, mapMark := true }

/-- R189: a check fails: the node enters CONFIG-FAULT and holds the code. -/
def State.enterConfigFault (s : State) (code : Nat) : State :=
  s.onNc fun n => { n with state := .configFault, faultCode := some code }.markBoth

/-- R6, R9, R21, R44: the ST starts. -/
def SectionTracker.start (t : SectionTracker) : SectionTracker :=
  { t with encoderCount := 0, windowCount := 0, feedHold := false }

/-- R61: the receiver, the measurement, the framing error count and the assembly as START ends. -/
def TagReadPort.clearLine (t : TagReadPort) : TagReadPort :=
  { t with receiver := .hunting false, measurement := .idle, framingRun := 0, assembly := none }

/-- R46, R61: the reader port enters RUNNING with its fixed divider, or MEASURING; a port not fitted does not run. -/
def TagReadPort.start (c : NodeConfig) (t : TagReadPort) : TagReadPort :=
  if c.readerFitted then
    match c.readerRate with
    | .fixed d => { t.clearLine with rateState := .running, divider := d }
    | .auto => { t.clearLine with rateState := .measuring, divider := 0 }
  else { t.clearLine with rateState := .running, divider := 0 }

/-- R184, R185: the HLC starts, with an empty queue, and begins to read the line. -/
def HallLine.start (h : HallLine) : HallLine :=
  { h with queue := [], score := 0, line := .active, idleGaps := 0, drive := .quiet, watch := .between false 0 }

/-- R188: every check passes: the configuration is frozen, the filters begin (R13, R15) and the blocks start. A log that the
retention supply has kept stays in the ring also where the configuration has no STRAY outlet (DESIGN CHOICE,
notes/assumptions/41.md). -/
def State.startBlocks (s : State) (c : NodeConfig) : State :=
  (({ s with
      config := c
      inputs := .begin
      st := s.st.start
      trp := s.trp.start c
      ms := s.ms.startSweep
      hlc := s.hlc.start } : State).startPass).onOm fun m => { m with refreshTimer := some (c.refreshSec * 1000) }

/-- START_COMPLETE (R3). -/
def execStartComplete (straps : BitVec 6) (image : List Byte) (s : State) : Host.Outcome State Fault Refusal :=
  .next (
    if s.nc.powered = true ∧ s.nc.state = .start then
      match startFault straps image with
      | some code => s.enterConfigFault code
      | none => ((s.startBlocks (configOf straps image)).onNc NodeControl.markBoth).enterJoining
    else s)

/-! ## POWER_LOSS and RETENTION_LOW (R87, R196) -/

/-- R196: what the MS keeps on the retention supply. -/
def ManifestStore.retained (m : ManifestStore) : ManifestStore :=
  { ManifestStore.initial with
    table := m.table, cabins := m.cabins, map := m.map, purgePending := m.purgePending,
    retentionLost := m.retentionLost, lowMark := m.lowMark }

/-- R196: what the SU keeps on the retention supply: the ring and the next number, whatever the next image fits (R165; R150's
node without a STRAY outlet then keeps a ring that no rule of LOST, CLAIM or STRAY-LOG reads: DESIGN CHOICE,
notes/assumptions/41.md). -/
def StrayUnit.retained (u : StrayUnit) : StrayUnit :=
  { StrayUnit.initial with ring := u.ring, nextSequence := u.nextSequence }

/-- POWER_LOSS (R196): every piece of state on the main supply is lost. The commands that wait are the sender's, and
stay. -/
def execPowerLoss (s : State) : Host.Outcome State Fault Refusal :=
  .next (
    if s.nc.powered then { State.reset with pending := s.pending, ms := s.ms.retained, su := s.su.retained }
    else s)

/-- RETENTION_LOW (R87): while main power is absent. -/
def execRetentionLow (s : State) : Host.Outcome State Fault Refusal :=
  .next (if s.nc.powered then s else s.onMs fun m => { m with lowMark := true })

end Sys2Proof.Machine
end

