-- ==== Sys2Proof/Machine/Queries.lean ====
section
/-! DEFINITION. Chapter 10, queries and replies: the kinds and their data (R199 to R202, R204), and the two change
marks. -/

namespace Sys2Proof.Machine

/-! ## Kinds and answers (R198, 11.3) -/

def kindIdentity : Byte := 1
def kindCounters : Byte := 2
def kindOutlet : Byte := 3
def kindTag : Byte := 4
def kindCabin : Byte := 5
def kindStrayLog : Byte := 6
def kindMap : Byte := 7

/-- 11.3: a kind code of the table. -/
def kindKnown (kind : Byte) : Bool := inRange 1 7 kind.toNat

/-- R198: the answer to a query, before it is made a REPLY. -/
inductive Answer where
  | done (data : List Byte)
  | counters (values : List Counter)
  | notFound
  | busy
  | refused
deriving DecidableEq, Repr

/-- R198: data is carried with DONE alone; a DONE reply to COUNTERS carries its values alone. -/
def Answer.body (kind : Byte) : Answer → Body
  | .done data => .reply kind .done data
  | .counters values => .counters values
  | .notFound => .reply kind .notFound []
  | .busy => .reply kind .busy []
  | .refused => .reply kind .refused []

/-- R198: each REPLY queued is counted, and each REFUSED. -/
def NodeControl.countAnswer (a : Answer) (n : NodeControl) : NodeControl :=
  n.tally fun c =>
    { c with
      queriesAnswered := c.queriesAnswered + 1
      queriesRefused := if a = .refused then c.queriesRefused + 1 else c.queriesRefused }

/-- R198: a QUERY with destination 0 is discarded unanswered. -/
def State.discardQuery (s : State) : State :=
  s.onNc fun n => n.tally fun c => { c with queriesDiscarded := c.queriesDiscarded + 1 }

/-- R198: Node Control queues the REPLY, addressed to the sender of the QUERY. -/
def State.reply (s : State) (rx : Rx) (kind : Byte) (a : Answer) : State :=
  (s.onNc (NodeControl.countAnswer a)).send rx.sender.toNat (a.body kind)

/-- R198, R194: Node Control takes a QUERY: an addressed one wakes the node and is answered from the state as it then
stands. -/
def State.takeQuery (s : State) (rx : Rx) (kind : Byte) (build : State → Answer) : State :=
  if broadcast rx then s.discardQuery else s.wakeUp.reply rx kind (build s.wakeUp)

/-- 11.2: the QUERY payload. -/
def queryPayload (kind : Byte) (argument : BitVec 40) : List Byte := kind :: argumentBytes argument

/-! ## IDENTITY and OUTLET (R199) -/

/-- R199: the data of an IDENTITY reply. -/
def identityData (s : State) : List Byte :=
  bytes2 Config.vendorCode ++ bytes2 Config.partNumber ++ bytes1 Config.revision ++ bytes1 s.config.address
    ++ bytes1 (nodeStateCode s.nc.state) ++ bytes1 (lineStateCode s.hlc.line) ++ bytesFlag s.ms.retentionLost
    ++ bytes2 s.config.digest.toNat

/-- IDENTITY (R199): always DONE. -/
def execIdentity (rx : Rx) (argument : BitVec 40) (s : State) : Host.Outcome State Fault Refusal :=
  .next (s.receive classQuery rx (queryPayload kindIdentity argument) fun s =>
    s.takeQuery rx kindIdentity fun s => .done (identityData s))

/-- R199: the view entries of a deck, and those of them that are OPEN-LOW from another node. -/
def viewCounts (m : OutletMonitor) (address deck : Nat) : List Byte :=
  bytes1 (m.view.countP fun e => e.deck == deck)
    ++ bytes1 (m.view.countP fun e => e.deck == deck && e.summary == .openLow && e.peer != address)

/-- R199: the data of an OUTLET reply; the summary is absent for STRAY, and only a DECK-role outlet carries the two
counts of the view. The miss counter is sent in 4 bytes, as R204 has it for a counter (DEDUCED, notes/assumptions/46.md). -/
def outletData (s : State) (k : OutletNo) : List Byte :=
  let o := s.om.outlet k
  let role := (s.config.outlet k).role
  bytes1 (roleCode role) ++ bytes1 (outletStateCode o.state)
    ++ (match role with
      | .stray => bytes1 0
      | .deck _ => bytes1 (summaryCode o.summary))
    ++ bytes1 o.reading ++ bytesFlag o.firstPending ++ bytesFlag o.fullLatch ++ bytesFlag o.gaugeFault
    ++ bytesFlag o.actuatorFault ++ bytes4 (BitVec.ofNat 32 o.misses) ++ bytesFlag o.jam
    ++ (match role with
      | .stray => []
      | .deck d => viewCounts s.om s.config.address d)

/-- R199: an OUTLET query names a fitted outlet, or is REFUSED. -/
def outletAnswer (n : Nat) (s : State) : Answer :=
  match (OutletNo.ofNat? n).filter fun k => (s.config.outlet k).fitted with
  | some k => .done (outletData s k)
  | none => .refused

/-- OUTLET (R199). -/
def execOutlet (rx : Rx) (argument : BitVec 40) (s : State) : Host.Outcome State Fault Refusal :=
  .next (s.receive classQuery rx (queryPayload kindOutlet argument) fun s =>
    s.takeQuery rx kindOutlet (outletAnswer (argumentLow argument)))

/-! ## TAG and CABIN (R200) -/

/-- R200: the data of a TAG reply. -/
def tagData (m : ManifestStore) (e : TagEntry) : List Byte :=
  bytes5 e.tag ++ bytes2 e.cabin ++ bytes1 e.pieces ++ bytesFlag e.oversize ++ bytes1 (placementCode e.placement)
    ++ markBytes e.mark ++ bytesFlag e.strayed ++ bytes1 (lookupCode (lookupCabin m.map e.cabin))

/-- R200: while a purge runs the answer is BUSY. -/
def tagAnswer (tag : Nat) (s : State) : Answer :=
  if s.ms.purgeRunning then .busy
  else if tag = 0 ∨ Config.maxTag < tag then .refused
  else
    match s.ms.entry tag with
    | some e => .done (tagData s.ms e)
    | none => .notFound

/-- TAG (R200). -/
def execTag (rx : Rx) (argument : BitVec 40) (s : State) : Host.Outcome State Fault Refusal :=
  .next (s.receive classQuery rx (queryPayload kindTag argument) fun s =>
    s.takeQuery rx kindTag (tagAnswer argument.toNat))

/-- 11.3: the cabin state codes. -/
def cabinStateCode (r : CabinRecord) : Nat := if r.complete then 2 else 1

/-- R200: the data of a CABIN reply. -/
def cabinData (m : ManifestStore) (r : CabinRecord) : List Byte :=
  bytes2 r.cabin ++ bytes1 r.expected ++ bytes1 r.delivered ++ bytes1 (cabinStateCode r)
    ++ bytes1 (m.entriesOf r.cabin).length ++ bytes1 ((m.entriesOf r.cabin).countP TagEntry.strayed)
    ++ bytes1 (lookupCode (lookupCabin m.map r.cabin))

/-- R200: while a purge runs the answer is BUSY. -/
def cabinAnswer (cabin : Nat) (s : State) : Answer :=
  if s.ms.purgeRunning then .busy
  else if cabin = 0 ∨ Config.maxCabin < cabin then .refused
  else
    match s.ms.cabin cabin with
    | some r => .done (cabinData s.ms r)
    | none => .notFound

/-- CABIN (R200). -/
def execCabin (rx : Rx) (argument : BitVec 40) (s : State) : Host.Outcome State Fault Refusal :=
  .next (s.receive classQuery rx (queryPayload kindCabin argument) fun s =>
    s.takeQuery rx kindCabin (cabinAnswer (argumentCabin argument)))

/-! ## COUNTERS (R201) -/

/-- A count or code as a value of a COUNTERS reply. -/
def value (n : Nat) : Counter := BitVec.ofNat 32 n

/-- R201: a set-or-clear status reads 1 when set. -/
def flagValue (b : Bool) : Counter := if b then 1 else 0

/-- R201: a group that reads 0 in every position. -/
def zeroGroup : List Counter := [0, 0, 0, 0, 0, 0, 0, 0]

/-- R201, R40: the groups of the ST. -/
def SectionTracker.group (t : SectionTracker) : Nat → List Counter
  | 0 => [t.counters.arrivals, t.counters.diverted, t.counters.handedOff, t.counters.lost, t.counters.abandoned,
      t.counters.withdrawn, value t.records.length, value t.expectations.length]
  | 1 => [t.counters.overflowArrivals, t.counters.untracked, t.counters.unmatchedTrailing,
      t.counters.expectationOverflow, t.counters.expectationsLost, t.counters.handoffsRefused,
      t.counters.orphanedNotices, t.counters.duplicateReads]
  | 2 => [t.counters.surplusTags, t.counters.speedOverrange, flagValue t.overrange, flagValue t.feedHold,
      value t.speed, value t.encoderCount.toNat, value t.nextNumber.toNat, 0]
  | _ => zeroGroup

/-- R201: the divider in use, 0 in MEASURING. -/
def TagReadPort.dividerInUse (t : TagReadPort) : Nat :=
  match t.rateState with
  | .running => t.divider
  | .measuring => 0

/-- R201, R60: the groups of the TRP. -/
def TagReadPort.group (t : TagReadPort) : Nat → List Counter
  | 0 => [t.counters.framingErrors, t.counters.breaks, t.counters.validReports, t.counters.readErrors,
      t.counters.boundReads, t.counters.orphanReads, t.counters.boundBreaks, t.counters.orphanBreaks]
  | 1 => [t.counters.rateMeasurements, t.counters.rateOverflows, t.counters.remeasurements,
      value (rateStateCode t.rateState), value t.dividerInUse, flagValue t.rateOverflow, value t.framingRun,
      value t.windows.length]
  | _ => zeroGroup

/-- R201, R90: the groups of the MS. -/
def ManifestStore.group (m : ManifestStore) : Nat → List Counter
  | 0 => [m.counters.inserted, m.counters.amendments, m.counters.withdrawals, m.counters.manifestsRefused,
      m.counters.outsideSlice, m.counters.tableFull, m.counters.unplacedFull, m.counters.cabinFull]
  | 1 => [m.counters.piecesFull, m.counters.misplacedReports, m.counters.doubleDeliveries,
      m.counters.deliveredUnrecorded, m.counters.mapRefused, m.counters.mapFull, m.counters.mapNotFound,
      m.counters.sweepsCompleted]
  | 2 => [m.counters.sweepRemovals, m.counters.purgesCompleted, m.counters.holdOverruns, m.counters.heldDiscarded,
      value m.table.length, value (unplacedCount m.table), value m.cabins.length, value m.map.length]
  | 3 => [value m.hold.length, flagValue m.purgeRunning, flagValue m.sweep.isSome, flagValue m.retentionLost,
      flagValue m.purgePending, m.counters.deliveredRefused, 0, 0]
  | _ => zeroGroup

/-- R201: the stroke timers that are RUNNING. -/
def DivertController.strokesRunning (d : DivertController) : Nat :=
  OutletNo.all.countP fun k => (d.strokes.get k).isSome

/-- R201, R117: the groups of the DC. -/
def DivertController.group (d : DivertController) : Nat → List Counter
  | 0 => [d.counters.commitments, d.counters.fires, d.counters.pusherBusy, d.counters.dropped, d.counters.deliveries,
      d.counters.misses, value (d.commitments.countP fun c => c.phase == .armed),
      value (d.commitments.countP fun c => c.phase == .fired)]
  | 1 => [d.counters.evaluations, d.counters.strayDeliveries, d.counters.unsolicited, d.counters.noLengthAtArm,
      d.counters.deferrals, d.counters.leadClamped, value d.strokesRunning, 0]
  | _ => zeroGroup

/-- R201, R145: the groups of the OM. -/
def OutletMonitor.group (m : OutletMonitor) : Nat → List Counter
  | 0 => [m.counters.faultedReadings, m.counters.jams, m.counters.restores, m.counters.restoresRefused,
      m.counters.deckCloses, m.counters.deckOpens, m.counters.deckRefused, m.counters.statesQueued]
  | 1 => [m.counters.statesRefused, m.counters.statesUnserved, m.counters.viewReplacements, m.counters.viewExpiries,
      m.counters.viewWiped, value m.view.length, value m.closed.length, 0]
  | _ => zeroGroup

/-- R201, R166: the groups of the SU. -/
def StrayUnit.group (u : StrayUnit) : Nat → List Counter
  | 0 => [u.counters.strayEntries, u.counters.reportsLogged, u.counters.reportsRefused, u.counters.logOverwrites,
      u.counters.callsQueued, u.counters.ownClaims, u.counters.claimsTaken, u.counters.disputes]
  | 1 => [u.counters.claimsRefused, u.counters.claimsUnknown, u.counters.claimsUnasked, u.counters.claimsMismatched,
      u.counters.claimsRepeated, u.counters.claimsLate, u.counters.claimsSurplus, u.counters.claimsWithoutLog]
  | 2 => [u.counters.endedUnclaimed, u.counters.reportsNotLogged, u.counters.callsTaken, u.counters.callsRefused,
      u.counters.claimsQueued, value u.ring.length, value u.nextSequence.toNat,
      value (u.ring.countP fun e => e.window == .running)]
  | _ => zeroGroup

/-- R201, R186: the groups of the HLC. -/
def HallLine.group (h : HallLine) : Nat → List Counter
  | 0 => [h.counters.sent, h.counters.givenUp, h.counters.superseded, h.counters.displaced, h.counters.clearedAtReset,
      value h.queue.length, h.counters.transmitErrors, h.counters.arbitrationLost]
  | 1 => [h.counters.receiveErrors, h.counters.taken, h.counters.filteredOut, h.counters.malformed,
      h.counters.unknownClass, h.counters.detachments, h.counters.rejoins, value h.score]
  | 2 => [value (lineStateCode h.line), value h.idleGaps, 0, 0, 0, 0, 0, 0]
  | _ => zeroGroup

/-- R201, R197: the groups of the NC. -/
def NodeControl.group (n : NodeControl) : Nat → List Counter
  | 0 => [n.counters.joins, n.counters.resets, n.counters.standbys, n.counters.wakes, n.counters.commandsIgnored,
      n.counters.hellosTaken, n.counters.addressClashes, n.counters.queriesAnswered]
  | 1 => [n.counters.queriesRefused, n.counters.queriesDiscarded, value (nodeStateCode n.state), 0, 0, 0, 0, 0]
  | _ => zeroGroup

/-- R201: the eight values of a block's group; no values for a block outside 0..7. -/
def State.group (s : State) (block group : Nat) : Option (List Counter) :=
  match block with
  | 0 => some (s.st.group group)
  | 1 => some (s.trp.group group)
  | 2 => some (s.ms.group group)
  | 3 => some (s.dc.group group)
  | 4 => some (s.om.group group)
  | 5 => some (s.su.group group)
  | 6 => some (s.hlc.group group)
  | 7 => some (s.nc.group group)
  | _ => none

/-- R201: a block or group outside its range is REFUSED. -/
def countersAnswer (block group : Nat) (s : State) : Answer :=
  if 3 < group then .refused
  else
    match s.group block group with
    | some values => .counters values
    | none => .refused

/-- COUNTERS (R201): the values are read before the REPLY is counted and queued. -/
def execCounters (rx : Rx) (argument : BitVec 40) (s : State) : Host.Outcome State Fault Refusal :=
  .next (s.receive classQuery rx (queryPayload kindCounters argument) fun s =>
    s.takeQuery rx kindCounters (countersAnswer (argumentHigh argument) (argumentLow argument)))

/-! ## STRAY-LOG and MAP (R202) -/

/-- R202, R204: the next cursor of an entry, END when it is the last held. -/
def nextCursor (cursor held : Nat) : Nat := if cursor + 1 < held then cursor + 1 else 0xFF

/-- 11.3: the entry kind codes. -/
def LogKind.code : LogKind → Nat
  | .inChute _ => 1
  | .lost _ _ => 2
  | .misplaced _ _ _ _ => 2

/-- 11.3: the reason code of an IN-CHUTE entry, or the code of the report kind. -/
def LogKind.reasonByte : LogKind → Nat
  | .inChute reason => reasonCode reason
  | .lost _ _ => 9
  | .misplaced _ _ _ _ => 10

/-- R204: the report details, each absent part as 0. -/
def LogKind.details : LogKind → List Byte
  | .inChute _ => bytes1 0 ++ bytes1 0 ++ bytes1 0 ++ bytes2 0 ++ bytes1 0
  | .lost lastSection reporter => bytes1 lastSection ++ bytes1 reporter ++ bytes1 0 ++ bytes2 0 ++ bytes1 0
  | .misplaced reporter oldDeck newCabin cause =>
    bytes1 0 ++ bytes1 reporter ++ bytes1 oldDeck ++ bytes2 (newCabin.getD 0) ++ bytes1 (causeCode cause)

/-- R202, R204: part 0 of an entry. -/
def entryData (e : LogEntry) : List Byte :=
  bytes2 e.sequence.toNat ++ bytes1 e.kind.code ++ bytes1 e.tags.length ++ e.tags.flatMap bytes5
    ++ bytes1 e.kind.reasonByte ++ bytes1 (e.lap.getD 0xFF) ++ bytes2 (e.length.getD 0) ++ e.kind.details
    ++ bytes1 (windowCode e.window) ++ bytes1 (claimStateCode e.state) ++ bytes1 e.claims.length

/-- R202, R204: a claim of an entry. -/
def claimData (c : ClaimFields) : List Byte := bytes1 c.node ++ bytes5 c.tag ++ bytes2 c.cabin ++ bytes1 c.deck

/-- R202: a part of an entry, none for a claim beyond those it holds. -/
def partData (e : LogEntry) : Nat → Option (List Byte)
  | 0 => some (entryData e)
  | p + 1 => (e.claims[p]?).map claimData

/-- R202: the answer to a STRAY-LOG query. -/
def strayLogAnswer (cursor part : Nat) (s : State) : Answer :=
  if 63 < cursor ∨ 3 < part then .refused
  else if s.config.isStrayNode = false then .notFound
  else
    match s.su.ring[cursor]? with
    | none => .done (bytes1 0xFF ++ bytesFlag s.nc.logMark)
    | some e =>
      match partData e part with
      | none => .notFound
      | some data => .done (bytes1 (nextCursor cursor s.su.ring.length) ++ bytesFlag s.nc.logMark ++ data)

/-- R198: the condition DONE. -/
def Answer.isDone : Answer → Bool
  | .done _ => true
  | .counters _ => true
  | .notFound => false
  | .busy => false
  | .refused => false

/-- R202: Node Control takes a STRAY-LOG query; a DONE reply with cursor 0 and part 0 clears the mark. -/
def State.takeLogQuery (s : State) (rx : Rx) (cursor part : Nat) : State :=
  let t := s.takeQuery rx kindStrayLog (strayLogAnswer cursor part)
  if broadcast rx = false ∧ cursor = 0 ∧ part = 0 ∧ (strayLogAnswer cursor part s).isDone = true then
    t.onNc fun n => { n with logMark := false }
  else t

/-- STRAY_LOG (R202). -/
def execStrayLog (rx : Rx) (argument : BitVec 40) (s : State) : Host.Outcome State Fault Refusal :=
  .next (s.receive classQuery rx (queryPayload kindStrayLog argument) fun s =>
    s.takeLogQuery rx (argumentHigh argument) (argumentLow argument))

/-- R202: the data of a range. -/
def rangeData (r : MapRange) : List Byte :=
  bytes2 r.first ++ bytes2 r.last ++ bytes1 r.deck ++ bytes1 (rangeStateCode r.state)

/-- R202: the answer to a MAP query: BUSY while a purge runs. -/
def mapAnswer (cursor : Nat) (s : State) : Answer :=
  if s.ms.purgeRunning then .busy
  else if 31 < cursor then .refused
  else
    match s.ms.map[cursor]? with
    | none => .done (bytes1 0xFF ++ bytesFlag s.nc.mapMark)
    | some r => .done (bytes1 (nextCursor cursor s.ms.map.length) ++ bytesFlag s.nc.mapMark ++ rangeData r)

/-- R202: Node Control takes a MAP query; a DONE reply with cursor 0 clears the mark. -/
def State.takeMapQuery (s : State) (rx : Rx) (cursor : Nat) : State :=
  let t := s.takeQuery rx kindMap (mapAnswer cursor)
  if broadcast rx = false ∧ cursor = 0 ∧ (mapAnswer cursor s).isDone = true then
    t.onNc fun n => { n with mapMark := false }
  else t

/-- MAP (R202). -/
def execMap (rx : Rx) (argument : BitVec 40) (s : State) : Host.Outcome State Fault Refusal :=
  .next (s.receive classQuery rx (queryPayload kindMap argument) fun s => s.takeMapQuery rx (argumentLow argument))

/-! ## Unknown kinds (R198) -/

/-- R198: a QUERY whose kind code is unknown; a known kind is the event of its own command, and this one then has
no effect. -/
def State.takeUnknownKind (s : State) (rx : Rx) (kind : Byte) (argument : BitVec 40) : State :=
  if kindKnown kind then s
  else
    s.receive classQuery rx (queryPayload kind argument) fun s => s.takeQuery rx kind fun _ => .refused

/-- QUERY_KIND_UNKNOWN (R198). -/
def execQueryKindUnknown (rx : Rx) (kind : Byte) (argument : BitVec 40) (s : State) :
    Host.Outcome State Fault Refusal :=
  .next (s.takeUnknownKind rx kind argument)

end Sys2Proof.Machine
end

