-- ==== Sys2Proof/Machine/Dispatch.lean ====
section
/-! DEFINITION. The meaning of each command: one arm per constructor of Instr. -/

namespace Sys2Proof.Machine

/-- What a command does to the node; the commands that wait are not its concern. -/
def exec (i : Instr) (s : State) : Host.Outcome State Fault Refusal :=
  match i with
  | .powerOn => Sys2Proof.Machine.execPowerOn s
  | .startComplete straps image => Sys2Proof.Machine.execStartComplete straps image s
  | .powerLoss => Sys2Proof.Machine.execPowerLoss s
  | .retentionLow => Sys2Proof.Machine.execRetentionLow s
  | .encoderPulse => Sys2Proof.Machine.execEncoderPulse s
  | .speedWindowEnd => Sys2Proof.Machine.execSpeedWindowEnd s
  | .inductionBlockedEdge samples => Sys2Proof.Machine.execInductionBlockedEdge s samples
  | .inductionClearedEdge samples => Sys2Proof.Machine.execInductionClearedEdge s samples
  | .handoffEyeBlockedEdge samples => Sys2Proof.Machine.execHandoffEyeBlockedEdge s samples
  | .spanPoint n => Sys2Proof.Machine.execSpanPoint n s
  | .windowEndPoint n => Sys2Proof.Machine.execWindowEndPoint n s
  | .expiryPoint node bag => Sys2Proof.Machine.execExpiryPoint node bag s
  | .closePoint n => Sys2Proof.Machine.execClosePoint n s
  | .armPoint n k => Sys2Proof.Machine.execArmPoint n k s
  | .firePoint n => Sys2Proof.Machine.execFirePoint n s
  | .deadlinePoint n => Sys2Proof.Machine.execDeadlinePoint n s
  | .strokeTimerExpiry k => Sys2Proof.Machine.execStrokeTimerExpiry k s
  | .exitEyeBlockedEdge k samples => Sys2Proof.Machine.execExitEyeBlockedEdge k s samples
  | .actuatorFaultChange k samples => Sys2Proof.Machine.execActuatorFaultChange k samples s
  | .gaugeConversionEnd codes => Sys2Proof.Machine.execGaugeConversionEnd codes s
  | .gaugePassStart => Sys2Proof.Machine.execGaugePassStart s
  | .refreshTimerExpiry => Sys2Proof.Machine.execRefreshTimerExpiry s
  | .viewExpiry peer deck time => Sys2Proof.Machine.execViewExpiry peer deck time s
  | .framingError line => Sys2Proof.Machine.execFramingError s line
  | .readerBreak line => Sys2Proof.Machine.execReaderBreak s line
  | .report line => Sys2Proof.Machine.execReport s line
  | .rateMeasurement line => Sys2Proof.Machine.execRateMeasurement line s
  | .rateOverflow line => Sys2Proof.Machine.execRateOverflow s line
  | .claimWindowEnd sequence => Sys2Proof.Machine.execClaimWindowEnd sequence s
  | .joinTimerExpiry => Sys2Proof.Machine.execJoinTimerExpiry s
  | .sweepExamination => Sys2Proof.Machine.execSweepExamination s
  | .purgeComplete => Sys2Proof.Machine.execPurgeComplete s
  | .attemptStart line => Sys2Proof.Machine.execAttemptStart s line
  | .attemptEnd line => Sys2Proof.Machine.execAttemptEnd line s
  | .receiveError line => Sys2Proof.Machine.execReceiveError line s
  | .detachment line => Sys2Proof.Machine.execDetachment s line
  | .rejoin line => Sys2Proof.Machine.execRejoin s line
  | .telegramDiscarded cls rx p => Sys2Proof.Machine.execTelegramDiscarded cls rx p s
  | .handoff rx p => Sys2Proof.Machine.execHandoff rx p s
  | .manifest rx p => Sys2Proof.Machine.execManifest rx p s
  | .manifestWithdraw rx p => Sys2Proof.Machine.execManifestWithdraw rx p s
  | .deckMap rx p => Sys2Proof.Machine.execDeckMap rx p s
  | .delivered rx p => Sys2Proof.Machine.execDelivered rx p s
  | .purge rx p => Sys2Proof.Machine.execPurge rx p s
  | .outletState rx p => Sys2Proof.Machine.execOutletState rx p s
  | .deckClose rx p => Sys2Proof.Machine.execDeckClose rx p s
  | .deckOpen rx p => Sys2Proof.Machine.execDeckOpen rx p s
  | .outletRestore rx p => Sys2Proof.Machine.execOutletRestore rx p s
  | .strayCall rx p => Sys2Proof.Machine.execStrayCall rx p s
  | .claim rx p => Sys2Proof.Machine.execClaim rx p s
  | .lost rx p => Sys2Proof.Machine.execLost rx p s
  | .misplaced rx p => Sys2Proof.Machine.execMisplaced rx p s
  | .reset rx p => Sys2Proof.Machine.execReset rx p s
  | .standby rx p => Sys2Proof.Machine.execStandby rx p s
  | .wake rx p => Sys2Proof.Machine.execWake rx p s
  | .hello rx p => Sys2Proof.Machine.execHello rx p s
  | .identity rx argument => Sys2Proof.Machine.execIdentity rx argument s
  | .outlet rx argument => Sys2Proof.Machine.execOutlet rx argument s
  | .tag rx argument => Sys2Proof.Machine.execTag rx argument s
  | .cabin rx argument => Sys2Proof.Machine.execCabin rx argument s
  | .counters rx argument => Sys2Proof.Machine.execCounters rx argument s
  | .strayLog rx argument => Sys2Proof.Machine.execStrayLog rx argument s
  | .map rx argument => Sys2Proof.Machine.execMap rx argument s
  | .characterReceived line => Sys2Proof.Machine.execCharacterReceived line s
  | .idleGap line => Sys2Proof.Machine.execIdleGap s line
  | .queryKindUnknown rx kind argument => Sys2Proof.Machine.execQueryKindUnknown rx kind argument s

end Sys2Proof.Machine
end

