-- ==== Sys2Proof/Safety.lean ====
section
/-! DEFINITION. The terms the statements use: the telegram given to its owner, and the consistency of a node: the
capacities, orders, balances and links that the manual gives the lists of its blocks. -/

namespace Sys2Proof.Machine

/-- R182, R183: a telegram of a class is taken by a running node and given to its owner. -/
def State.delivers (s : State) (cls : Byte) (rx : Rx) (p : List Byte) : Prop :=
  s.running = true ∧ judgeTelegram s.config cls rx p = .deliver

/-- R7: the command that names a point. -/
def Point.command : Point → Instr
  | .span n => .spanPoint n
  | .windowEnd n => .windowEndPoint n
  | .expiry node bag => .expiryPoint node bag
  | .close n => .closePoint n
  | .arm n k => .armPoint n k
  | .fire n => .firePoint n
  | .deadline n => .deadlinePoint n

/-! ## Section Tracker -/

/-- R18: at most 24 records, no two with the same local number. -/
def SectionTracker.listOk (t : SectionTracker) : Prop :=
  t.records.length ≤ Config.maxRecords ∧ (t.records.map BagRecord.number).Nodup

/-- R16, R24: at most two tags on a record, all distinct, and at most 16 expectations. -/
def SectionTracker.contentsOk (t : SectionTracker) : Prop :=
  (∀ r ∈ t.records, r.tags.length ≤ Config.maxRecordTags ∧ r.tags.Nodup)
    ∧ t.expectations.length ≤ Config.maxExpectations

/-- R41: every arrival is in the list or has left it by one of the five ways, modulo 2^32. -/
def SectionTracker.balanced (t : SectionTracker) : Prop :=
  t.counters.arrivals = t.counters.diverted + t.counters.handedOff + t.counters.lost + t.counters.abandoned
    + t.counters.withdrawn + BitVec.ofNat 32 t.records.length

/-- R21, R44: the feed hold is asserted at 22 records or more and released at 18 or fewer; where the node does not run
the list is empty and the hold is asserted. -/
def State.feedHoldOk (s : State) : Prop :=
  if s.running then
    (22 ≤ s.st.records.length → s.st.feedHold = true) ∧ (s.st.records.length ≤ 18 → s.st.feedHold = false)
  else s.st.records = [] ∧ s.st.feedHold = true

/-- R18, R21, R38, R39: the ST once the record with a number has left the list and ended: the feed hold is released at 18
records or fewer, and the notice of a scan window that this closed finds no record. -/
def State.trackerWithout (s : State) (n : Count) : SectionTracker :=
  { s.st with
    records := s.st.records.filter fun x => x.number != n
    feedHold := if (s.st.records.filter fun x => x.number != n).length ≤ 18 then false else s.st.feedHold
    counters := { s.st.counters with
      orphanedNotices :=
        if (s.trp.window n).isSome then s.st.counters.orphanedNotices + 1 else s.st.counters.orphanedNotices } }

/-- R38: the ST once the record with a number has been changed by a notice. -/
def State.trackerWith (s : State) (n : Count) (f : BagRecord → BagRecord) : SectionTracker :=
  { s.st with records := s.st.records.map fun x => if x.number = n then f x else x }

/-- R151, R152, R154: the SU once it has logged a report: the newest entry, numbered next. -/
def StrayUnit.withReport (u : StrayUnit) (kind : LogKind) (tags : List Nat) (lap : Option Nat) : StrayUnit :=
  let full := decide (64 ≤ u.ring.length)
  { u with
    ring := (if full then u.ring.tail else u.ring) ++ [⟨u.nextSequence, kind, tags, lap, none, [], .none, .notAsked⟩]
    nextSequence := u.nextSequence + 1
    timers := if full then u.timers.filter fun w => some w.sequence != u.ring.head?.map LogEntry.sequence else u.timers
    counters := { u.counters with
      reportsLogged := u.counters.reportsLogged + 1
      logOverwrites := if full then u.counters.logOverwrites + 1 else u.counters.logOverwrites } }

/-! ## What a change of an outlet's record brings with it -/

/-- R106: the DC once every ARMED commitment for outlet k has been dropped. -/
def DivertController.withoutArmed (d : DivertController) (k : OutletNo) : DivertController :=
  { d with
    commitments := d.commitments.filter fun c => !(c.outlet == k && c.phase == .armed)
    counters := { d.counters with
      dropped := d.counters.dropped + BitVec.ofNat 32 (d.commitments.countP fun c => c.outlet == k && c.phase == .armed) } }

/-- R38, R106: the ST once every ARMED commitment for outlet k has been dropped. -/
def State.trackerWithoutArmed (s : State) (k : OutletNo) : SectionTracker :=
  { s.st with records := s.st.records.map fun r =>
      if s.dc.commitments.any fun c => c.record == r.number && (c.outlet == k && c.phase == .armed) then
        { r with commitment := none }
      else r }

/-- R106, R131 to R133: the node once outlet k's record has become `o`, whose state and summary are still those before:
the state and summary are derived; a change to JAMMED, FAULT or CLOSED drops the outlet's ARMED commitments; a DECK-role
outlet's changed summary, or its first reading, is reported in the node states that report. -/
def State.outletSettled (s : State) (k : OutletNo) (o : OutletRecord) (first : Bool) : State :=
  let c := s.config.outlet k
  let state := outletStateOf c.role o s.om.closed
  let summary := if c.deckServed.isSome then summaryOf c state o.reading else o.summary
  let report := c.deckServed.isSome && (first || summary != o.summary) && s.nc.state.reportsOutlets
  let dropped := state != o.state && (state == .jammed || state == .fault || state == .closed)
  { s with
    om := { s.om with
      outlets := s.om.outlets.set k { o with state := state, summary := summary }
      counters := { s.om.counters with
        statesQueued := if report then s.om.counters.statesQueued + 1 else s.om.counters.statesQueued } }
    dc := if dropped then s.dc.withoutArmed k else s.dc
    st := if dropped then s.trackerWithoutArmed k else s.st
    hlc := if report then s.hlc.enqueue ⟨0, .outletState (c.deckServed.getD 0) summary o.reading⟩ else s.hlc }

/-- R134, R135: a round: one OUTLET-STATE for each DECK-role outlet whose first reading has been taken, in order of outlet
number. -/
def State.outletRound (s : State) : List Telegram :=
  OutletNo.all.filterMap fun k =>
    if (s.om.outlet k).firstPending then none
    else (s.config.outlet k).deckServed.map fun d =>
      ⟨0, .outletState d (s.om.outlet k).summary (s.om.outlet k).reading⟩

/-- R134, R135: the node once a round has been queued and the refresh timer restarted. -/
def State.roundQueued (s : State) : State :=
  { s with
    hlc := s.outletRound.foldl (fun h t => h.enqueue t) s.hlc
    om := { s.om with
      refreshTimer := some (s.config.refreshSec * 1000)
      counters := { s.om.counters with
        statesQueued := s.om.counters.statesQueued + BitVec.ofNat 32 s.outletRound.length } } }

/-- R191: the HELLO of this node in a node state. -/
def State.helloIn (s : State) (state : NodeState) : Telegram :=
  ⟨0, .hello ⟨s.config.address, state, s.ms.retentionLost, s.config.digest, s.config.servedDecks⟩⟩

/-- R194: a node in STANDBY once a cause has woken it: in SORTING, with a HELLO, a pass started and a round queued. -/
def State.woken (s : State) : State :=
  State.roundQueued { s with
    nc := { s.nc with state := .sorting, counters := { s.nc.counters with wakes := s.nc.counters.wakes + 1 } }
    hlc := s.hlc.enqueue (s.helloIn .sorting)
    om := { s.om with
      pass := s.config.firstFitted
      paceTimer := if s.config.gaugeMode = .paced then some 1000 else none } }

/-- R194: the node once a telegram has been taken that wakes it when addressed. -/
def State.takenAwake (s : State) (rx : Rx) : State :=
  if s.nc.state = .standby ∧ broadcast rx = false then (s.takeTelegram rx).woken else s.takeTelegram rx

/-- R198: the node once it has answered a query: the answer is counted, and a REFUSED one again, and the REPLY queued to the
sender. -/
def State.replied (s : State) (rx : Rx) (body : Body) (refused : Bool) : State :=
  { s with
    nc := { s.nc with counters := { s.nc.counters with
      queriesAnswered := s.nc.counters.queriesAnswered + 1
      queriesRefused := if refused then s.nc.counters.queriesRefused + 1 else s.nc.counters.queriesRefused } }
    hlc := s.hlc.enqueue ⟨rx.sender.toNat, body⟩ }

/-- R71: the node once the MS has given a MISPLACED for a tag, or for none: it is counted, queued, and at the stray node
logged. -/
def State.misplacedGiven (s : State) (r : Option MisplacedReport) : State :=
  match r with
  | none => s
  | some r =>
    { s with
      ms := { s.ms with counters := { s.ms.counters with misplacedReports := s.ms.counters.misplacedReports + 1 } }
      hlc := s.hlc.enqueue ⟨0, .misplaced r⟩
      su := if s.config.isStrayNode then
          s.su.withReport (.misplaced s.config.address r.oldDeck r.newCabin r.cause) [r.tag] none
        else s.su
      nc := { s.nc with logMark := s.nc.logMark || s.config.isStrayNode } }

/-- R71: the MISPLACED for an entry whose mark goes, which only a SELF mark gives. -/
def TagEntry.lostMark (e : TagEntry) (cause : MisplacedCause) (newCabin : Option Nat) : Option MisplacedReport :=
  match e.mark with
  | .self _ deck => some ⟨e.tag, deck, cause, newCabin⟩
  | .none => none
  | .peer _ => none

/-! ## What a change of the tag table brings with it -/

/-- R63: `m'` is the store `m` but for its table, its cabin records and its counters. -/
def ManifestStore.keepsRest (m m' : ManifestStore) : Prop :=
  m' = { m with table := m'.table, cabins := m'.cabins, counters := m'.counters }

/-- R63: `m'` is `m` with entry `e` removed: its cabin's record goes with its last entry and is otherwise recounted, and no
other entry or record changes. -/
def ManifestStore.entryRemoved (m m' : ManifestStore) (e : TagEntry) : Prop :=
  m.keepsRest m' ∧ m'.entry e.tag = none ∧ (∀ x, x ≠ e.tag → m'.entry x = m.entry x)
    ∧ (∀ c, c ≠ e.cabin → m'.cabin c = m.cabin c)
    ∧ (m.entriesOf e.cabin = [e] → m'.cabin e.cabin = none)
    ∧ ∀ r, m.cabin e.cabin = some r → m.entriesOf e.cabin ≠ [e] →
        m'.cabin e.cabin = some { r with delivered := r.delivered - (if e.mark = .none then 0 else 1) }

/-- R63, R73, R74: `m'` is `m` with this mark on entry `e`: a first mark is counted in its cabin's record, whose expected
rises with it, and no other entry or record changes. -/
def ManifestStore.entryMarked (m m' : ManifestStore) (e : TagEntry) (mark : DeliveredMark) : Prop :=
  m.keepsRest m' ∧ m'.entry e.tag = some { e with mark := mark } ∧ (∀ x, x ≠ e.tag → m'.entry x = m.entry x)
    ∧ (∀ c, c ≠ e.cabin → m'.cabin c = m.cabin c)
    ∧ ∀ r d, m.cabin e.cabin = some r → d = r.delivered + (if e.mark = .none then 1 else 0) →
        m'.cabin e.cabin = some { r with delivered := d, expected := max r.expected d }

/-! ## Links between the blocks -/

/-- R91, R38: the commitment field of a record shows what the DC holds. -/
def Commitment.shown (c : Commitment) : RecordCommitment :=
  { outlet := c.outlet, fire := c.fire, deadline := c.deadline, phase := c.phase }

/-- R54, R91, R93: every window, commitment and arm point is that of a record in the list, a record has at most one of
the first two, and its commitment field is the one the DC holds. -/
def State.linked (s : State) : Prop :=
  (s.trp.windows.map ScanWindow.record).Nodup
    ∧ (s.dc.commitments.map Commitment.record).Nodup
    ∧ (∀ w ∈ s.trp.windows, w.record ∈ s.st.records.map BagRecord.number)
    ∧ (∀ p ∈ s.dc.armPoints, p.record ∈ s.st.records.map BagRecord.number)
    ∧ (∀ c ∈ s.dc.commitments, c.record ∈ s.st.records.map BagRecord.number)
    ∧ ∀ r ∈ s.st.records, r.commitment = (s.dc.commitmentOf r.number).map Commitment.shown

/-! ## Tag Read Port -/

/-- R60: every valid report and every break is bound or an orphan, modulo 2^32. -/
def TagReadPort.balanced (t : TagReadPort) : Prop :=
  t.counters.validReports = t.counters.boundReads + t.counters.orphanReads
    ∧ t.counters.breaks = t.counters.boundBreaks + t.counters.orphanBreaks

/-- R47, R48: a receiver that is RECEIVING holds the samples since a leading edge, fewer than twelve bit times of them. -/
def Receiver.ok : Receiver → Prop
  | .hunting _ => True
  | .receiving line => 1 ≤ line.length ∧ line.length < 192 ∧ line.head? = some false
  | .afterBreak => True

/-- R49, R50: a timing has counted at most 65,535 ticks and one to four falling edges. -/
def Measurement.ok (m : Measurement) : Prop :=
  ∀ t, m.timing = some t → m.last.isSome = true ∧ t.ticks ≤ 65535 ∧ 1 ≤ t.falls ∧ t.falls ≤ 4

/-! ## The filters of the eyes and fault inputs -/

/-- R12, R13: a filter whose hold is `hold` has seen fewer samples than that before it adopts a level, and a run of opposite
samples stays shorter. -/
def InputFilter.ok (hold : Nat) : InputFilter → Prop
  | .adopting seen => seen.length < hold
  | .following _ run => run < hold

/-- R12, R13, R15: every filter, the eyes' with a hold of 20 samples and the fault inputs' with one of 200. -/
def InputFilters.ok (i : InputFilters) : Prop :=
  i.induction.ok 20 ∧ i.handoff.ok 20 ∧ ∀ k, (i.exits.get k).ok 20 ∧ (i.faults.get k).ok 200

/-- R12, R47, R49: the filters, the receiver and the measurement in progress. -/
def State.samplersOk (s : State) : Prop := s.inputs.ok ∧ s.trp.receiver.ok ∧ s.trp.measurement.ok

/-! ## Manifest Store -/

/-- R62, R63: the capacities of the tag table and the cabin records, with one entry for each tag and one record for
each cabin. -/
def ManifestStore.capacitiesOk (m : ManifestStore) : Prop :=
  m.table.length ≤ Config.maxTagEntries ∧ unplacedCount m.table ≤ Config.maxUnplaced
    ∧ m.cabins.length ≤ Config.maxCabins ∧ (m.table.map TagEntry.tag).Pairwise (· < ·)
    ∧ (m.cabins.map CabinRecord.cabin).Pairwise (· < ·)

/-- R63: a cabin has a record exactly while an entry names it; the record counts the entries that bear a mark, and
expects no fewer and no more than 15. -/
def ManifestStore.cabinsOk (m : ManifestStore) : Prop :=
  (∀ e ∈ m.table, ∃ r ∈ m.cabins, r.cabin = e.cabin)
    ∧ ∀ r ∈ m.cabins, 1 ≤ (m.entriesOf r.cabin).length ∧ (m.entriesOf r.cabin).length ≤ Config.maxPieces
        ∧ r.delivered = (m.entriesOf r.cabin).countP TagEntry.marked ∧ r.delivered ≤ r.expected
        ∧ r.expected ≤ Config.maxPieces

/-- R64: at most 32 ranges, in order; each is CONTESTED exactly when it overlaps a range of another deck, and two ranges
of one deck do not overlap. -/
def ManifestStore.mapOk (m : ManifestStore) : Prop :=
  m.map.length ≤ Config.maxRanges ∧ m.map.Pairwise (fun a b => a.before b = true)
    ∧ (∀ r ∈ m.map, r.first ≤ r.last ∧ r.state = rangeStateIn m.map r)
    ∧ m.map.Pairwise fun a b => a.deck = b.deck → spansOverlap a.span b.span = false

/-- R83: at most six telegrams are held, and none while no purge runs. -/
def ManifestStore.holdOk (m : ManifestStore) : Prop :=
  m.hold.length ≤ Config.maxHeld ∧ (m.purgeRunning = false → m.hold = [])

/-! ## Outlet Monitor -/

/-- R136: at most 32 view entries, at most one for each pair of peer and deck. -/
def OutletMonitor.viewOk (m : OutletMonitor) : Prop :=
  m.view.length ≤ Config.maxView ∧ (m.view.map fun e => (e.peer, e.deck)).Nodup

/-- R131, R132: an outlet's state and summary are those its record and the closed-deck set give. -/
def State.outletOk (s : State) (k : OutletNo) : Prop :=
  (s.om.outlet k).state = outletStateOf (s.config.outlet k).role (s.om.outlet k) s.om.closed
    ∧ ∀ d, (s.config.outlet k).deckServed = some d →
        (s.om.outlet k).summary =
          summaryOf (s.config.outlet k) (s.om.outlet k).state (s.om.outlet k).reading

/-- R123, R131, R132, R142: where the node does not run, the outlet records stand as at power-on and no deck is closed;
where it runs, every fitted outlet's state and summary are derived. -/
def State.outletsOk (s : State) : Prop :=
  if s.running then ∀ k, (s.config.outlet k).fitted = true → s.outletOk k
  else s.om.outlets = OutletMonitor.atPowerOn.outlets ∧ s.om.closed = []

/-! ## Stray Unit -/

/-- R159: an entry holds at most three claims, no two from one node for one tag, and its state is the one its claims and
window give. -/
def LogEntry.ok (e : LogEntry) : Prop :=
  e.claims.length ≤ Config.maxClaims ∧ (e.claims.map fun c => (c.node, c.tag)).Nodup
    ∧ e.state = claimStateOf e.claims e.window

/-- R151, R152: at most 64 entries, numbered one after another up to the number before the next. -/
def StrayUnit.logOk (u : StrayUnit) : Prop :=
  u.ring.length ≤ Config.maxLog
    ∧ u.ring.map LogEntry.sequence =
        (List.range u.ring.length).map (fun i => u.nextSequence - BitVec.ofNat 16 (u.ring.length - i))
    ∧ ∀ e ∈ u.ring, e.ok

/-! ## Hall Line Controller -/

/-- R174, R175: at most eight entries, most urgent first, each with fewer than eight failed attempts, and at most one
on the line. -/
def HallLine.queueOk (h : HallLine) : Prop :=
  h.queue.length ≤ Config.maxQueue ∧ h.queue.Pairwise (fun a b => a.urgency ≤ b.urgency)
    ∧ (∀ e ∈ h.queue, e.attempts < Config.maxAttempts) ∧ h.queue.countP SendEntry.onLine ≤ 1

/-- R167, R169, R170: what has been read on the line: fewer than twelve recessive bits toward an idle gap; of a telegram, no
more bytes than its payload length gives, a payload length of at most 32, and no whole byte and no whole confirm slot left
over; of an attempt, at least one bit still to come. -/
def LineWatch.ok : LineWatch → Prop
  | .between _ run => run < 12
  | .receiving bytes bits =>
    bits.length < 10 ∧ (5 ≤ bytes.length → (bytes.getD 4 0).toNat ≤ 32 ∧ bytes.length ≤ 7 + (bytes.getD 4 0).toNat)
      ∧ (wholeTelegram bytes = true → bits.length < 3)
  | .attempting _ left => left ≠ []

/-- R169, R170, R174: the line is read as it may be, and as an attempt exactly while an entry is on the line. -/
def HallLine.watchOk (h : HallLine) : Prop :=
  h.watch.ok ∧ ((∃ read left, h.watch = .attempting read left) ↔ ∃ e ∈ h.queue, e.onLine = true)

/-- R178, R179, R181: the score stays within 0 to 255 and gives the line state; a DETACHED node stays at 255, holds no
telegram and counts fewer than 96 idle gaps, at the last of which it rejoins; the line is read as it may be. -/
def HallLine.lineOk (h : HallLine) : Prop :=
  h.score ≤ Config.maxScore
    ∧ (if h.line = .detached then h.score = Config.maxScore ∧ h.queue = [] ∧ h.idleGaps < Config.rejoinGaps
      else h.line = lineStateOf h.score)
    ∧ h.watchOk

/-! ## Node Control -/

/-- R190, R143, R59, R92: the join timer runs exactly in JOINING; in STANDBY no pass runs, the pass and refresh timers
are stopped and no report is in assembly; a node without main power is in START; where the node does not run, every
stroke timer is IDLE and the send queue is empty. -/
def State.statesOk (s : State) : Prop :=
  (s.nc.joinTimer.isSome = true ↔ s.nc.state = .joining)
    ∧ (s.nc.state = .standby →
        s.om.pass = none ∧ s.om.paceTimer = none ∧ s.om.refreshTimer = none ∧ s.trp.assembly = none)
    ∧ (s.nc.powered = false → s.nc.state = .start)
    ∧ (s.running = false → s.dc.strokesIdle = true ∧ s.hlc.queue = [])

end Sys2Proof.Machine
end

