-- ==== Sys2Proof/Certificates/Slice0/Obligations.lean ====
section
/-! DEFINITION. The statements about the node, for the provers. -/

open Sys2Proof Sys2Proof.Machine

/-! ## Steps and node states -/

/-- A step runs the command at the front of the queue on the state with the rest of the queue; with no command waiting the
node idles (the model's choice, notes/assumptions/3.md). -/
def Obligations.StepRunsFrontCommand : Prop :=
  (∀ (c : Instr) (cs : List Instr) (s : State), s.pending = c :: cs → step s = exec c { s with pending := cs })
    ∧ ∀ s : State, s.pending = [] → step s = .next s

/-- Every command, in every state, answers a next state and leaves the commands that wait as they are: that no command ends in
a fault is the model's inference (notes/assumptions/34.md), and that one whose event cannot occur answers the state as it is
the model's choice (notes/assumptions/4.md). -/
def Obligations.EveryCommandAnswersNext : Prop :=
  ∀ (c : Instr) (s : State), ∃ t, exec c s = .next t ∧ t.pending = s.pending

/-- R1, R187: while the node runs, no command but the loss of main power changes the configuration. -/
def Obligations.ConfigurationFrozen : Prop :=
  ∀ (c : Instr) (s : State), s.running = true → c ≠ .powerLoss →
    ∃ t, exec c s = .next t ∧ t.config = s.config

/-- R188: in START no telegram is taken and no field event is delivered: only the end of START and the loss of main power
change anything. -/
def Obligations.StartTakesNothing : Prop :=
  ∀ (c : Instr) (s : State), s.nc.powered = true → s.nc.state = .start →
    (∀ straps image, c ≠ .startComplete straps image) → c ≠ .powerLoss → exec c s = .next s

/-- R184, R189: in CONFIG-FAULT no command but the loss of main power changes anything other than what the HLC has read of the
line and its counts of telegrams taken and of receive errors: that these two alone count there is the model's inference
(notes/assumptions/17.md). -/
def Obligations.ConfigFaultOnlyCounts : Prop :=
  ∀ (c : Instr) (s : State), s.nc.powered = true → s.nc.state = .configFault → c ≠ .powerLoss →
    ∃ (n m : Counter) (w : LineWatch), exec c s =
      .next { s with hlc := { s.hlc with
        watch := w, counters := { s.hlc.counters with taken := n, receiveErrors := m } } }

/-! ## Invariants -/

/-- The invariants below hold of the machine before its first power-on, the model's State.reset
(notes/assumptions/1.md). -/
def Obligations.InvariantsHoldAtReset : Prop :=
  State.reset.st.listOk ∧ State.reset.st.contentsOk ∧ State.reset.st.balanced ∧ State.reset.feedHoldOk
    ∧ State.reset.linked ∧ State.reset.trp.balanced ∧ State.reset.ms.capacitiesOk ∧ State.reset.ms.cabinsOk
    ∧ State.reset.ms.mapOk ∧ State.reset.ms.holdOk ∧ State.reset.om.viewOk ∧ State.reset.outletsOk
    ∧ State.reset.su.logOk ∧ State.reset.hlc.queueOk ∧ State.reset.hlc.lineOk ∧ State.reset.statesOk
    ∧ State.reset.samplersOk

/-- R41: the bag accounting: every step keeps the balance of arrivals against endings and records held. -/
def Obligations.BagAccountingKept : Prop :=
  ∀ s t : State, s.st.listOk → s.st.balanced → step s = .next t → t.st.listOk ∧ t.st.balanced

/-- R16, R24: every step keeps at most two distinct tags on each record and at most 16 expectations. -/
def Obligations.TrackingContentsKept : Prop :=
  ∀ s t : State, s.st.contentsOk → step s = .next t → t.st.contentsOk

/-- R21, R44: every step keeps the feed hold in agreement with the number of records in the list. -/
def Obligations.FeedHoldKept : Prop :=
  ∀ s t : State, s.statesOk → s.feedHoldOk → step s = .next t → t.feedHoldOk

/-- R38, R54, R91, R93: every step keeps windows, arm points and commitments tied to records in the list, and each
record's commitment field showing what the DC holds. -/
def Obligations.BlocksLinkedKept : Prop :=
  ∀ s t : State, s.st.listOk → s.linked → step s = .next t → t.linked

/-- R12, R13, R15, R47 to R50, R60: every step keeps valid reports and breaks equal to those bound plus the orphans, and every
filter, the receiver and the measurement in progress within the samples, ticks and edges their rules give them. -/
def Obligations.ReadBalanceKept : Prop :=
  ∀ s t : State, step s = .next t →
    (s.trp.balanced → t.trp.balanced) ∧ (s.samplersOk → t.samplersOk)

/-- R62, R63: every step keeps the tag table within its capacities and each cabin record in agreement with the entries
that name its cabin. -/
def Obligations.SliceKept : Prop :=
  ∀ s t : State, s.ms.capacitiesOk → s.ms.cabinsOk → step s = .next t → t.ms.capacitiesOk ∧ t.ms.cabinsOk

/-- R64: every step keeps the deck map ordered, within its 32 ranges, free of overlaps within a deck, and with every
contest marked. -/
def Obligations.DeckMapKept : Prop :=
  ∀ s t : State, s.ms.mapOk → step s = .next t → t.ms.mapOk

/-- R83: every step keeps at most six telegrams held, and none while no purge runs. -/
def Obligations.HoldQueueKept : Prop :=
  ∀ s t : State, s.ms.holdOk → step s = .next t → t.ms.holdOk

/-- R136: every step keeps at most 32 view entries and at most one for each pair of peer and deck. -/
def Obligations.PeerViewKept : Prop :=
  ∀ s t : State, s.om.viewOk → step s = .next t → t.om.viewOk

/-- R131, R132: every step keeps each fitted outlet's state and summary at what its record, its role and the closed-deck
set give. -/
def Obligations.OutletStatesKept : Prop :=
  ∀ s t : State, s.statesOk → s.outletsOk → step s = .next t → t.outletsOk

/-- R151, R152, R159: every step keeps the stray log at 64 entries numbered one after another, each with at most three
claims, none repeated, and with the claim state its claims and window give. -/
def Obligations.StrayLogKept : Prop :=
  ∀ s t : State, s.st.contentsOk → s.su.logOk → step s = .next t → t.su.logOk

/-- R167, R169, R170, R174, R175, R178, R179, R181: every step keeps the send queue ordered and within eight entries, one at
most on the line, the line state in agreement with the score, fewer than 96 idle gaps counted, and the bits read of the line
within those of an idle gap, of one telegram, or of the attempt of the entry on the line. -/
def Obligations.HallLineKept : Prop :=
  ∀ s t : State, s.hlc.queueOk → s.hlc.lineOk → step s = .next t → t.hlc.queueOk ∧ t.hlc.lineOk

/-- R59, R92, R143, R190: every step keeps the join timer running exactly in JOINING, the gauges and the refresh timer
stopped in STANDBY, and the pushers off where the node does not run. -/
def Obligations.NodeStatesKept : Prop :=
  ∀ s t : State, s.statesOk → step s = .next t → t.statesOk

/-- R193: no step leaves a node in STANDBY-PENDING once its section, its divert work and its queue are quiet. -/
def Obligations.StandbyEnteredWhenQuiet : Prop :=
  ∀ s t : State, s.st.listOk → s.linked → (s.nc.state = .standbyPending → s.quiet = false) →
    step s = .next t → t.nc.state = .standbyPending → t.quiet = false

/-! ## Power and START -/

/-- R87, R88, R165, R188: POWER_ON at a node without power: the retention check, an interrupted purge and the stale claim
windows, of which each OPEN entry's is counted as ended unclaimed. That POWER_ON at a powered node changes nothing is the model's choice (notes/assumptions/4.md). -/
def Obligations.PowerOnRunsStart : Prop :=
  (∀ s : State, s.nc.powered = false →
    ∃ t, exec .powerOn s = .next t
      ∧ t.nc = { s.nc with powered := true, state := .start }
      ∧ (s.ms.lowMark = true →
          t.ms = { s.ms with table := [], cabins := [], map := [], purgePending := false, retentionLost := true,
                             lowMark := false }
            ∧ t.su.ring = [] ∧ t.su.nextSequence = 0 ∧ t.su.counters = s.su.counters)
      ∧ (s.ms.lowMark = false → s.ms.purgePending = true →
          t.ms.table = [] ∧ t.ms.cabins = [] ∧ t.ms.map = [] ∧ t.ms.purgePending = false ∧ t.ms.retentionLost = false
            ∧ t.ms.counters = { s.ms.counters with purgesCompleted := s.ms.counters.purgesCompleted + 1 }
            ∧ t.su.ring = [] ∧ t.su.nextSequence = s.su.nextSequence ∧ t.su.counters = s.su.counters)
      ∧ (s.ms.lowMark = false → s.ms.purgePending = false →
          t.ms = s.ms ∧ t.su.nextSequence = s.su.nextSequence
            ∧ t.su.ring.length = s.su.ring.length
            ∧ t.su.counters = { s.su.counters with
                endedUnclaimed := s.su.counters.endedUnclaimed
                  + BitVec.ofNat 32 (s.su.ring.countP fun e =>
                      e.window == .running && e.state == .opened && e.claims.isEmpty) }
            ∧ ∀ (i : Nat) (e : LogEntry), s.su.ring[i]? = some e →
                t.su.ring[i]? = some (if e.window = .running then
                  { e with window := .ended, state := claimStateOf e.claims .ended } else e))
      ∧ t.su.timers = [] ∧ t.config = s.config ∧ t.inputs = s.inputs ∧ t.st = s.st ∧ t.trp = s.trp ∧ t.dc = s.dc ∧ t.om = s.om
      ∧ t.hlc = s.hlc ∧ t.pending = s.pending)
    ∧ ∀ s : State, s.nc.powered = true → exec .powerOn s = .next s

/-- R1 to R3, R45, R187, R203, R205: the checks are taken in order and the first that fails names the fault: the image's length
and check value, the range of every field at its offset in the image, one STRAY outlet at most, no deck twice, D + maxlen div 2 +
W below H − tol, and H + tol + merge limit below 32,768. The configuration read from an image holds every field as it stands at
its offset, and the address of the straps. -/
def Obligations.FirstFailingCheckNamed : Prop :=
  (∀ (straps : BitVec 6) (image : List Byte),
    startFault straps image =
      (([decide (1 ≤ straps.toNat ∧ straps.toNat ≤ 60), imageCheckOk image, imageRangesOk straps image,
         strayOutletsOk (configOf straps image), decksDistinct (configOf straps image),
         placementOk (configOf straps image), spanOk (configOf straps image)] : List Bool).findIdx?
           (fun ok => ok == false)).map (· + 1))
    ∧ (∀ c : NodeConfig, placementOk c = true ↔
        ∀ k, (c.outlet k).fitted = true →
          (c.outlet k).centre + (c.outlet k).maxLength / 2 + (c.outlet k).confirm + c.tolerance < c.handoff)
    ∧ (∀ c : NodeConfig, spanOk c = true ↔ c.handoff + c.tolerance + c.mergeLimit < 32768)
    ∧ (∀ c : NodeConfig, strayOutletsOk c = true ↔
        ∀ j k, (c.outlet j).fitted = true → (c.outlet k).fitted = true → (c.outlet j).role = .stray →
          (c.outlet k).role = .stray → j = k)
    ∧ (∀ c : NodeConfig, decksDistinct c = true ↔
        ∀ j k d, (c.outlet j).fitted = true → (c.outlet k).fitted = true → (c.outlet j).role = .deck d →
          (c.outlet k).role = .deck d → j = k)
    ∧ ∀ (straps : BitVec 6) (image : List Byte) (b w : Nat → Nat) (c : NodeConfig),
        (∀ i, b i = (image.getD i 0).toNat) → (∀ i, w i = 256 * b i + b (i + 1)) → c = configOf straps image →
        (imageCheckOk image = true ↔
          140 ≤ image.length ∧ checkValue (image.take 138) = image.getD 138 0 ++ image.getD 139 0)
        ∧ (imageRangesOk straps image = true ↔
            (1 ≤ b 0 ∧ b 0 ≤ 3) ∧ b 1 ≤ 1 ∧ (1 ≤ b 2 ∧ b 2 ≤ 6) ∧ (1 ≤ b 3 ∧ b 3 ≤ 60) ∧ b 3 ≠ straps.toNat
              ∧ b 4 ≤ 1 ∧ (1 ≤ b 5 ∧ b 5 ≤ 7) ∧ (200 ≤ w 6 ∧ w 6 ≤ 30000) ∧ w 8 ≤ 8000 ∧ w 10 ≤ 2000
              ∧ (100 ≤ w 12 ∧ w 12 ≤ 4000) ∧ (10 ≤ w 14 ∧ w 14 ≤ 400) ∧ (10 ≤ w 16 ∧ w 16 ≤ 200)
              ∧ (200 ≤ w 18 ∧ w 18 ≤ 4000) ∧ (b 20 = 1 ∨ b 20 = 4 ∨ b 20 = 16) ∧ b 21 ≤ 1 ∧ (1 ≤ b 22 ∧ b 22 ≤ 10)
              ∧ (1 ≤ b 23 ∧ b 23 ≤ 30) ∧ (500 ≤ w 24 ∧ w 24 ≤ 10000)
              ∧ (∀ o ∈ [26, 44, 62, 80], b o = 0 ∨ b o = 1 ∧ b (o + 1) ≤ 20 ∧ (100 ≤ w (o + 2) ∧ w (o + 2) ≤ 20000)
                  ∧ (20 ≤ w (o + 4) ∧ w (o + 4) ≤ 2000 ∧ w (o + 4) < w (o + 2)) ∧ w (o + 6) ≤ 500
                  ∧ (20 ≤ w (o + 8) ∧ w (o + 8) ≤ 1000) ∧ (100 ≤ w (o + 10) ∧ w (o + 10) ≤ 1500) ∧ b (o + 12) ≤ 1
                  ∧ (20 ≤ w (o + 13) ∧ w (o + 13) ≤ 1000) ∧ b (o + 17) < b (o + 16) ∧ b (o + 16) ≤ b (o + 15))
              ∧ (∃ o ∈ [26, 44, 62, 80], b o = 1) ∧ ∀ n, n < 8 → b (98 + 5 * n + 4) ≤ 1)
        ∧ c.address = straps.toNat ∧ c.digest = image.getD 138 0 ++ image.getD 139 0
        ∧ (∀ code rate, (code, rate) ∈ [(1, 125), (2, 250), (3, 500)] → b 0 = code → c.lineRateKbit = rate)
        ∧ (c.readerFitted = true ↔ b 1 = 1)
        ∧ (∀ code rate, (code, rate) ∈ [(1, ReaderRate.fixed 120), (2, .fixed 60), (3, .fixed 30), (4, .fixed 20),
              (5, .fixed 10), (6, .auto)] → b 2 = code → c.readerRate = rate)
        ∧ c.downstream = b 3 ∧ (c.lapOrigin = true ↔ b 4 = 1) ∧ c.lapLimit = b 5
        ∧ c.handoff = w 6 ∧ c.feed = w 8 ∧ c.scanTail = w 10 ∧ c.lateSpan = w 12 ∧ c.tolerance = w 14
        ∧ c.minLength = w 16 ∧ c.mergeLimit = w 18 ∧ c.averaging = b 20
        ∧ (b 21 = 0 → c.gaugeMode = .continuous) ∧ (b 21 = 1 → c.gaugeMode = .paced)
        ∧ c.refreshSec = b 22 ∧ c.joinSec = b 23 ∧ c.claimMs = w 24
        ∧ (∀ k o, (k, o) ∈ [(OutletNo.o1, 26), (.o2, 44), (.o3, 62), (.o4, 80)] →
            c.outlet k = {
              fitted := b o == 1, role := if b (o + 1) = 0 then .stray else .deck (b (o + 1)), centre := w (o + 2)
              arm := w (o + 4), leadMs := w (o + 6), confirm := w (o + 8), maxLength := w (o + 10)
              longCapable := b (o + 12) == 1, strokeMs := w (o + 13), fullLimit := b (o + 15), shareLimit := b (o + 16)
              clearLimit := b (o + 17) })
        ∧ c.slots.length = 8
        ∧ ∀ n, n < 8 → c.slots[n]? = some {
            classValue := image.getD (98 + 5 * n) 0, classMask := image.getD (98 + 5 * n + 1) 0
            subjectValue := image.getD (98 + 5 * n + 2) 0, subjectMask := image.getD (98 + 5 * n + 3) 0
            accept := b (98 + 5 * n + 4) == 1 }

/-- R184, R185, R188, R189, R190, R202: START_COMPLETE: a failed check gives CONFIG-FAULT with its code, flashed on the status
output; otherwise the configuration is frozen, the blocks start, and the node enters JOINING with a HELLO queued and the status
output lit. The status output shows each other node state as R189 gives it. That the SU keeps what it holds also where the
image fits no STRAY outlet, and where the reading of the hall line begins, are the model's choices
(notes/assumptions/41.md and 48.md). -/
def Obligations.StartCompletes : Prop :=
  (∀ (s : State) (straps : BitVec 6) (image : List Byte), s.nc.powered = true → s.nc.state = .start →
    (∀ n, startFault straps image = some n →
      ∃ t, exec (.startComplete straps image) s = .next t
        ∧ t = { s with nc := { s.nc with state := .configFault, faultCode := some n, logMark := true, mapMark := true } }
        ∧ t.statusOutput = .flashes n)
    ∧ (startFault straps image = none →
        ∀ c, c = configOf straps image →
          ∃ t, exec (.startComplete straps image) s = .next t
            ∧ t.statusOutput = .steady
            ∧ t.config = c
            ∧ t.inputs = State.reset.inputs
            ∧ t.trp.receiver = .hunting false ∧ t.trp.measurement = ⟨none, none⟩
            ∧ t.nc = { s.nc with state := .joining, joinTimer := some (c.joinSec * 1000), logMark := true,
                                 mapMark := true }
            ∧ t.st = { s.st with encoderCount := 0, windowCount := 0, feedHold := false }
            ∧ t.hlc = { s.hlc with
                score := 0, line := .active, idleGaps := 0, drive := .quiet, watch := .between false 0
                queue :=
                  [⟨⟨0, .hello ⟨c.address, .joining, s.ms.retentionLost, c.digest, c.servedDecks⟩⟩, 0, false⟩] }
            ∧ t.om.outlets = s.om.outlets ∧ t.om.pass = c.firstFitted
            ∧ t.om.refreshTimer = some (c.refreshSec * 1000)
            ∧ t.om.paceTimer = (if c.gaugeMode = .paced then some 1000 else none)
            ∧ (c.readerFitted = true → ∀ d, c.readerRate = .fixed d →
                t.trp.rateState = .running ∧ t.trp.divider = d)
            ∧ (c.readerFitted = true → c.readerRate = .auto → t.trp.rateState = .measuring)
            ∧ t.ms.table = s.ms.table ∧ t.ms.cabins = s.ms.cabins ∧ t.ms.map = s.ms.map
            ∧ (s.ms.table ≠ [] → t.ms.sweep = some 0)
            ∧ t.dc = s.dc ∧ t.su = s.su ∧ t.pending = s.pending))
    ∧ ∀ s : State, s.nc.powered = true →
        (s.nc.state = .start → s.statusOutput = .dark)
        ∧ (∀ n, s.nc.state = .configFault → s.nc.faultCode = some n → s.statusOutput = .flashes n)
        ∧ ((s.nc.state = .joining ∨ s.nc.state = .sorting ∨ s.nc.state = .standbyPending) → s.statusOutput = .steady)
        ∧ (s.nc.state = .standby → s.statusOutput = .slowBlink)

/-- R87, R196: the loss of main power leaves the stores on the retention supply and the waiting commands, and puts every
other block at its power-on values with the outputs off and the feed hold asserted; the low mark is set only while main
power is absent. The blank configuration, the waiting commands that stay, and a POWER_LOSS without power or a RETENTION_LOW
with it that changes nothing, are the model's choices (notes/assumptions/2.md, 32.md and 4.md). -/
def Obligations.PowerLossKeepsRetained : Prop :=
  (∀ s : State, s.nc.powered = true →
    ∃ t, exec .powerLoss s = .next t
      ∧ t.ms.table = s.ms.table ∧ t.ms.cabins = s.ms.cabins ∧ t.ms.map = s.ms.map
      ∧ t.ms.purgePending = s.ms.purgePending ∧ t.ms.retentionLost = s.ms.retentionLost
      ∧ t.ms.lowMark = s.ms.lowMark ∧ t.su.ring = s.su.ring ∧ t.su.nextSequence = s.su.nextSequence
      ∧ t.ms.sweep = none ∧ t.ms.purgeRunning = false ∧ t.ms.hold = [] ∧ t.ms.counters = MsCounters.zero
      ∧ t.su.timers = [] ∧ t.su.counters = SuCounters.zero
      ∧ t.st = State.reset.st ∧ t.trp = State.reset.trp ∧ t.dc = State.reset.dc ∧ t.om = State.reset.om
      ∧ t.hlc = State.reset.hlc ∧ t.nc = State.reset.nc ∧ t.config = State.reset.config
      ∧ t.inputs = State.reset.inputs ∧ t.pending = s.pending
      ∧ t.st.feedHold = true ∧ (∀ k, t.pusherOutput k = false) ∧ t.statusOutput = .dark)
    ∧ (∀ s : State, s.nc.powered = false →
        exec .powerLoss s = .next s
          ∧ exec .retentionLow s = .next { s with ms := { s.ms with lowMark := true } })
    ∧ ∀ s : State, s.nc.powered = true → exec .retentionLow s = .next s

/-! ## The belt and the eyes -/

/-- R6, R7, R9: an accepted pulse adds one to the encoder count and to the open window's count, the latter up to 4,095, and then
takes every registered point that the count has reached, each as the command that names it does; where none is reached it
changes nothing else. The order in which it takes several is the model's choice (notes/assumptions/8.md). -/
def Obligations.EncoderPulseAdvances : Prop :=
  (∀ s u : State, s.running = true →
    u = { s with st := { s.st with encoderCount := s.st.encoderCount + 1,
                                   windowCount := min 4095 (s.st.windowCount + 1) } } →
    ∃ t, exec .encoderPulse s = .next t
      ∧ t = u.duePoints.foldl State.takePoint u
      ∧ (u.duePoints = [] → t = u)
      ∧ t.st.encoderCount = s.st.encoderCount + 1
      ∧ t.st.windowCount = min 4095 (s.st.windowCount + 1)
      ∧ t.st.speed = s.st.speed ∧ t.st.overrange = s.st.overrange
      ∧ t.st.passage = s.st.passage ∧ t.st.nextNumber = s.st.nextNumber ∧ t.config = s.config ∧ t.inputs = s.inputs
      ∧ t.st.counters.arrivals = s.st.counters.arrivals ∧ t.om.view = s.om.view ∧ t.ms = s.ms)
    ∧ (∀ (s : State) (p : Point), s.running = true → exec p.command s = .next (s.takePoint p))
    ∧ ∀ s : State,
        (∀ n, .span n ∈ s.duePoints ↔ ∃ r ∈ s.st.records, r.number = n ∧ r.binding = .awaiting
          ∧ hasReached s.st.encoderCount (r.leading + BitVec.ofNat 16 s.config.lateSpan) = true)
        ∧ (∀ n, .windowEnd n ∈ s.duePoints ↔ ∃ r ∈ s.st.records, r.number = n
          ∧ hasReached s.st.encoderCount (r.leading + BitVec.ofNat 16 (s.config.handoff + s.config.tolerance)) = true)
        ∧ (∀ node bag, .expiry node bag ∈ s.duePoints ↔ ∃ e ∈ s.st.expectations, e.node = node ∧ e.bag = bag
          ∧ hasReached s.st.encoderCount (e.receipt + BitVec.ofNat 16 (s.config.feed + s.config.lateSpan)) = true)
        ∧ (∀ n, .close n ∈ s.duePoints ↔ ∃ w ∈ s.trp.windows, w.record = n
          ∧ ∃ x, w.close = some x ∧ hasReached s.st.encoderCount x = true)
        ∧ (∀ n k, .arm n k ∈ s.duePoints ↔ ∃ p ∈ s.dc.armPoints, p.record = n ∧ p.outlet = k
          ∧ hasReached s.st.encoderCount p.count = true)
        ∧ (∀ n, .fire n ∈ s.duePoints ↔ ∃ c ∈ s.dc.commitments, c.record = n ∧ c.phase = .armed
          ∧ hasReached s.st.encoderCount c.fire = true)
        ∧ ∀ n, .deadline n ∈ s.duePoints ↔ ∃ c ∈ s.dc.commitments, c.record = n ∧ c.phase = .fired
          ∧ hasReached s.st.encoderCount c.deadline = true

/-- R10: a window that ends at 4,095 saturates: the status is set, the counter counts it and S is 16,380; a window that
ends below 4,095 clears the status. Both stand in the COUNTERS reply, and nothing else changes. -/
def Obligations.SpeedWindowSaturates : Prop :=
  ∀ s : State, s.running = true →
    (s.st.windowCount < 4095 →
      exec .speedWindowEnd s =
        .next { s with st := { s.st with windowCount := 0, speed := 4 * s.st.windowCount, overrange := false } })
    ∧ (s.st.windowCount = 4095 →
        exec .speedWindowEnd s =
          .next { s with st := { s.st with
            windowCount := 0, speed := 16380, overrange := true,
            counters := { s.st.counters with speedOverrange := s.st.counters.speedOverrange + 1 } } })
    ∧ ∃ values, countersAnswer 0 2 s = .counters values ∧ values[1]? = some s.st.counters.speedOverrange
        ∧ values[2]? = some (if s.st.overrange then 1 else 0)

/-- R12, R13, R14, R16, R17, R19, R20, R21, R54, R93, R194: a blocked edge at the induction eye: an arrival with the first free
local number from the counter on, its window and its arm points, or an overflow arrival at a full list; in STANDBY it first
wakes the node, with the HELLO and the round (R191, R135). A filter takes a level after its full run of opposite samples, drops
a shorter run, and adopts its first level without an edge. That a command carries its samples, and that samples of another
command change nothing, is the model's choice (notes/assumptions/37.md); the wake before the arrival is its inference
(notes/assumptions/30.md). -/
def Obligations.InductionBlockedArrives : Prop :=
  (∀ (s v u : State) (samples : List Bool) (f : InputFilter), s.running = true →
    hearInduction true samples s.inputs.induction = some (f, some (.changes true)) →
    v = { s with inputs := { s.inputs with induction := f } } →
    u = (if s.nc.state = .standby then v.woken else v) →
    (s.st.records.length < 24 →
      ∃ (i : Nat) (n : Count), n = s.st.nextNumber + BitVec.ofNat 16 i ∧ n ∉ s.st.records.map BagRecord.number
        ∧ (∀ j, j < i → s.st.nextNumber + BitVec.ofNat 16 j ∈ s.st.records.map BagRecord.number)
        ∧ exec (.inductionBlockedEdge samples) s =
            .next { u with
              st := { s.st with
                records := s.st.records ++
                  [{ number := n, leading := s.st.encoderCount, length := none, binding := .awaiting, tags := [],
                     readState := .windowOpen, lap := 0, deferred := false, missed := false, reason := none,
                     commitment := none }]
                passage := .ofRecord n
                nextNumber := n + 1
                feedHold := if 21 ≤ s.st.records.length then true else s.st.feedHold
                counters := { s.st.counters with arrivals := s.st.counters.arrivals + 1 } }
              trp := { s.trp with windows := s.trp.windows ++ [⟨n, none⟩] }
              dc := { s.dc with armPoints := s.dc.armPoints ++ s.config.fittedOutlets.map fun k =>
                { record := n, outlet := k,
                  count := s.st.encoderCount + BitVec.ofNat 16 (s.config.outlet k).centre
                    - BitVec.ofNat 16 (s.config.outlet k).arm } } })
    ∧ (24 ≤ s.st.records.length →
        exec (.inductionBlockedEdge samples) s =
          .next { u with st := { s.st with
            passage := .ignored,
            counters := { s.st.counters with overflowArrivals := s.st.counters.overflowArrivals + 1 } } }))
    ∧ (∀ (s : State) (samples : List Bool) (blocked : Bool) (c : Instr), s.running = true →
        c = (if blocked then .inductionBlockedEdge samples else .inductionClearedEdge samples) →
        (∀ f, hearInduction blocked samples s.inputs.induction = some (f, none) →
          exec c s = .next { s with inputs := { s.inputs with induction := f } })
        ∧ (hearInduction blocked samples s.inputs.induction = none → exec c s = .next s))
    ∧ ∀ (hold : Nat) (tells row : FilterEvent → Bool) (level : Bool) (run n : Nat), run < hold →
        (run + n < hold →
          hear (InputFilter.sample hold) tells row (List.replicate n (!level)) (.following level run) =
              some (.following level (run + n), none)
            ∧ hear (InputFilter.sample hold) tells row (List.replicate n (!level) ++ [level]) (.following level run) =
              some (.following level 0, none))
        ∧ (run + n = hold → tells (.changes (!level)) = true → row (.changes (!level)) = true →
            hear (InputFilter.sample hold) tells row (List.replicate n (!level)) (.following level run) =
              some (.following (!level) 0, some (.changes (!level))))
        ∧ (run + n < hold →
            hear (InputFilter.sample hold) tells row (List.replicate n level) (.adopting (List.replicate run level)) =
              some (.adopting (List.replicate (run + n) level), none))
        ∧ (run + n = hold → tells (.adopts level) = false →
            hear (InputFilter.sample hold) tells row (List.replicate n level) (.adopting (List.replicate run level)) =
              some (.following level 0, none))

/-- R22, R26, R29 to R31, R37 to R39, R54, R58: a cleared edge at the induction eye: an ignored passage, an unmatched edge, a
withdrawal, or a length with the close point of the open window registered, or taken at once where the scan tail is 0, and
the binding of the oldest or, after a skip, the second expectation; where none fits, or the length passes the merge limit, the
record stays AWAITING and the list is as before. That the samples come with the command is the model's choice
(notes/assumptions/37.md). -/
def Obligations.TrailingEdgeBinds : Prop :=
  ∀ (s u : State) (samples : List Bool) (f : InputFilter), s.running = true →
    hearInduction false samples s.inputs.induction = some (f, some (.changes false)) →
    u = { s with inputs := { s.inputs with induction := f } } →
    (s.st.passage = .ignored →
      exec (.inductionClearedEdge samples) s = .next { u with st := { s.st with passage := .none } })
    ∧ ((s.st.passage = .none ∨ ∃ n, s.st.passage = .ofRecord n ∧ s.st.record n = none) →
        exec (.inductionClearedEdge samples) s =
          .next { u with st := { s.st with
            passage := .none,
            counters := { s.st.counters with unmatchedTrailing := s.st.counters.unmatchedTrailing + 1 } } })
    ∧ ∀ (n : Count) (r : BagRecord) (l : Nat), s.st.passage = .ofRecord n → s.st.record n = some r →
        l = (s.st.encoderCount - r.leading).toNat →
        ∃ t, exec (.inductionClearedEdge samples) s = .next t ∧ t.st.passage = .none ∧ t.ms = s.ms
          ∧ t.config = s.config ∧ t.inputs = u.inputs
          ∧ (∀ m, m ≠ n → t.st.record m = s.st.record m)
          ∧ (l < s.config.minLength →
              t.st.records.map BagRecord.number = (s.st.records.map BagRecord.number).filter (· != n)
                ∧ t.st.counters.withdrawn = s.st.counters.withdrawn + 1
                ∧ t.st.expectations = s.st.expectations
                ∧ t.trp.windows.map ScanWindow.record = (s.trp.windows.map ScanWindow.record).filter (· != n)
                ∧ t.dc.armPoints = s.dc.armPoints.filter (fun p => p.record != n)
                ∧ t.dc.commitments = s.dc.commitments.filter (fun c => c.record != n)
                ∧ t.hlc = s.hlc ∧ t.su = s.su)
          ∧ (s.config.minLength ≤ l →
              ∃ r', t.st.record n = some r' ∧ r'.length = some l ∧ r'.leading = r.leading
                ∧ r'.commitment = r.commitment ∧ t.dc = s.dc ∧ t.om = s.om
                ∧ (s.config.mergeLimit < l → r'.reason = some (r.reason.getD .gap))
                ∧ (s.trp.window n = none → t.trp = s.trp)
                ∧ (∀ w, s.trp.window n = some w → s.config.scanTail = 0 →
                    t.trp = { s.trp with windows := s.trp.windows.filter fun w => w.record != n }
                      ∧ r'.readState = (if r'.tags ≠ [] then .read else if s.config.readerFitted then .noRead
                          else .notRead))
                ∧ (∀ w, s.trp.window n = some w → 1 ≤ s.config.scanTail → s.config.scanTail ≤ 2000 →
                    t.trp = { s.trp with windows := s.trp.windows.map fun w => if w.record = n then
                        { w with close := some (r.leading + BitVec.ofNat 16 l + BitVec.ofNat 16 s.config.scanTail) }
                      else w }
                      ∧ (r.readState = .windowOpen → r'.readState = .windowOpen))
                ∧ ((r.binding ≠ .awaiting ∨ s.st.expectations = []
                      ∨ ∃ e rest, s.st.expectations = e :: rest
                          ∧ withinTolerance s.config.tolerance e.length l = false
                          ∧ (s.config.mergeLimit < l ∨ rest = []
                              ∨ ∃ e2 rest2, rest = e2 :: rest2
                                  ∧ withinTolerance s.config.tolerance e2.length l = false)) →
                    r'.binding = r.binding ∧ r'.tags = r.tags ∧ r'.lap = r.lap ∧ r'.deferred = r.deferred
                      ∧ r'.missed = r.missed ∧ (l ≤ s.config.mergeLimit → r'.reason = r.reason)
                      ∧ t.st.expectations = s.st.expectations ∧ t.hlc = s.hlc ∧ t.su = s.su)
                ∧ (∀ e rest, r.binding = .awaiting → s.st.expectations = e :: rest →
                    withinTolerance s.config.tolerance e.length l = true →
                      r'.binding = .bound e.node e.bag ∧ r'.missed = (r.missed || e.missed)
                        ∧ r'.lap = min (if s.config.lapOrigin then e.lap + 1 else e.lap) s.config.lapLimit
                        ∧ (s.config.lapOrigin = false → r'.deferred = (r.deferred || e.deferred))
                        ∧ t.st.expectations = rest ∧ t.hlc = s.hlc ∧ t.su = s.su)
                ∧ (∀ e e2 rest, r.binding = .awaiting → s.st.expectations = e :: e2 :: rest →
                    withinTolerance s.config.tolerance e.length l = false → l ≤ s.config.mergeLimit →
                    withinTolerance s.config.tolerance e2.length l = true →
                      r'.binding = .bound e2.node e2.bag ∧ t.st.expectations = rest
                        ∧ t.st.counters.expectationsLost = s.st.counters.expectationsLost + 1
                        ∧ t.hlc = s.hlc.enqueue ⟨0, .lost ⟨e.node, e.lap, s.config.address, e.tags⟩⟩))

/-- R12, R14, R33, R34, R35, R39: a blocked edge at the handoff eye hands the oldest record not in phase FIRED off downstream,
once the count has reached its window; otherwise the passage is untracked and no record changes. That a scan window still open
at the record's end gives an orphaned notice is the model's inference (notes/assumptions/11.md); that the samples come with the
command is its choice (notes/assumptions/37.md). -/
def Obligations.HandoffEyeHandsOff : Prop :=
  (∀ (s : State) (samples : List Bool) (f : InputFilter) (older younger : List BagRecord) (r : BagRecord),
    s.running = true → hearEye samples s.inputs.handoff = some (f, some (.changes true)) →
    s.st.records = older ++ r :: younger → (∀ x ∈ older, x.isFired = true) → r.isFired = false →
    hasReached s.st.encoderCount
      (r.leading + BitVec.ofNat 16 s.config.handoff - BitVec.ofNat 16 s.config.tolerance) = true →
    ∃ t, exec (.handoffEyeBlockedEdge samples) s = .next t
      ∧ t.st = { s.trackerWithout r.number with
          counters := { (s.trackerWithout r.number).counters with handedOff := s.st.counters.handedOff + 1 } }
      ∧ t.hlc = s.hlc.enqueue ⟨s.config.downstream, .handoff
          { bag := r.number, tags := r.tags, length := r.length.getD 0,
            readState := if r.readState = .windowOpen then
                (if r.tags = [] then (if s.config.readerFitted then .noRead else .notRead) else .read)
              else r.readState,
            lap := r.lap, deferred := r.deferred, missed := r.missed, reason := r.reason }⟩
      ∧ t.trp.windows = s.trp.windows.filter (fun w => w.record != r.number) ∧ t.trp.counters = s.trp.counters
      ∧ t.dc = s.dc.forget r.number ∧ t.ms = s.ms ∧ t.su = s.su ∧ t.config = s.config
      ∧ t.inputs = { s.inputs with handoff := f }
      ∧ (s.nc.state ≠ .standbyPending → t.nc = s.nc ∧ t.om = s.om ∧ t.trp.assembly = s.trp.assembly))
    ∧ (∀ (s : State) (samples : List Bool) (f : InputFilter), s.running = true →
        hearEye samples s.inputs.handoff = some (f, some (.changes true)) →
        (∀ r, s.st.records.find? (fun x => !x.isFired) = some r →
          hasReached s.st.encoderCount
            (r.leading + BitVec.ofNat 16 s.config.handoff - BitVec.ofNat 16 s.config.tolerance) = false) →
        exec (.handoffEyeBlockedEdge samples) s =
          .next { s with
            inputs := { s.inputs with handoff := f }
            st := { s.st with
              counters := { s.st.counters with untracked := s.st.counters.untracked + 1 } } })
    ∧ ∀ (s : State) (samples : List Bool), s.running = true →
        (∀ f, hearEye samples s.inputs.handoff = some (f, none) →
          exec (.handoffEyeBlockedEdge samples) s = .next { s with inputs := { s.inputs with handoff := f } })
        ∧ (hearEye samples s.inputs.handoff = none → exec (.handoffEyeBlockedEdge samples) s = .next s)

/-! ## Points -/

/-- R25, R28, R36, R37, R39: a point that the count has reached is taken: a record still AWAITING at its span point is NEW; a
record at its window end is lost; an expectation at its expiry is lost; each loss is reported. A point not reached, or of no
record or expectation held, changes nothing (the model's choice, notes/assumptions/4.md); the orphaned notice of a window open
at the record's end is its inference (notes/assumptions/11.md). -/
def Obligations.RecordPointsTaken : Prop :=
  (∀ (s : State) (n : Count) (r : BagRecord), s.running = true → s.st.record n = some r →
    exec (.spanPoint n) s =
      .next (if hasReached s.st.encoderCount (r.leading + BitVec.ofNat 16 s.config.lateSpan) = true then
        { s with st := s.trackerWith n fun x => if x.binding = .awaiting then { x with binding := .new } else x }
      else s))
    ∧ (∀ (s : State) (n : Count), s.st.record n = none →
        exec (.spanPoint n) s = .next s ∧ exec (.windowEndPoint n) s = .next s)
    ∧ (∀ (s : State) (n : Count) (r : BagRecord), s.running = true → s.st.record n = some r →
        (hasReached s.st.encoderCount (r.leading + BitVec.ofNat 16 (s.config.handoff + s.config.tolerance)) = false →
          exec (.windowEndPoint n) s = .next s)
        ∧ (hasReached s.st.encoderCount (r.leading + BitVec.ofNat 16 (s.config.handoff + s.config.tolerance)) = true →
            ∃ t, exec (.windowEndPoint n) s = .next t
              ∧ t.st = { s.trackerWithout n with
                  counters := { (s.trackerWithout n).counters with lost := s.st.counters.lost + 1 } }
              ∧ t.hlc = s.hlc.enqueue ⟨0, .lost ⟨s.config.address, r.lap, s.config.address, r.tags⟩⟩
              ∧ t.su = (if s.config.isStrayNode then
                  s.su.withReport (.lost s.config.address s.config.address) r.tags (some r.lap) else s.su)
              ∧ t.nc.logMark = (s.nc.logMark || s.config.isStrayNode)
              ∧ t.trp.windows = s.trp.windows.filter (fun w => w.record != n) ∧ t.trp.counters = s.trp.counters
              ∧ t.dc = s.dc.forget n ∧ t.ms = s.ms ∧ t.config = s.config ∧ t.inputs = s.inputs
              ∧ (s.nc.state ≠ .standbyPending →
                  t.nc.state = s.nc.state ∧ t.nc.counters = s.nc.counters ∧ t.om = s.om)))
    ∧ (∀ (s : State) (node : Nat) (bag : Count),
        (∀ e ∈ s.st.expectations, ¬ (e.node = node ∧ e.bag = bag)) → exec (.expiryPoint node bag) s = .next s)
    ∧ ∀ (s : State) (older younger : List Expectation) (e : Expectation), s.running = true →
        s.st.expectations = older ++ e :: younger → (∀ x ∈ older ++ younger, ¬ (x.node = e.node ∧ x.bag = e.bag)) →
        (hasReached s.st.encoderCount (e.receipt + BitVec.ofNat 16 (s.config.feed + s.config.lateSpan)) = false →
          exec (.expiryPoint e.node e.bag) s = .next s)
        ∧ (hasReached s.st.encoderCount (e.receipt + BitVec.ofNat 16 (s.config.feed + s.config.lateSpan)) = true →
            ∃ t, exec (.expiryPoint e.node e.bag) s = .next t
              ∧ t.st = { s.st with
                  expectations := older ++ younger
                  counters := { s.st.counters with expectationsLost := s.st.counters.expectationsLost + 1 } }
              ∧ t.hlc = s.hlc.enqueue ⟨0, .lost ⟨e.node, e.lap, s.config.address, e.tags⟩⟩
              ∧ t.su = (if s.config.isStrayNode then s.su.withReport (.lost e.node s.config.address) e.tags (some e.lap)
                  else s.su)
              ∧ t.nc.logMark = (s.nc.logMark || s.config.isStrayNode)
              ∧ t.dc = s.dc ∧ t.ms = s.ms ∧ t.config = s.config ∧ t.inputs = s.inputs ∧ t.trp.windows = s.trp.windows
              ∧ (s.nc.state ≠ .standbyPending →
                  t.nc.state = s.nc.state ∧ t.nc.counters = s.nc.counters ∧ t.om = s.om ∧ t.trp = s.trp))

/-- R23, R24, R27, R29, R194: a HANDOFF delivered to the ST: refused and counted when it fails a check; bound late to the
first AWAITING record whose length is within tolerance; otherwise expected, a full list losing its oldest. Addressed, it
first wakes a node in STANDBY. -/
def Obligations.HandoffTaken : Prop :=
  ∀ (s u : State) (rx : Rx) (p : List Byte) (h : ReceivedHandoff), s.delivers classHandoff rx p → h = readHandoff p →
    u = s.takenAwake rx →
    ((broadcast rx = true ∨ 2 < h.tagCount ∨ 0 ∈ h.tags ∨ ¬ h.tags.Nodup ∨ 7 < h.lap
          ∨ h.readCode ∉ [1, 2, 3] ∨ 8 < h.reasonCode
          ∨ (∃ e ∈ s.st.expectations, e.node = rx.sender.toNat ∧ e.bag = h.bag)
          ∨ ∃ r ∈ s.st.records, r.binding = .bound rx.sender.toNat h.bag) →
        exec (.handoff rx p) s = .next { u with st := { s.st with
          counters := { s.st.counters with handoffsRefused := s.st.counters.handoffsRefused + 1 } } })
    ∧ ∀ e, e = expectationOf rx.sender.toNat h s.st.encoderCount →
        broadcast rx = false → h.tagCount ≤ 2 → 0 ∉ h.tags → h.tags.Nodup → h.lap ≤ 7 → h.readCode ∈ [1, 2, 3] →
        h.reasonCode ≤ 8 → (∀ x ∈ s.st.expectations, ¬ (x.node = rx.sender.toNat ∧ x.bag = h.bag)) →
        (∀ r ∈ s.st.records, r.binding ≠ .bound rx.sender.toNat h.bag) →
        (∀ r, s.st.records.find? (fun r => r.binding == .awaiting
            && withinTolerance s.config.tolerance (r.length.getD 0) h.length) = some r →
          exec (.handoff rx p) s = .next { u with st := s.trackerWith r.number (BagRecord.bind s.config e) })
        ∧ ((∀ r ∈ s.st.records, ¬ (r.binding = .awaiting
              ∧ withinTolerance s.config.tolerance (r.length.getD 0) h.length = true)) →
            (s.st.expectations.length < 16 →
              exec (.handoff rx p) s = .next { u with st := { s.st with expectations := s.st.expectations ++ [e] } })
            ∧ (16 ≤ s.st.expectations.length →
              exec (.handoff rx p) s = .next { u with st := { s.st with
                expectations := s.st.expectations.tail ++ [e]
                counters := { s.st.counters with
                  expectationOverflow := s.st.counters.expectationOverflow + 1 } } }))

/-- R29 to R31: what a binding does to a record: the upstream, the tags merged in order up to two with TAG-SURPLUS for a
third, the lap by this section's role and its limit, the flags and the reason kept or inherited. A record whose window is open
stays WINDOW-OPEN, and one closed NO-READ or NOT-READ to which the merge gives a tag is READ. -/
def Obligations.BindingInherits : Prop :=
  ∀ (c : NodeConfig) (e : Expectation) (r r' : BagRecord), r' = BagRecord.bind c e r →
    r.tags.length ≤ 2 → r.tags.Nodup → e.tags.length ≤ 2 → e.tags.Nodup →
    r'.number = r.number ∧ r'.leading = r.leading ∧ r'.length = r.length ∧ r'.commitment = r.commitment
    ∧ r'.binding = .bound e.node e.bag
    ∧ r'.tags = (r.tags ++ e.tags.filter fun x => !r.tags.contains x).take 2
    ∧ r'.missed = (r.missed || e.missed)
    ∧ (c.lapOrigin = false → r'.lap = min e.lap c.lapLimit ∧ r'.deferred = (r.deferred || e.deferred))
    ∧ (c.lapOrigin = true → r'.lap = min (e.lap + 1) c.lapLimit ∧ r'.deferred = r.deferred)
    ∧ (∀ x, r.reason = some x → r'.reason = some x)
    ∧ (r.reason = none → 2 < (r.tags ++ e.tags.filter fun x => !r.tags.contains x).length →
        r'.reason = some .tagSurplus)
    ∧ (r.reason = none → (r.tags ++ e.tags.filter fun x => !r.tags.contains x).length ≤ 2 →
        r'.reason = (match e.reason with
          | some x => some x
          | none => if c.lapOrigin = true ∧ r'.lap = c.lapLimit then some .lapLimit else none))
    ∧ (r.readState = .windowOpen → r'.readState = .windowOpen)
    ∧ (r.readState = .read → r'.readState = .read)
    ∧ ((r.readState = .noRead ∨ r.readState = .notRead) →
        r'.readState = if r'.tags.length = r.tags.length then r.readState else .read)

/-- R54, R58: the close point of a record's scan window: reached, the window closes and the record is READ where it holds
tags, and otherwise NO-READ or NOT-READ by whether the port is fitted. That a point not registered or not reached changes
nothing is the model's choice (notes/assumptions/4.md). -/
def Obligations.ClosePointCloses : Prop :=
  ∀ (s : State) (n : Count), s.running = true →
    (∀ (w : ScanWindow) (x : Count), s.trp.window n = some w → w.close = some x →
      (hasReached s.st.encoderCount x = false → exec (.closePoint n) s = .next s)
      ∧ ∀ r, hasReached s.st.encoderCount x = true → s.st.record n = some r →
          exec (.closePoint n) s = .next { s with
            trp := { s.trp with windows := s.trp.windows.filter fun w => w.record != n }
            st := s.trackerWith n fun y => { y with
              readState := if r.tags ≠ [] then .read else if s.config.readerFitted then .noRead else .notRead } })
    ∧ ((s.trp.window n = none ∨ ∃ w, s.trp.window n = some w ∧ w.close = none) →
        exec (.closePoint n) s = .next s)

/-! ## Arm points and the decision sequence -/

/-- R95, R96: the decision sequence is the first line that applies in the table of R96. -/
def Obligations.DecisionTable : Prop :=
  ∀ (s : State) (k : OutletNo) (r : BagRecord) (o : OutletConfig) (m : OutletRecord), o = s.config.outlet k →
    m = s.om.outlet k → r.tags.length ≤ 2 →
    (r.reason ≠ none → ∀ l, r.length = some l →
      decideRoute s k r = if o.role = .stray ∧ m.state = .opened ∧ l ≤ o.maxLength then .commitStray else .pass)
    ∧ (r.reason ≠ none → r.length = none →
        decideRoute s k r = if o.role = .stray ∧ m.state = .opened then .passNoLength else .pass)
    ∧ (r.reason = none → o.role = .stray → decideRoute s k r = .pass)
    ∧ ∀ deck, r.reason = none → o.role = .deck deck →
        (r.tags = [] → decideRoute s k r = .pass)
        ∧ ((∀ x ∈ r.tags, s.ms.lookup x = none) → decideRoute s k r = .pass)
        ∧ (∀ a b e f, r.tags = [a, b] → s.ms.lookup a = some e → s.ms.lookup b = some f → e.cabin ≠ f.cabin →
            decideRoute s k r = .markStray .tagConflict)
        ∧ ∀ e, r.tags.findSome? s.ms.lookup = some e →
            (∀ x ∈ r.tags, ∀ f, s.ms.lookup x = some f → f.cabin = e.cabin) →
            decideRoute s k r =
              if lookupCabin s.ms.map e.cabin = .contested then .markStray .mapConflict
              else if lookupCabin s.ms.map e.cabin ≠ .deck deck then .pass
              else if deck ∈ s.om.closed then .markStray .deckClosed
              else if e.mark ≠ .none then .markStray .duplicate
              else if (∃ c, s.ms.cabin e.cabin = some c ∧ c.delivered = c.expected) then .markStray .excess
              else
                match r.length with
                | none => .passNoLength
                | some l =>
                  if o.maxLength < l ∨ (e.oversize = true ∧ o.longCapable = false) then .pass
                  else if m.state ≠ .opened then .pass
                  else if o.shareLimit ≤ m.reading ∧ r.deferred = false
                      ∧ (∃ v ∈ s.om.view, v.deck = deck ∧ v.peer ≠ s.config.address ∧ v.summary = .openLow
                          ∧ v.reading < m.reading) then .deferBag
                  else .commitDeck e.tag e.cabin deck

/-- R93, R94, R97 to R102: an arm point that the count has reached is spent. In JOINING, or for a record that holds a
commitment, nothing else follows; otherwise the evaluation is counted and the decision carried out: a reason, the deferred
flag, or a commitment with its lead, fire count and deadline, whose fire point is taken at once if already reached. That an
arm point not registered or not reached changes nothing is the model's choice (notes/assumptions/4.md). -/
def Obligations.ArmPointTaken : Prop :=
  ∀ (s : State) (n : Count) (k : OutletNo), s.running = true →
    ((∀ p ∈ s.dc.armPoints, ¬ (p.record = n ∧ p.outlet = k)) → exec (.armPoint n k) s = .next s)
    ∧ ∀ (p : ArmPoint) (r : BagRecord) (points : List ArmPoint),
        s.dc.armPoints.find? (fun p => p.record == n && p.outlet == k) = some p → s.st.record n = some r →
        points = s.dc.armPoints.filter (fun p => !(p.record == n && p.outlet == k)) →
        (hasReached s.st.encoderCount p.count = false → exec (.armPoint n k) s = .next s)
        ∧ (hasReached s.st.encoderCount p.count = true → (s.nc.state = .joining ∨ r.commitment ≠ none) →
            exec (.armPoint n k) s = .next { s with dc := { s.dc with armPoints := points } })
        ∧ ∀ (d : DcCounters) (v : DivertController), hasReached s.st.encoderCount p.count = true →
            s.nc.state ≠ .joining → r.commitment = none →
            d = { s.dc.counters with evaluations := s.dc.counters.evaluations + 1 } →
            v = { s.dc with armPoints := points, counters := d } →
            (decideRoute s k r = .pass → exec (.armPoint n k) s = .next { s with dc := v })
            ∧ (decideRoute s k r = .passNoLength →
                exec (.armPoint n k) s =
                  .next { s with dc := { v with counters := { d with noLengthAtArm := d.noLengthAtArm + 1 } } })
            ∧ (∀ reason, decideRoute s k r = .markStray reason → r.reason = none →
                exec (.armPoint n k) s = .next { s with
                  dc := v
                  st := s.trackerWith n fun x => { x with reason := some (x.reason.getD reason) } })
            ∧ (decideRoute s k r = .deferBag →
                exec (.armPoint n k) s = .next { s with
                  dc := { v with counters := { d with deferrals := d.deferrals + 1 } }
                  st := s.trackerWith n fun x => { x with deferred := true } })
            ∧ ∀ (kind : CommitmentKind) (o : OutletConfig) (lead : Nat) (fire : Count),
                (decideRoute s k r = .commitStray ∧ kind = .stray
                  ∨ ∃ tag cabin deck, decideRoute s k r = .commitDeck tag cabin deck ∧ kind = .deck tag cabin deck) →
                o = s.config.outlet k → lead = min ((s.st.speed * o.leadMs + 500) / 1000) o.arm →
                fire = r.leading + BitVec.ofNat 16 (o.centre + r.length.getD 0 / 2) - BitVec.ofNat 16 lead →
                ∃ t u, exec (.armPoint n k) s = .next t ∧ exec (.armPoint n k) s = exec (.firePoint n) u
                  ∧ u = { s with
                      dc := { v with
                        commitments := s.dc.commitments ++
                          [⟨n, k, kind, lead, fire, fire + BitVec.ofNat 16 o.confirm, .armed⟩]
                        counters := { d with
                          commitments := d.commitments + 1
                          leadClamped := if o.arm < (s.st.speed * o.leadMs + 500) / 1000 then d.leadClamped + 1
                            else d.leadClamped } }
                      st := s.trackerWith n fun x => { x with
                        commitment := some ⟨k, fire, fire + BitVec.ofNat 16 o.confirm, .armed⟩ } }
                  ∧ (hasReached s.st.encoderCount fire = false → s.dc.commitmentOf n = none → t = u)

/-- R101, R102: the lead is the nearest whole number of pulses to S times T over 1,000, never above the arm distance; the
fire count is never before the arm count; the deadline lies W after the fire count and before the handoff window. -/
def Obligations.LeadAndFireCount : Prop :=
  ∀ (c : NodeConfig) (k : OutletNo) (o : OutletConfig) (leading : Count) (length speed lead : Nat),
    o = c.outlet k → o.fitted = true → o.arm < o.centre → length ≤ o.maxLength → placementOk c = true → spanOk c = true →
    lead = leadOf o speed →
    lead = min ((speed * o.leadMs + 500) / 1000) o.arm
    ∧ lead ≤ o.arm
    ∧ (lead < o.arm → speed * o.leadMs < lead * 1000 + 500) ∧ lead * 1000 ≤ speed * o.leadMs + 500
    ∧ (fireCountOf o leading length lead - armCountOf o leading).toNat = length / 2 + (o.arm - lead)
    ∧ (fireCountOf o leading length lead - leading).toNat = o.centre + length / 2 - lead
    ∧ (deadlineOf o (fireCountOf o leading length lead) - leading).toNat = o.centre + length / 2 - lead + o.confirm
    ∧ o.centre + length / 2 - lead + o.confirm < (windowStartOf c leading - leading).toNat

/-- R38, R91, R92, R103 to R105, R110, R127: a fire point reached fires an idle pusher, whose deadline point is taken at once
if already reached, and drops the commitment at a busy one; a deadline reached is a miss, the third of which jams the
outlet; a stroke timer's expiry turns the pusher off. That the expiry of an idle stroke timer, and a point not reached, change
nothing is the model's choice (notes/assumptions/4.md). -/
def Obligations.PushTimed : Prop :=
  (∀ (s : State) (n : Count), s.dc.commitmentOf n = none →
    exec (.firePoint n) s = .next s ∧ exec (.deadlinePoint n) s = .next s)
    ∧ (∀ (s : State) (n : Count) (c : Commitment) (r : BagRecord), s.running = true → s.dc.commitmentOf n = some c →
        s.st.record n = some r →
        ((c.phase = .fired ∨ hasReached s.st.encoderCount c.fire = false) → exec (.firePoint n) s = .next s)
        ∧ ((c.phase = .armed ∨ hasReached s.st.encoderCount c.deadline = false) →
            exec (.deadlinePoint n) s = .next s)
        ∧ (c.phase = .armed → hasReached s.st.encoderCount c.fire = true → s.dc.strokes.get c.outlet = none →
            ∃ t u, exec (.firePoint n) s = .next t ∧ exec (.firePoint n) s = exec (.deadlinePoint n) u
              ∧ u = { s with
                  dc := { s.dc with
                    commitments := s.dc.commitments.map fun x => if x.record = n then { x with phase := .fired } else x
                    strokes := s.dc.strokes.set c.outlet (some (s.config.outlet c.outlet).strokeMs)
                    counters := { s.dc.counters with fires := s.dc.counters.fires + 1 } }
                  st := s.trackerWith n fun x => { x with
                    commitment := x.commitment.map fun y => { y with phase := .fired } } }
              ∧ t.pusherOutput c.outlet = true
              ∧ (hasReached s.st.encoderCount c.deadline = false → t = u))
        ∧ (∀ p, c.phase = .armed → hasReached s.st.encoderCount c.fire = true → s.dc.strokes.get c.outlet = some p →
            ∃ t, exec (.firePoint n) s = .next t
              ∧ t.dc = { s.dc with
                  commitments := s.dc.commitments.filter fun x => x.record != n
                  counters := { s.dc.counters with pusherBusy := s.dc.counters.pusherBusy + 1 } }
              ∧ t.st = s.trackerWith n (fun x => { x with commitment := none })
              ∧ t.ms = s.ms ∧ t.su = s.su ∧ t.hlc = s.hlc ∧ t.config = s.config ∧ t.inputs = s.inputs
              ∧ (s.nc.state ≠ .standbyPending → t.nc = s.nc ∧ t.om = s.om ∧ t.trp = s.trp))
        ∧ (c.phase = .fired → hasReached s.st.encoderCount c.deadline = true →
            ∃ t, exec (.deadlinePoint n) s = .next t
              ∧ t.dc.counters.misses = s.dc.counters.misses + 1 ∧ t.dc.strokes = s.dc.strokes
              ∧ t.dc.armPoints = s.dc.armPoints ∧ t.dc.commitmentOf n = none
              ∧ (∀ x, t.st.record n = some x → x = { r with commitment := none, missed := true })
              ∧ t.ms = s.ms ∧ t.su = s.su ∧ t.config = s.config ∧ t.inputs = s.inputs
              ∧ ((s.om.outlet c.outlet).misses ≠ 2 →
                  t.dc.commitments = s.dc.commitments.filter (fun x => x.record != n)
                    ∧ t.st = s.trackerWith n (fun x => { x with commitment := none, missed := true })
                    ∧ t.om.outlet c.outlet =
                        { s.om.outlet c.outlet with misses := min 3 ((s.om.outlet c.outlet).misses + 1) }
                    ∧ t.om.counters = s.om.counters ∧ t.hlc = s.hlc
                    ∧ (s.nc.state ≠ .standbyPending → t.nc = s.nc ∧ t.trp = s.trp
                        ∧ t.om.view = s.om.view ∧ t.om.closed = s.om.closed ∧ t.om.pass = s.om.pass))
              ∧ ((s.om.outlet c.outlet).misses = 2 →
                  (t.om.outlet c.outlet).misses = 3 ∧ (t.om.outlet c.outlet).jam = true
                    ∧ (t.om.outlet c.outlet).state = .jammed
                    ∧ t.om.counters.jams = s.om.counters.jams + 1
                    ∧ ((s.om.outlet c.outlet).state ≠ .jammed →
                        ∀ x ∈ t.dc.commitments, ¬ (x.outlet = c.outlet ∧ x.phase = .armed)))))
    ∧ ∀ (s : State) (k : OutletNo), s.running = true →
        (s.dc.strokes.get k = none → exec (.strokeTimerExpiry k) s = .next s)
        ∧ ∀ p, s.dc.strokes.get k = some p →
            ∃ t, exec (.strokeTimerExpiry k) s = .next t
              ∧ t.dc = { s.dc with strokes := s.dc.strokes.set k none } ∧ t.pusherOutput k = false
              ∧ t.st = s.st ∧ t.ms = s.ms ∧ t.su = s.su ∧ t.hlc = s.hlc ∧ t.config = s.config ∧ t.inputs = s.inputs
              ∧ t.trp.windows = s.trp.windows
              ∧ (s.nc.state ≠ .standbyPending → t.nc = s.nc ∧ t.om = s.om ∧ t.trp = s.trp)

/-- R12, R107 to R109, R111, R112, R150, R153: an exit-eye edge confirms the FIRED commitment for that outlet whose record is
oldest: the record is diverted, the miss counter returns to 0, and by kind the MS is asked for a SELF mark with a DELIVERED
broadcast, or the SU is given the stray; an edge with none is unsolicited. The orphaned notice of a window open at the record's
end is the model's inference (notes/assumptions/11.md); that the samples come with the command is its choice
(notes/assumptions/37.md). -/
def Obligations.ExitEyeConfirms : Prop :=
  (∀ (s : State) (k : OutletNo) (samples : List Bool) (f : InputFilter) (older younger : List BagRecord) (r : BagRecord)
      (c : Commitment), s.running = true → (s.config.outlet k).fitted = true →
    hearEye samples (s.inputs.exits.get k) = some (f, some (.changes true)) → s.st.records = older ++ r :: younger →
    (∀ x ∈ older, ∀ y ∈ s.dc.commitments, ¬ (y.record = x.number ∧ y.outlet = k ∧ y.phase = .fired)) →
    s.dc.commitments.find? (fun y => y.record == r.number && (y.outlet == k && y.phase == .fired)) = some c →
    ∃ t, exec (.exitEyeBlockedEdge k samples) s = .next t
      ∧ t.st = { s.trackerWithout r.number with
          counters := { (s.trackerWithout r.number).counters with diverted := s.st.counters.diverted + 1 } }
      ∧ t.trp.windows = s.trp.windows.filter (fun w => w.record != r.number) ∧ t.trp.counters = s.trp.counters
      ∧ t.dc.commitments = s.dc.commitments.filter (fun x => x.record != r.number)
      ∧ t.dc.armPoints = s.dc.armPoints.filter (fun p => p.record != r.number)
      ∧ t.dc.strokes = s.dc.strokes ∧ t.dc.counters.deliveries = s.dc.counters.deliveries + 1
      ∧ t.om.outlet k = { s.om.outlet k with misses := 0 } ∧ (∀ j, j ≠ k → t.om.outlet j = s.om.outlet j)
      ∧ t.om.view = s.om.view ∧ t.om.closed = s.om.closed ∧ t.config = s.config
      ∧ t.inputs = { s.inputs with exits := s.inputs.exits.set k f }
      ∧ (∀ tag cabin deck, c.kind = .deck tag cabin deck →
          t.ms = s.ms.markSelf tag k deck
            ∧ t.hlc = s.hlc.enqueue ⟨0, .delivered ⟨tag, cabin, deck, s.config.address, k.number⟩⟩
            ∧ t.su = s.su ∧ t.dc.counters.strayDeliveries = s.dc.counters.strayDeliveries)
      ∧ (c.kind = .stray →
          t.dc.counters.strayDeliveries = s.dc.counters.strayDeliveries + 1
            ∧ t.su.nextSequence = s.su.nextSequence + 1
            ∧ t.su.counters.strayEntries = s.su.counters.strayEntries + 1
            ∧ t.nc.logMark = true
            ∧ (r.tags = [] →
                t.su.ring.getLast? = some ⟨s.su.nextSequence, .inChute r.reason, [], some r.lap, r.length, [], .none,
                  .notAsked⟩ ∧ t.hlc = s.hlc ∧ t.ms = s.ms)
            ∧ (r.tags ≠ [] →
                ∃ claims, claims = r.tags.filterMap s.claimFor
                  ∧ t.su.ring.getLast? = some ⟨s.su.nextSequence, .inChute r.reason, r.tags, some r.lap, r.length, claims,
                      .running, claimStateOf claims .running⟩
                  ∧ ⟨s.su.nextSequence, s.config.claimMs⟩ ∈ t.su.timers
                  ∧ t.su.counters.ownClaims = s.su.counters.ownClaims + BitVec.ofNat 32 claims.length
                  ∧ t.su.counters.callsQueued = s.su.counters.callsQueued + 1
                  ∧ t.hlc = s.hlc.enqueue ⟨0, .strayCall s.su.nextSequence r.tags⟩
                  ∧ t.ms.cabins = s.ms.cabins ∧ t.ms.map = s.ms.map ∧ t.ms.counters = s.ms.counters
                  ∧ (s.ms.capacitiesOk → s.ms.purgeRunning = false →
                      t.ms.table = s.ms.table.map fun e => if e.tag ∈ r.tags then { e with strayed := true } else e))))
    ∧ (∀ (s : State) (k : OutletNo) (samples : List Bool) (f : InputFilter), s.running = true →
        (s.config.outlet k).fitted = true →
        hearEye samples (s.inputs.exits.get k) = some (f, some (.changes true)) →
        (∀ x ∈ s.st.records, ∀ y ∈ s.dc.commitments,
          ¬ (y.record = x.number ∧ y.outlet = k ∧ y.phase = .fired)) →
        exec (.exitEyeBlockedEdge k samples) s =
          .next { s with
            inputs := { s.inputs with exits := s.inputs.exits.set k f }
            dc := { s.dc with
              counters := { s.dc.counters with unsolicited := s.dc.counters.unsolicited + 1 } } })
    ∧ ∀ (s : State) (k : OutletNo) (samples : List Bool), s.running = true →
        (∀ f, (s.config.outlet k).fitted = true → hearEye samples (s.inputs.exits.get k) = some (f, none) →
          exec (.exitEyeBlockedEdge k samples) s =
            .next { s with inputs := { s.inputs with exits := s.inputs.exits.set k f } })
        ∧ (((s.config.outlet k).fitted = false ∨ hearEye samples (s.inputs.exits.get k) = none) →
            exec (.exitEyeBlockedEdge k samples) s = .next s)

/-! ## Outlets and peers -/

/-- R120 to R125: the end of a reading at the outlet the converter is on: faulted with reading 255 when any conversion is at a
rail, otherwise the mean of N ten-bit codes over 4; the full latch by the full and clear limits; the converter moves on; and
what follows the change. R122: in PACED mode a pass starts each 1,000 ms. That conversions whose number is not the averaging
count, or that come with no pass running, change nothing is the model's choice (notes/assumptions/4.md). -/
def Obligations.GaugeReadingTaken : Prop :=
  (∀ (s : State) (k : OutletNo) (codes : List (BitVec 10)) (o : OutletRecord) (faulted : Bool) (reading : Nat),
    s.running = true → s.linked → s.om.pass = some k → codes.length = s.config.averaging → o = s.om.outlet k →
    faulted = codes.any (fun c => c == 0 || c == 1023) →
    reading = (if faulted then 255 else (codes.map BitVec.toNat).sum / (4 * s.config.averaging)) →
    (s.config.averaging ≠ 0 → reading ≤ 255)
    ∧ exec (.gaugeConversionEnd codes) s = .next
        (State.outletSettled { s with om := { s.om with
            pass := s.config.placeAfter k
            counters := { s.om.counters with
              faultedReadings := if faulted then s.om.counters.faultedReadings + 1 else s.om.counters.faultedReadings } } }
          k { o with
              reading := reading
              gaugeFault := faulted
              firstPending := false
              fullLatch :=
                if (s.config.outlet k).fullLimit ≤ reading then true
                else if o.firstPending = true ∨ reading ≤ (s.config.outlet k).clearLimit then false
                else o.fullLatch }
          o.firstPending))
    ∧ (∀ (s : State) (codes : List (BitVec 10)), (s.om.pass = none ∨ codes.length ≠ s.config.averaging) →
        exec (.gaugeConversionEnd codes) s = .next s)
    ∧ ∀ s : State, s.running = true →
        (∀ p, s.config.gaugeMode = .paced → s.om.paceTimer = some p → s.om.pass = none →
          exec .gaugePassStart s =
            .next { s with om := { s.om with pass := s.config.firstFitted, paceTimer := some 1000 } })
        ∧ ((s.om.paceTimer = none ∨ s.om.pass ≠ none) → exec .gaugePassStart s = .next s)

/-- R15, R126 to R131, R194: the actuator fault follows the filtered level of its input, an initial ASSERTED level included, taken
after 200 samples; an addressed OUTLET-RESTORE of a fitted outlet clears its jam and miss
counter and otherwise is refused; a deck is closed or opened, or refused out of range; each with what follows for the
outlet. That an OUTLET-RESTORE in STANDBY first wakes the node and then acts is the model's inference
(notes/assumptions/30.md); that the samples come with the command is its choice (notes/assumptions/37.md). -/
def Obligations.OutletCommandsTaken : Prop :=
  (∀ (s : State) (k : OutletNo) (samples : List Bool), s.running = true → s.linked →
    (∀ (f : InputFilter) (e : FilterEvent) (asserted : Bool), (s.config.outlet k).fitted = true →
      hearFault samples (s.inputs.faults.get k) = some (f, some e) → (e = .changes asserted ∨ e = .adopts asserted) →
      exec (.actuatorFaultChange k samples) s =
        .next (State.outletSettled { s with inputs := { s.inputs with faults := s.inputs.faults.set k f } } k
          { s.om.outlet k with actuatorFault := asserted } false))
    ∧ (∀ f, (s.config.outlet k).fitted = true → hearFault samples (s.inputs.faults.get k) = some (f, none) →
        exec (.actuatorFaultChange k samples) s =
          .next { s with inputs := { s.inputs with faults := s.inputs.faults.set k f } })
    ∧ (((s.config.outlet k).fitted = false ∨ hearFault samples (s.inputs.faults.get k) = none) →
        exec (.actuatorFaultChange k samples) s = .next s))
    ∧ (∀ (level : Bool) (n : Nat),
        hearFault (List.replicate 200 level) (.adopting []) =
            some (.following level 0, if level then some (.adopts true) else none)
        ∧ hearFault (List.replicate 200 (!level)) (.following level 0) =
            some (.following (!level) 0, some (.changes (!level)))
        ∧ (n < 200 → hearFault (List.replicate n (!level)) (.following level 0) = some (.following level n, none)))
    ∧ (∀ (s u : State) (rx : Rx) (p : List Byte), s.delivers classOutletRestore rx p → s.linked → u = s.takenAwake rx →
        ((broadcast rx = true ∨ ∀ k : OutletNo, k.number = byteAt p 0 → (s.config.outlet k).fitted = false) →
          exec (.outletRestore rx p) s = .next { u with om := { u.om with
            counters := { u.om.counters with restoresRefused := u.om.counters.restoresRefused + 1 } } })
        ∧ ∀ k : OutletNo, broadcast rx = false → k.number = byteAt p 0 → (s.config.outlet k).fitted = true →
            exec (.outletRestore rx p) s = .next
              (State.outletSettled { u with om := { u.om with
                  counters := { u.om.counters with restores := u.om.counters.restores + 1 } } }
                k { u.om.outlet k with jam := false, misses := 0 } false))
    ∧ (∀ (s u : State) (rx : Rx) (p : List Byte) (d : Nat), s.delivers classDeckClose rx p → s.linked →
        u = s.takeTelegram rx → d = byteAt p 0 →
        ((d = 0 ∨ 20 < d) → exec (.deckClose rx p) s = .next { u with om := { u.om with
          counters := { u.om.counters with deckRefused := u.om.counters.deckRefused + 1 } } })
        ∧ ∀ b, 1 ≤ d → d ≤ 20 →
            b = { u with om := { u.om with
              closed := if d ∈ s.om.closed then s.om.closed else insertDeck d s.om.closed
              counters := { u.om.counters with deckCloses := u.om.counters.deckCloses + 1 } } } →
            (∀ x, x ∈ b.om.closed ↔ x = d ∨ x ∈ s.om.closed)
            ∧ ((d ∈ s.om.closed ∨ s.config.serves d = false) → exec (.deckClose rx p) s = .next b)
            ∧ ∀ k, d ∉ s.om.closed → (s.config.outlet k).deckServed = some d → s.config.servedDecks.Nodup →
                exec (.deckClose rx p) s = .next (b.outletSettled k (s.om.outlet k) false))
    ∧ ∀ (s u : State) (rx : Rx) (p : List Byte) (d : Nat), s.delivers classDeckOpen rx p → s.linked →
        u = s.takeTelegram rx → d = byteAt p 0 →
        ((d = 0 ∨ 20 < d) → exec (.deckOpen rx p) s = .next { u with om := { u.om with
          counters := { u.om.counters with deckRefused := u.om.counters.deckRefused + 1 } } })
        ∧ ∀ b, 1 ≤ d → d ≤ 20 →
            b = { u with om := { u.om with
              closed := s.om.closed.filter fun x => x != d
              counters := { u.om.counters with deckOpens := u.om.counters.deckOpens + 1 } } } →
            ((d ∉ s.om.closed ∨ s.config.serves d = false) → exec (.deckOpen rx p) s = .next b)
            ∧ ∀ k, d ∈ s.om.closed → (s.config.outlet k).deckServed = some d → s.config.servedDecks.Nodup →
                exec (.deckOpen rx p) s = .next (b.outletSettled k (s.om.outlet k) false)

/-- R134, R136, R137, R140: the refresh timer's expiry queues a round; a peer's OUTLET-STATE is refused, unserved, or entered
in the view as the newest heard; an entry's expiry comes three refresh periods after its last hearing. That the expiry of an
idle refresh timer, or of an entry not due, changes nothing is the model's choice (notes/assumptions/4.md). -/
def Obligations.RefreshAndViewTaken : Prop :=
  (∀ (s : State) (n : Nat), s.running = true → s.om.refreshTimer = some n →
    exec .refreshTimerExpiry s = .next s.roundQueued)
    ∧ (∀ s : State, s.om.refreshTimer = none → exec .refreshTimerExpiry s = .next s)
    ∧ (∀ (s u : State) (rx : Rx) (p : List Byte), s.delivers classOutletState rx p → u = s.takeTelegram rx →
        ((byteAt p 1 = 0 ∨ 3 < byteAt p 1 ∨ rx.sender = 0 ∨ 60 < rx.sender.toNat ∨ byteAt p 0 = 0 ∨ 20 < byteAt p 0) →
          exec (.outletState rx p) s = .next { u with om := { u.om with
            counters := { u.om.counters with statesRefused := u.om.counters.statesRefused + 1 } } })
        ∧ (1 ≤ byteAt p 1 → byteAt p 1 ≤ 3 → 1 ≤ rx.sender.toNat → rx.sender.toNat ≤ 60 → 1 ≤ byteAt p 0 →
            byteAt p 0 ≤ 20 → s.config.serves (byteAt p 0) = false →
            exec (.outletState rx p) s = .next { u with om := { u.om with
              counters := { u.om.counters with statesUnserved := u.om.counters.statesUnserved + 1 } } })
        ∧ ∀ (summary : Summary) (e : ViewEntry) (others : List ViewEntry), summaryCode summary = byteAt p 1 →
            1 ≤ rx.sender.toNat → rx.sender.toNat ≤ 60 → 1 ≤ byteAt p 0 → byteAt p 0 ≤ 20 →
            s.config.serves (byteAt p 0) = true →
            e = { peer := rx.sender.toNat, deck := byteAt p 0, summary := summary, reading := byteAt p 2,
                  lastHeard := rx.time } →
            others = s.om.view.filter (fun x => !(x.peer == e.peer && x.deck == e.deck)) →
            ((others.length < s.om.view.length ∨ s.om.view.length < 32) →
              exec (.outletState rx p) s = .next { u with om := { u.om with view := others ++ [e] } })
            ∧ (others.length = s.om.view.length → 32 ≤ s.om.view.length →
              exec (.outletState rx p) s = .next { u with om := { u.om with
                view := s.om.view.tail ++ [e]
                counters := { u.om.counters with viewReplacements := u.om.counters.viewReplacements + 1 } } }))
    ∧ ∀ (s : State) (peer deck time : Nat), s.running = true →
        ((∃ e ∈ s.om.view, e.peer = peer ∧ e.deck = deck ∧ e.lastHeard + 3000 * s.config.refreshSec ≤ time) →
          exec (.viewExpiry peer deck time) s = .next { s with om := { s.om with
            view := s.om.view.filter fun e => !(e.peer == peer && e.deck == deck)
            counters := { s.om.counters with viewExpiries := s.om.counters.viewExpiries + 1 } } })
        ∧ ((∀ e ∈ s.om.view, e.peer = peer → e.deck = deck → time < e.lastHeard + 3000 * s.config.refreshSec) →
          exec (.viewExpiry peer deck time) s = .next s)

/-! ## Reader -/

/-- R45, R47, R49, R52, R53, R55, R56, R59: the samples of ten bit times, sixteen to a bit and each bit decided by the majority of
its middle three, least significant data bit first, are a received character. A character received at a reader that runs,
outside STANDBY: the report mark opens an assembly, ten digits and a check digit follow, and the end mark gives a valid report,
bound to the oldest open window, or a read error; anything out of place is a read error. In STANDBY assembly takes none, and a
port that is not fitted or that measures hears no character. That the report it ends stands for the end mark, also with no
assembly or an incomplete one, is the model's inference (notes/assumptions/24.md), and so are the numbers of the middle samples
(notes/assumptions/39.md); that the samples come with the command is its choice (notes/assumptions/37.md). -/
def Obligations.ReaderCharactersTaken : Prop :=
  (∀ (s : State) (c : Instr) (line : List Bool) (ch : Byte) (q : Receiver) (x : TagReadPort),
    c = .characterReceived line ∨ c = .report line ∧ ch = 0x03 → s.readerRuns = true → s.nc.state ≠ .standby →
    hearLine LineEvent.isCharacter line s.trp.receiver = some (q, some (.character ch)) →
    x = { s.trp with receiver := q, framingRun := 0 } →
    (s.trp.assembly = none → ch ≠ 0x02 →
      exec c s = .next { s with trp := x })
    ∧ (ch = 0x02 →
        exec c s = .next { s with trp := { x with
          assembly := some []
          counters := { s.trp.counters with
            readErrors := if s.trp.assembly.isSome then s.trp.counters.readErrors + 1
              else s.trp.counters.readErrors } } })
    ∧ ∀ (cs : List Byte), s.trp.assembly = some cs → ch ≠ 0x02 →
        (cs.length < 11 → 0x30 ≤ ch.toNat → ch.toNat ≤ 0x39 →
          exec c s =
            .next { s with trp := { x with assembly := some (cs ++ [ch]) } })
        ∧ ((cs.length < 11 ∧ (ch.toNat < 0x30 ∨ 0x39 < ch.toNat)) ∨ (11 ≤ cs.length ∧ ch ≠ 0x03) →
          exec c s = .next { s with trp := { x with
            assembly := none
            counters := { s.trp.counters with readErrors := s.trp.counters.readErrors + 1 } } })
        ∧ ∀ (digits : List Nat) (tag : Nat) (v : TagReadPort), ch = 0x03 → cs.length = 11 →
            digits = cs.map (fun c => c.toNat - 0x30) → tag = (digits.take 10).foldl (fun n d => 10 * n + d) 0 →
            v = { x with
              assembly := none
              counters := { s.trp.counters with validReports := s.trp.counters.validReports + 1 } } →
            ((tag = 0 ∨ digits[10]? ≠ some ((digits.take 10).sum % 10)) →
              exec c s = .next { s with trp := { x with
                assembly := none
                counters := { s.trp.counters with readErrors := s.trp.counters.readErrors + 1 } } })
            ∧ (tag ≠ 0 → digits[10]? = some ((digits.take 10).sum % 10) → s.trp.windows = [] →
              exec c s = .next { s with trp := { v with
                counters := { v.counters with orphanReads := v.counters.orphanReads + 1 } } })
            ∧ ∀ (w : ScanWindow) (rest : List ScanWindow) (r : BagRecord) (b : TagReadPort), tag ≠ 0 →
                digits[10]? = some ((digits.take 10).sum % 10) → s.trp.windows = w :: rest →
                s.st.record w.record = some r →
                b = { v with counters := { v.counters with boundReads := v.counters.boundReads + 1 } } →
                (tag ∈ r.tags →
                  exec c s = .next { s with
                    trp := b
                    st := { s.st with
                      counters := { s.st.counters with duplicateReads := s.st.counters.duplicateReads + 1 } } })
                ∧ (tag ∉ r.tags → r.tags.length < 2 →
                  exec c s = .next { s with
                    trp := b
                    st := s.trackerWith w.record fun y => { y with tags := y.tags ++ [tag] } })
                ∧ (tag ∉ r.tags → 2 ≤ r.tags.length →
                  exec c s = .next { s with
                    trp := b
                    st := { s.trackerWith w.record fun y =>
                        { y with reason := some (y.reason.getD .tagSurplus) } with
                      counters := { s.st.counters with surplusTags := s.st.counters.surplusTags + 1 } } }))
    ∧ (∀ (s : State) (c : Instr) (line : List Bool) (ch : Byte) (q : Receiver), s.readerRuns = true →
        hearLine LineEvent.isCharacter line s.trp.receiver = some (q, some (.character ch)) →
        (s.nc.state = .standby → (c = .characterReceived line ∨ c = .report line ∧ ch = 0x03) →
          exec c s = .next { s with trp := { s.trp with receiver := q, framingRun := 0 } })
        ∧ (c = .report line → ch ≠ 0x03 → exec c s = .next s))
    ∧ (∀ (s : State) (c : Instr) (line : List Bool), c = .characterReceived line ∨ c = .report line →
        (s.readerRuns = false → exec c s = .next s)
        ∧ (s.readerRuns = true →
            (∀ q, hearLine LineEvent.isCharacter line s.trp.receiver = some (q, none) →
              exec c s = .next { s with trp := { s.trp with receiver := q } })
            ∧ (hearLine LineEvent.isCharacter line s.trp.receiver = none → exec c s = .next s)))
    ∧ ∀ (line : List Bool) (bit : Nat → Bool) (ch : Byte), line.head? = some false →
        (∀ i, bit i = decide (2 ≤ ((line.drop (16 * i + 6)).take 3).count true)) →
        (line.length = 9 → bit 0 = true →
          hearLine LineEvent.isCharacter line (.hunting true) = some (.hunting (line.getLastD true), none))
        ∧ (line.length = 153 → bit 0 = false → (∀ i, i < 8 → ch.getLsbD i = bit (i + 1)) →
            (bit 9 = true →
              hearLine LineEvent.isCharacter line (.hunting true) =
                some (.hunting (line.getLastD true), some (.character ch)))
            ∧ (bit 9 = false → line.getLast? = some false →
              hearLine LineEvent.isCharacter line (.hunting true) = some (.receiving line, none)))

/-- R47, R48, R51, R53, R57, R59, R60: a line that is high after a low stop bit, before twelve bit times have passed, is a
framing error, one that rose earlier is a framing error when the twelfth ends, and one that stays low for all twelve is a break,
of which a low period gives one; the sample at which each is found is the model's inference (notes/assumptions/39.md). A framing error is counted and spoils an
assembly, and the fourth in a run returns an AUTO port to MEASURING; a break is counted, spoils an assembly, and gives NO-READ to
the oldest open window without tags; in STANDBY a break is discarded. That the samples come with the command is the model's
choice (notes/assumptions/37.md). -/
def Obligations.ReaderFaultsTaken : Prop :=
  (∀ (s : State) (line : List Bool) (q : Receiver) (c : TrpCounters), s.readerRuns = true →
    hearLine (fun e => e == .framingError) line s.trp.receiver = some (q, some .framingError) →
    c = { s.trp.counters with
      framingErrors := s.trp.counters.framingErrors + 1
      readErrors := if s.trp.assembly.isSome then s.trp.counters.readErrors + 1 else s.trp.counters.readErrors } →
    ((s.config.readerRate ≠ .auto ∨ s.trp.framingRun < 3) →
      exec (.framingError line) s = .next { s with trp := { s.trp with
        receiver := q, framingRun := s.trp.framingRun + 1, assembly := none, counters := c } })
    ∧ (s.config.readerRate = .auto → 3 ≤ s.trp.framingRun →
      exec (.framingError line) s = .next { s with trp := { s.trp with
        receiver := q, rateState := .measuring, divider := 0, measurement := ⟨none, none⟩, framingRun := 0
        assembly := none
        counters := { c with remeasurements := c.remeasurements + 1 } } }))
    ∧ (∀ (s : State) (line : List Bool) (q : Receiver) (v : TagReadPort), s.readerRuns = true → s.nc.state ≠ .standby →
        hearLine (fun e => e == .brokenLine) line s.trp.receiver = some (q, some .brokenLine) →
        v = { s.trp with
          receiver := q
          assembly := none
          counters := { s.trp.counters with
            breaks := s.trp.counters.breaks + 1
            readErrors := if s.trp.assembly.isSome then s.trp.counters.readErrors + 1
              else s.trp.counters.readErrors } } →
        ((∀ w ∈ s.trp.windows, ∃ r, s.st.record w.record = some r ∧ r.tags ≠ []) →
          exec (.readerBreak line) s = .next { s with trp := { v with
            counters := { v.counters with orphanBreaks := v.counters.orphanBreaks + 1 } } })
        ∧ ∀ (older younger : List ScanWindow) (w : ScanWindow) (r : BagRecord),
            s.trp.windows = older ++ w :: younger → (∀ x ∈ older, ∃ y, s.st.record x.record = some y ∧ y.tags ≠ []) →
            s.st.record w.record = some r → r.tags = [] →
            exec (.readerBreak line) s = .next { s with
              trp := { v with
                windows := s.trp.windows.filter fun x => x.record != w.record
                counters := { v.counters with boundBreaks := v.counters.boundBreaks + 1 } }
              st := s.trackerWith w.record fun x => { x with readState := .noRead } })
    ∧ (∀ (s : State) (line : List Bool) (q : Receiver), s.readerRuns = true → s.nc.state = .standby →
        hearLine (fun e => e == .brokenLine) line s.trp.receiver = some (q, some .brokenLine) →
        exec (.readerBreak line) s = .next { s with trp := { s.trp with receiver := q } })
    ∧ (∀ (s : State) (line : List Bool) (c : Instr) (row : LineEvent → Bool),
        (c = .framingError line ∧ row = fun e => e == .framingError)
          ∨ (c = .readerBreak line ∧ row = fun e => e == .brokenLine) →
        (s.readerRuns = false → exec c s = .next s)
        ∧ (s.readerRuns = true →
            (∀ q, hearLine row line s.trp.receiver = some (q, none) →
              exec c s = .next { s with trp := { s.trp with receiver := q } })
            ∧ (hearLine row line s.trp.receiver = none → exec c s = .next s)))
    ∧ (∀ line : List Bool, 152 ≤ line.length → line.length < 192 →
        (line.length = 152 → (line.drop 150).count true = 0) →
        hearLine (fun e => e == .framingError) [true] (.receiving line) = some (.hunting true, some .framingError))
    ∧ (∀ line : List Bool, line.length = 191 →
        (true ∈ line →
          hearLine (fun e => e == .framingError) [false] (.receiving line) = some (.hunting false, some .framingError)
            ∧ hearLine (fun e => e == .brokenLine) [false] (.receiving line) = none)
        ∧ (true ∉ line →
          hearLine (fun e => e == .brokenLine) [false] (.receiving line) = some (.afterBreak, some .brokenLine)
            ∧ hearLine (fun e => e == .framingError) [false] (.receiving line) = none))
    ∧ (∀ n, 1 ≤ n → n < 192 →
        hearLine (fun e => e == .brokenLine) (List.replicate (192 - n) false) (.receiving (List.replicate n false)) =
          some (.afterBreak, some .brokenLine))
    ∧ ∀ (row : LineEvent → Bool) (n : Nat),
        hearLine row (List.replicate n false) .afterBreak = some (.afterBreak, none)
        ∧ hearLine row (List.replicate n false ++ [true]) .afterBreak = some (.hunting true, none)
        ∧ hearLine row (List.replicate n false) (.hunting false) = some (.hunting false, none)

/-- R46, R49, R50: a measured mark of M ticks sets the divider, M over 8 to the nearest within 1 to 4,095, clears the overflow
status and puts the port in RUNNING with its receiver in HUNTING; a rate mark of n ticks a bit, whenever it comes, measures
8 n; an overflow, as of a line that falls once and then stays quiet, sets the status and leaves the port MEASURING, to count from
0 again at the next falling edge. That the samples come with the command is the model's choice (notes/assumptions/37.md); what the
tick of an overflow starts is its inference (notes/assumptions/40.md). -/
def Obligations.RateMeasurementTaken : Prop :=
  (∀ (s : State) (line : List Bool) (m : Measurement) (ticks : Nat), s.readerMeasures = true →
    hearTicks RateEvent.isMeasured line s.trp.measurement = some (m, some (.measured ticks)) →
    ∃ d : Nat, exec (.rateMeasurement line) s = .next { s with trp := { s.trp with
        rateState := .running, divider := d, rateOverflow := false, measurement := ⟨none, none⟩
        receiver := .hunting false
        counters := { s.trp.counters with rateMeasurements := s.trp.counters.rateMeasurements + 1 } } }
      ∧ ticks ≤ 65535 ∧ 1 ≤ d ∧ d ≤ 4095 ∧ (4 ≤ ticks → ticks < 32764 → ticks < 8 * d + 4 ∧ 8 * d ≤ ticks + 4)
      ∧ (ticks < 4 → d = 1) ∧ (32764 ≤ ticks → d = 4095))
    ∧ (∀ (s : State) (n : Nat), s.readerMeasures = true → s.trp.measurement.timing = none → 1 ≤ n → 8 * n ≤ 65535 →
        ∃ t, exec (.rateMeasurement (true :: (List.replicate 4
              (List.replicate n false ++ List.replicate n true)).flatten ++ [false])) s = .next t
          ∧ t.trp.rateState = .running ∧ t.trp.divider = min n 4095)
    ∧ (∀ (s : State) (line : List Bool) (m : Measurement), s.readerMeasures = true →
        hearTicks RateEvent.isOverflow line s.trp.measurement = some (m, some .overflows) →
        m.timing = none
        ∧ exec (.rateOverflow line) s = .next { s with trp := { s.trp with
            rateOverflow := true, measurement := m
            counters := { s.trp.counters with rateOverflows := s.trp.counters.rateOverflows + 1 } } })
    ∧ (∀ s : State, s.readerMeasures = true → s.trp.measurement.timing = none →
        ∃ t, exec (.rateOverflow (true :: false :: List.replicate 65536 false)) s = .next t
          ∧ t.trp.rateState = .measuring ∧ t.trp.rateOverflow = true ∧ t.trp.measurement = ⟨some false, none⟩)
    ∧ ∀ (s : State) (line : List Bool) (c : Instr) (row : RateEvent → Bool),
        (c = .rateMeasurement line ∧ row = RateEvent.isMeasured) ∨ (c = .rateOverflow line ∧ row = RateEvent.isOverflow) →
        (s.readerMeasures = false → exec c s = .next s)
        ∧ (s.readerMeasures = true →
            (∀ m, hearTicks row line s.trp.measurement = some (m, none) →
              exec c s = .next { s with trp := { s.trp with measurement := m } })
            ∧ (hearTicks row line s.trp.measurement = none → exec c s = .next s))

/-! ## Strays and claims -/

/-- R154 to R156: a LOST or MISPLACED from the line is logged at the stray node, refused when a field is out of range, and
counted elsewhere; a STRAY-CALL is refused, or answered with a CLAIM for each tag the slice holds, which is marked
strayed. -/
def Obligations.ReportsAndCallsTaken : Prop :=
  (∀ (s u : State) (rx : Rx) (p : List Byte) (r : LossReport), s.delivers classLost rx p → u = s.takeTelegram rx →
    r = readLost p →
    (s.config.isStrayNode = false →
      exec (.lost rx p) s = .next { u with su := { s.su with
        counters := { s.su.counters with reportsNotLogged := s.su.counters.reportsNotLogged + 1 } } })
    ∧ (s.config.isStrayNode = true →
        (0 ∈ r.tags ∨ ¬ r.tags.Nodup ∨ 7 < r.lap ∨ r.lastSection = 0 ∨ 60 < r.lastSection ∨ r.reporter = 0
          ∨ 60 < r.reporter) →
        exec (.lost rx p) s = .next { u with su := { s.su with
          counters := { s.su.counters with reportsRefused := s.su.counters.reportsRefused + 1 } } })
    ∧ (s.config.isStrayNode = true → 0 ∉ r.tags → r.tags.Nodup → r.lap ≤ 7 → 1 ≤ r.lastSection → r.lastSection ≤ 60 →
        1 ≤ r.reporter → r.reporter ≤ 60 →
        exec (.lost rx p) s = .next { u with
          su := s.su.withReport (.lost r.lastSection r.reporter) r.tags (some r.lap)
          nc := { s.nc with logMark := true } }))
    ∧ (∀ (s u : State) (rx : Rx) (p : List Byte) (tag deck cause cabin : Nat), s.delivers classMisplaced rx p →
        u = s.takeTelegram rx → tag = tagAt p 0 → deck = byteAt p 5 → cause = byteAt p 6 → cabin = wordAt p 7 →
        (s.config.isStrayNode = false →
          exec (.misplaced rx p) s = .next { u with su := { s.su with
            counters := { s.su.counters with reportsNotLogged := s.su.counters.reportsNotLogged + 1 } } })
        ∧ (s.config.isStrayNode = true →
            (tag = 0 ∨ deck = 0 ∨ 20 < deck ∨ cause = 0 ∨ 3 < cause ∨ (cause = 2 ∧ cabin ≠ 0)
              ∨ (cause ≠ 2 ∧ (cabin = 0 ∨ 32767 < cabin))) →
            exec (.misplaced rx p) s = .next { u with su := { s.su with
              counters := { s.su.counters with reportsRefused := s.su.counters.reportsRefused + 1 } } })
        ∧ ∀ c : MisplacedCause, s.config.isStrayNode = true → tag ≠ 0 → 1 ≤ deck → deck ≤ 20 → causeCode c = cause →
            (cause = 2 → cabin = 0) → (cause ≠ 2 → 1 ≤ cabin ∧ cabin ≤ 32767) →
            exec (.misplaced rx p) s = .next { u with
              su := s.su.withReport
                (.misplaced rx.sender.toNat deck (if cabin = 0 then none else some cabin) c) [tag] none
              nc := { s.nc with logMark := true } })
    ∧ ∀ (s u : State) (rx : Rx) (p : List Byte) (tags : List Nat), s.delivers classStrayCall rx p →
        u = s.takeTelegram rx → tags = readCallTags p →
        ((tags = [] ∨ 0 ∈ tags ∨ ¬ tags.Nodup) →
          exec (.strayCall rx p) s = .next { u with su := { s.su with
            counters := { s.su.counters with callsRefused := s.su.counters.callsRefused + 1 } } })
        ∧ ∀ found : List ClaimFields, tags ≠ [] → 0 ∉ tags → tags.Nodup → s.ms.capacitiesOk →
            found = tags.filterMap s.claimFor →
            exec (.strayCall rx p) s = .next { u with
              hlc := found.foldl (fun h f => h.enqueue ⟨rx.sender.toNat, .claim (readSequence p) f⟩) u.hlc
              ms := { s.ms with table := if s.ms.purgeRunning then s.ms.table
                else s.ms.table.map fun e => if e.tag ∈ tags then { e with strayed := true } else e }
              su := { s.su with counters := { s.su.counters with
                callsTaken := s.su.counters.callsTaken + 1
                claimsQueued := s.su.counters.claimsQueued + BitVec.ofNat 32 found.length } } }

/-- R159 to R162, R194, R202: a CLAIM is judged by the first line of the table of R162 that applies and counted under it; one that
is taken joins its entry, whose claim state follows. The end of a running window ends it, and an OPEN entry becomes UNCLAIMED;
that the log's mark is set at a window's end only then is the model's inference (notes/assumptions/23.md), and so is the wake
before the judgement (notes/assumptions/30.md); that the end of a window whose timer does not run changes nothing is its choice
(notes/assumptions/4.md). -/
def Obligations.ClaimsTaken : Prop :=
  (∀ (s u : State) (rx : Rx) (p : List Byte) (f : ClaimFields), s.delivers classClaim rx p → u = s.takenAwake rx →
    f = readClaim p →
    ∃ v : ClaimVerdict,
      v = (if s.config.isStrayNode = false then .withoutLog
        else if f.tag = 0 ∨ f.cabin = 0 ∨ 32767 < f.cabin ∨ 20 < f.deck ∨ f.node = 0 ∨ 60 < f.node
            ∨ f.node ≠ rx.sender.toNat ∨ broadcast rx = true then .refused
        else
          match s.su.ring.find? (fun e => e.sequence == readSequence p) with
          | none => .unknown
          | some e =>
            if e.window = .none then .unasked
            else if f.tag ∉ e.tags then .mismatched
            else if ∃ d ∈ e.claims, d.node = f.node ∧ d.tag = f.tag then .repeated
            else if e.window = .ended ∧ e.state ≠ .unclaimed then .late
            else if 3 ≤ e.claims.length then .surplus
            else .taken)
      ∧ (v ≠ .taken →
          exec (.claim rx p) s = .next { u with su := { s.su with counters :=
            match v with
            | .withoutLog => { s.su.counters with claimsWithoutLog := s.su.counters.claimsWithoutLog + 1 }
            | .refused => { s.su.counters with claimsRefused := s.su.counters.claimsRefused + 1 }
            | .unknown => { s.su.counters with claimsUnknown := s.su.counters.claimsUnknown + 1 }
            | .unasked => { s.su.counters with claimsUnasked := s.su.counters.claimsUnasked + 1 }
            | .mismatched => { s.su.counters with claimsMismatched := s.su.counters.claimsMismatched + 1 }
            | .repeated => { s.su.counters with claimsRepeated := s.su.counters.claimsRepeated + 1 }
            | .late => { s.su.counters with claimsLate := s.su.counters.claimsLate + 1 }
            | .surplus => { s.su.counters with claimsSurplus := s.su.counters.claimsSurplus + 1 }
            | .taken => s.su.counters } })
      ∧ ∀ e, v = .taken → s.su.ring.find? (fun e => e.sequence == readSequence p) = some e →
          ∃ t, exec (.claim rx p) s = .next t
            ∧ t.su.ring = s.su.ring.map (fun x => if x.sequence = e.sequence then
                { x with claims := x.claims ++ [f], state := claimStateOf (x.claims ++ [f]) x.window } else x)
            ∧ t.su.counters.claimsTaken = s.su.counters.claimsTaken + 1
            ∧ (s.su.logOk → t.su.counters.disputes =
                (if e.state ≠ .disputed ∧ claimStateOf (e.claims ++ [f]) e.window = .disputed then
                  s.su.counters.disputes + 1 else s.su.counters.disputes))
            ∧ t.su.timers = s.su.timers ∧ t.su.nextSequence = s.su.nextSequence ∧ t.nc = { u.nc with logMark := true }
            ∧ t.st = s.st ∧ t.ms = s.ms ∧ t.dc = s.dc ∧ t.trp = s.trp ∧ t.hlc = u.hlc ∧ t.om = u.om)
    ∧ ∀ (s : State) (n : Count), s.running = true →
        ((∀ w ∈ s.su.timers, w.sequence ≠ n) → exec (.claimWindowEnd n) s = .next s)
        ∧ ∀ (w : WindowTimer) (e : LogEntry), w ∈ s.su.timers → w.sequence = n → e ∈ s.su.ring → e.sequence = n →
            (s.su.ring.map LogEntry.sequence).Nodup → e.ok → e.window = .running →
            exec (.claimWindowEnd n) s = .next { s with
              su := { s.su with
                ring := s.su.ring.map fun x => if x.sequence = n then
                  { x with window := .ended, state := if x.claims = [] then .unclaimed else
                      (if oneCabin x.claims then .claimed else .disputed) } else x
                timers := s.su.timers.filter fun x => x.sequence != n
                counters := { s.su.counters with endedUnclaimed :=
                  if e.claims = [] then s.su.counters.endedUnclaimed + 1 else s.su.counters.endedUnclaimed } }
              nc := { s.nc with logMark := s.nc.logMark || e.claims.isEmpty } }

/-! ## Node Control -/

/-- R190, R195, R11, R43, R61, R115, R135, R144, R165, R185: the join timer's expiry takes the node to SORTING; a RESET
abandons the records and expectations, clears the divert work, the view and the queue, and rejoins the hall with a HELLO and
a round; the stores, the log, the counters and the outlets' own state stay. The pass that a RESET taken in STANDBY starts is the
model's inference (notes/assumptions/19.md); that the join timer's expiry outside JOINING changes nothing, and that a RESET taken
during this node's own attempt ends the attempt, are its choices (notes/assumptions/4.md and 42.md). -/
def Obligations.JoinAndResetTaken : Prop :=
  (∀ (s : State) (n : Nat), s.nc.state = .joining → s.nc.joinTimer = some n →
    exec .joinTimerExpiry s = .next { s with nc := { s.nc with
      state := .sorting, joinTimer := none, counters := { s.nc.counters with joins := s.nc.counters.joins + 1 } } })
    ∧ (∀ s : State, s.nc.state ≠ .joining → exec .joinTimerExpiry s = .next s)
    ∧ ∀ (s : State) (rx : Rx) (p : List Byte), s.delivers classReset rx p → s.linked → s.config.servedDecks.Nodup →
        ∃ t, exec (.reset rx p) s = .next t
          ∧ t.st = { s.st with
              records := [], expectations := [], passage := .none, feedHold := false, windowCount := 0, speed := 0
              overrange := false
              counters := { s.st.counters with
                abandoned := s.st.counters.abandoned + BitVec.ofNat 32 s.st.records.length
                orphanedNotices := s.st.counters.orphanedNotices + BitVec.ofNat 32 s.trp.windows.length } }
          ∧ t.trp = { s.trp with windows := [] }
          ∧ t.dc = { s.dc with commitments := [], armPoints := [], strokes := ⟨none, none, none, none⟩ }
          ∧ t.ms = s.ms ∧ t.su = s.su ∧ t.config = s.config ∧ t.inputs = s.inputs
          ∧ t.nc = { s.nc with
              state := .joining, joinTimer := some (s.config.joinSec * 1000)
              counters := { s.nc.counters with resets := s.nc.counters.resets + 1 } }
          ∧ t.om.outlets = s.om.outlets ∧ t.om.closed = s.om.closed ∧ t.om.view = []
          ∧ t.om.refreshTimer = some (s.config.refreshSec * 1000)
          ∧ t.om.counters = { s.om.counters with
              statesQueued := s.om.counters.statesQueued + BitVec.ofNat 32 s.outletRound.length }
          ∧ (s.nc.state ≠ .standby → t.om.pass = s.om.pass ∧ t.om.paceTimer = s.om.paceTimer)
          ∧ (s.nc.state = .standby → t.om.pass = s.config.firstFitted)
          ∧ t.hlc.score = 0 ∧ t.hlc.line = .active ∧ t.hlc.idleGaps = 0
          ∧ ((∀ read left, s.hlc.watch ≠ .attempting read left) → t.hlc.watch = (s.takeTelegram rx).hlc.watch)
          ∧ (∀ read left, s.hlc.watch = .attempting read left → t.hlc.watch = .between false 2)
          ∧ t.hlc.counters.clearedAtReset = s.hlc.counters.clearedAtReset + BitVec.ofNat 32 s.hlc.queue.length
          ∧ t.hlc.queue.map SendEntry.telegram = s.outletRound ++ [s.helloIn .joining]

/-- R141, R191 to R194: STANDBY moves a SORTING node to STANDBY-PENDING, and on to STANDBY at once when all is quiet; WAKE
returns it; either is ignored and counted elsewhere; a HELLO is counted, an address clash with it, and wipes its sender's
view entries. -/
def Obligations.StandbyWakeHelloTaken : Prop :=
  (∀ (s u : State) (rx : Rx) (p : List Byte), s.delivers classStandby rx p → u = s.takeTelegram rx →
    (s.nc.state ≠ .sorting →
      exec (.standby rx p) s = .next { u with nc := { s.nc with
        counters := { s.nc.counters with commandsIgnored := s.nc.counters.commandsIgnored + 1 } } })
    ∧ (s.nc.state = .sorting → s.quiet = false →
        exec (.standby rx p) s = .next { u with nc := { s.nc with state := .standbyPending } })
    ∧ (s.nc.state = .sorting → s.quiet = true →
        exec (.standby rx p) s = .next { u with
          nc := { s.nc with state := .standby, counters := { s.nc.counters with standbys := s.nc.counters.standbys + 1 } }
          om := { s.om with pass := none, paceTimer := none, refreshTimer := none }
          trp := { s.trp with assembly := none } }))
    ∧ (∀ (s u : State) (rx : Rx) (p : List Byte), s.delivers classWake rx p → u = s.takeTelegram rx →
        (s.nc.state = .standbyPending → exec (.wake rx p) s = .next { u with nc := { s.nc with state := .sorting } })
        ∧ (s.nc.state = .standby → exec (.wake rx p) s = .next u.woken)
        ∧ (s.nc.state ≠ .standby → s.nc.state ≠ .standbyPending →
            exec (.wake rx p) s = .next { u with nc := { s.nc with
              counters := { s.nc.counters with commandsIgnored := s.nc.counters.commandsIgnored + 1 } } }))
    ∧ ∀ (s u : State) (rx : Rx) (p : List Byte), s.delivers classHello rx p → u = s.takeTelegram rx →
        exec (.hello rx p) s = .next { u with
          nc := { s.nc with counters := { s.nc.counters with
            hellosTaken := s.nc.counters.hellosTaken + 1
            addressClashes := if rx.sender.toNat = s.config.address then s.nc.counters.addressClashes + 1
              else s.nc.counters.addressClashes } }
          om := { s.om with
            view := s.om.view.filter fun e => e.peer != rx.sender.toNat
            counters := { s.om.counters with
              viewWiped :=
                s.om.counters.viewWiped + BitVec.ofNat 32 (s.om.view.countP fun e => e.peer == rx.sender.toNat) } } }

/-! ## The Manifest Store -/

/-- R66, R67, R83: a MANIFEST for a tag the table does not hold, outside a purge: refused on its fields, or the first case of
R67 that applies; inserted, it is the tag's entry, and its cabin's record expects the greater of its piece total and the
pieces delivered. -/
def Obligations.ManifestInserts : Prop :=
  ∀ (s u : State) (rx : Rx) (p : List Byte) (f : ManifestFields) (look : CabinLookup),
    s.delivers classManifest rx p → u = s.takeTelegram rx → f = readManifest p → s.ms.purgeRunning = false →
    look = lookupCabin s.ms.map f.cabin → s.ms.capacitiesOk → s.ms.cabinsOk →
    ((f.tag = 0 ∨ f.cabin = 0 ∨ 32767 < f.cabin ∨ f.pieces = 0 ∨ 15 < f.pieces) →
      exec (.manifest rx p) s = .next { u with ms := { s.ms with
        counters := { s.ms.counters with manifestsRefused := s.ms.counters.manifestsRefused + 1 } } })
    ∧ (f.tag ≠ 0 → 1 ≤ f.cabin → f.cabin ≤ 32767 → 1 ≤ f.pieces → f.pieces ≤ 15 → s.ms.entry f.tag = none →
        ((∃ d, look = .deck d ∧ s.config.serves d = false) →
          exec (.manifest rx p) s = .next { u with ms := { s.ms with
            counters := { s.ms.counters with outsideSlice := s.ms.counters.outsideSlice + 1 } } })
        ∧ ((∀ d, look = .deck d → s.config.serves d = true) →
            (s.ms.table.length = 3072 →
              exec (.manifest rx p) s = .next { u with ms := { s.ms with
                counters := { s.ms.counters with tableFull := s.ms.counters.tableFull + 1 } } })
            ∧ (s.ms.table.length < 3072 → look = .unmapped → unplacedCount s.ms.table = 512 →
              exec (.manifest rx p) s = .next { u with ms := { s.ms with
                counters := { s.ms.counters with unplacedFull := s.ms.counters.unplacedFull + 1 } } })
            ∧ (s.ms.table.length < 3072 → (look = .unmapped → unplacedCount s.ms.table < 512) →
                (s.ms.cabin f.cabin = none → s.ms.cabins.length = 1024 →
                  exec (.manifest rx p) s = .next { u with ms := { s.ms with
                    counters := { s.ms.counters with cabinFull := s.ms.counters.cabinFull + 1 } } })
                ∧ ((s.ms.cabin f.cabin = none → s.ms.cabins.length < 1024) →
                    ((s.ms.entriesOf f.cabin).length = 15 →
                      exec (.manifest rx p) s = .next { u with ms := { s.ms with
                        counters := { s.ms.counters with piecesFull := s.ms.counters.piecesFull + 1 } } })
                    ∧ ((s.ms.entriesOf f.cabin).length < 15 →
                        ∃ m d, exec (.manifest rx p) s = .next { u with ms := m }
                          ∧ d = ((s.ms.cabin f.cabin).map CabinRecord.delivered).getD 0
                          ∧ m.entry f.tag = some ⟨f.tag, f.cabin, f.pieces, f.oversize,
                              if look = .unmapped then .unplaced else .placed, .none, false⟩
                          ∧ (∀ x, x ≠ f.tag → m.entry x = s.ms.entry x)
                          ∧ m.cabin f.cabin = some ⟨f.cabin, max f.pieces d, d⟩
                          ∧ (∀ c, c ≠ f.cabin → m.cabin c = s.ms.cabin c) ∧ s.ms.keepsRest m
                          ∧ m.counters = { s.ms.counters with inserted := s.ms.counters.inserted + 1 })))))

/-- R68 to R71: a MANIFEST for a tag the table holds, outside a purge: an amendment of the same cabin takes the piece total and
the flag; a cabin move takes the first case of R70 that applies, with the mark kept or cleared as R69 states and a MISPLACED
for a SELF mark that goes. That a move to an unmapped cabin with 512 entries unplaced counts as an amendment as well as under
unplaced full is the model's inference (notes/assumptions/14.md); that a removal to a deck not served here that is the SELF mark's
own queues no MISPLACED, and that a removal leaves the record of the new cabin as it is, are its choices
(notes/assumptions/44.md and 50.md). -/
def Obligations.ManifestAmends : Prop :=
  ∀ (s u : State) (rx : Rx) (p : List Byte) (f : ManifestFields) (e : TagEntry),
    s.delivers classManifest rx p → u = s.takeTelegram rx → f = readManifest p → s.ms.purgeRunning = false →
    s.ms.capacitiesOk → s.ms.cabinsOk → f.tag ≠ 0 → 1 ≤ f.cabin → f.cabin ≤ 32767 → 1 ≤ f.pieces → f.pieces ≤ 15 →
    s.ms.entry f.tag = some e →
    (f.cabin = e.cabin →
      ∃ m, exec (.manifest rx p) s = .next { u with ms := m }
        ∧ m.entry e.tag = some { e with pieces := f.pieces, oversize := f.oversize }
        ∧ (∀ x, x ≠ e.tag → m.entry x = s.ms.entry x)
        ∧ (∀ r, s.ms.cabin e.cabin = some r → m.cabin e.cabin = some { r with expected := max f.pieces r.delivered })
        ∧ (∀ c, c ≠ e.cabin → m.cabin c = s.ms.cabin c) ∧ s.ms.keepsRest m
        ∧ m.counters = { s.ms.counters with amendments := s.ms.counters.amendments + 1 })
    ∧ ∀ (old new : CabinLookup) (mark : DeliveredMark) (lost : Option MisplacedReport), f.cabin ≠ e.cabin →
        old = lookupCabin s.ms.map e.cabin → new = lookupCabin s.ms.map f.cabin →
        mark = (match e.mark, old, new with
          | .self k d, _, .deck n => if n = d then .self k d else .none
          | .peer n, .deck a, .deck b => if a = b then .peer n else .none
          | m, _, _ => m) →
        lost = (if mark = .none then e.lostMark .moved (some f.cabin) else none) →
        ((∃ d, new = .deck d ∧ s.config.serves d = false) →
          ∃ m, exec (.manifest rx p) s = .next (State.misplacedGiven { u with ms := m } lost)
            ∧ s.ms.entryRemoved m e
            ∧ m.counters = { s.ms.counters with amendments := s.ms.counters.amendments + 1 })
        ∧ ((∀ d, new = .deck d → s.config.serves d = true) →
            ((s.ms.entriesOf f.cabin).length = 15 →
              exec (.manifest rx p) s = .next { u with ms := { s.ms with
                counters := { s.ms.counters with piecesFull := s.ms.counters.piecesFull + 1 } } })
            ∧ (s.ms.cabin f.cabin = none → s.ms.cabins.length = 1024 → s.ms.entriesOf e.cabin ≠ [e] →
              exec (.manifest rx p) s = .next { u with ms := { s.ms with
                counters := { s.ms.counters with cabinFull := s.ms.counters.cabinFull + 1 } } })
            ∧ ((s.ms.entriesOf f.cabin).length < 15 →
                (s.ms.cabin f.cabin = none → s.ms.cabins.length < 1024 ∨ s.ms.entriesOf e.cabin = [e]) →
                (new = .unmapped → e.placement = .placed → unplacedCount s.ms.table = 512 →
                  ∃ m, exec (.manifest rx p) s =
                      .next (State.misplacedGiven { u with ms := m } (e.lostMark .moved (some f.cabin)))
                    ∧ s.ms.entryRemoved m e
                    ∧ m.counters = { s.ms.counters with
                        amendments := s.ms.counters.amendments + 1
                        unplacedFull := s.ms.counters.unplacedFull + 1 })
                ∧ ((new = .unmapped → e.placement = .placed → unplacedCount s.ms.table < 512) →
                    ∃ m d, exec (.manifest rx p) s = .next (State.misplacedGiven { u with ms := m } lost)
                      ∧ d = ((s.ms.cabin f.cabin).map CabinRecord.delivered).getD 0 + (if mark = .none then 0 else 1)
                      ∧ m.entry e.tag = some ⟨e.tag, f.cabin, f.pieces, f.oversize,
                          if new = .unmapped then .unplaced else .placed, mark, e.strayed⟩
                      ∧ (∀ x, x ≠ e.tag → m.entry x = s.ms.entry x)
                      ∧ m.cabin f.cabin = some ⟨f.cabin, max f.pieces d, d⟩
                      ∧ (s.ms.entriesOf e.cabin = [e] → m.cabin e.cabin = none)
                      ∧ (∀ r, s.ms.cabin e.cabin = some r → s.ms.entriesOf e.cabin ≠ [e] →
                          m.cabin e.cabin = some { r with
                            delivered := r.delivered - (if e.mark = .none then 0 else 1) })
                      ∧ (∀ c, c ≠ f.cabin → c ≠ e.cabin → m.cabin c = s.ms.cabin c) ∧ s.ms.keepsRest m
                      ∧ m.counters = { s.ms.counters with amendments := s.ms.counters.amendments + 1 })))

/-- R72 to R74, R83, R84: a withdrawal removes its entry with a MISPLACED for a SELF mark; a peer's DELIVERED and the DC's own
request set a mark, or count a double delivery; while a purge runs the manifest telegrams are held, six at most, and the
marks find no entry. -/
def Obligations.WithdrawnMarkedHeld : Prop :=
  (∀ (s u : State) (rx : Rx) (p : List Byte), s.delivers classManifestWithdraw rx p → u = s.takeTelegram rx →
    s.ms.purgeRunning = false → s.ms.capacitiesOk → s.ms.cabinsOk →
    (s.ms.entry (tagAt p 0) = none → exec (.manifestWithdraw rx p) s = .next u)
    ∧ ∀ e, s.ms.entry (tagAt p 0) = some e →
        ∃ m, exec (.manifestWithdraw rx p) s =
            .next (State.misplacedGiven { u with ms := m } (e.lostMark .withdrawn none))
          ∧ s.ms.entryRemoved m e ∧ m.counters = { s.ms.counters with withdrawals := s.ms.counters.withdrawals + 1 })
    ∧ (∀ (s u : State) (rx : Rx) (p : List Byte) (f : DeliveredFields), s.delivers classDelivered rx p →
        u = s.takeTelegram rx → f = readDelivered p → s.ms.capacitiesOk → s.ms.cabinsOk →
        ((f.tag = 0 ∨ f.cabin = 0 ∨ 32767 < f.cabin ∨ f.deck = 0 ∨ 20 < f.deck ∨ f.node = 0 ∨ 60 < f.node ∨ f.outlet = 0
            ∨ 4 < f.outlet) →
          exec (.delivered rx p) s = .next { u with ms := { s.ms with
            counters := { s.ms.counters with deliveredRefused := s.ms.counters.deliveredRefused + 1 } } })
        ∧ (f.tag ≠ 0 → 1 ≤ f.cabin → f.cabin ≤ 32767 → 1 ≤ f.deck → f.deck ≤ 20 → 1 ≤ f.node → f.node ≤ 60 →
            1 ≤ f.outlet → f.outlet ≤ 4 →
            ((s.ms.purgeRunning = true ∨ s.ms.entry f.tag = none) → exec (.delivered rx p) s = .next u)
            ∧ ∀ e, s.ms.purgeRunning = false → s.ms.entry f.tag = some e →
                (e.mark = .none → ∃ m, exec (.delivered rx p) s = .next { u with ms := m }
                  ∧ s.ms.entryMarked m e (.peer f.node) ∧ m.counters = s.ms.counters)
                ∧ (e.mark ≠ .none → exec (.delivered rx p) s = .next { u with ms := { s.ms with
                    counters := { s.ms.counters with doubleDeliveries := s.ms.counters.doubleDeliveries + 1 } } })))
    ∧ (∀ (m : ManifestStore) (tag : Nat) (k : OutletNo) (deck : Nat), m.capacitiesOk → m.cabinsOk →
        ((m.purgeRunning = true ∨ m.entry tag = none) → m.markSelf tag k deck =
          { m with counters := { m.counters with deliveredUnrecorded := m.counters.deliveredUnrecorded + 1 } })
        ∧ ∀ e, m.purgeRunning = false → m.entry tag = some e →
            (∀ j d, e.mark = .self j d → m.markSelf tag k deck =
              { m with counters := { m.counters with doubleDeliveries := m.counters.doubleDeliveries + 1 } })
            ∧ ((∀ j d, e.mark ≠ .self j d) → m.entryMarked (m.markSelf tag k deck) e (.self k deck)
                ∧ (m.markSelf tag k deck).counters =
                    (if e.mark = .none then m.counters
                     else { m.counters with doubleDeliveries := m.counters.doubleDeliveries + 1 })))
    ∧ ∀ (s u : State) (rx : Rx) (p : List Byte) (c : Instr) (h : HeldTelegram), u = s.takeTelegram rx →
        ((s.delivers classManifest rx p ∧ c = .manifest rx p ∧ h = .manifest (readManifest p))
          ∨ (s.delivers classManifestWithdraw rx p ∧ c = .manifestWithdraw rx p ∧ h = .withdraw (tagAt p 0))
          ∨ (s.delivers classDeckMap rx p ∧ c = .deckMap rx p ∧ h = .deckMap (readDeckMap p))) →
        (s.ms.purgeRunning = false → exec c s = .next (u.applyHeld h))
        ∧ (s.ms.purgeRunning = true → s.ms.hold.length < 6 →
            exec c s = .next { u with ms := { s.ms with hold := s.ms.hold ++ [h] } })
        ∧ (s.ms.purgeRunning = true → 6 ≤ s.ms.hold.length →
            exec c s = .next { u with ms := { s.ms with
              counters := { s.ms.counters with holdOverruns := s.ms.counters.holdOverruns + 1 } } })

/-- R64, R76 to R79, R202: a DECK-MAP outside a purge: refused, full, not found, nothing new, or a changed map, which places
on the deck exactly the cabins placed there before and those of the new span, or loses exactly the ranges of the span
withdrawn; a changed map marks its contests anew, starts a sweep and sets the mark. -/
def Obligations.DeckMapChanges : Prop :=
  ∀ (s u : State) (rx : Rx) (p : List Byte) (f : DeckMapFields), s.delivers classDeckMap rx p → u = s.takeTelegram rx →
    f = readDeckMap p → s.ms.purgeRunning = false → s.ms.mapOk →
    ((f.first = 0 ∨ 32767 < f.first ∨ f.last = 0 ∨ 32767 < f.last ∨ f.last < f.first
        ∨ (f.withdraw = false ∧ (f.deck = 0 ∨ 20 < f.deck))) →
      exec (.deckMap rx p) s = .next { u with ms := { s.ms with
        counters := { s.ms.counters with mapRefused := s.ms.counters.mapRefused + 1 } } })
    ∧ (1 ≤ f.first → f.first ≤ f.last → f.last ≤ 32767 → f.withdraw = true →
        ((∀ r ∈ s.ms.map, ¬ (r.first = f.first ∧ r.last = f.last)) →
          exec (.deckMap rx p) s = .next { u with ms := { s.ms with
            counters := { s.ms.counters with mapNotFound := s.ms.counters.mapNotFound + 1 } } })
        ∧ ((∃ r ∈ s.ms.map, r.first = f.first ∧ r.last = f.last) →
            exec (.deckMap rx p) s = .next { u with
              ms := ManifestStore.startSweep { s.ms with
                map := recontest (s.ms.map.filter fun r => !(r.first == f.first && r.last == f.last)) }
              nc := { s.nc with mapMark := true } }))
    ∧ (1 ≤ f.first → f.first ≤ f.last → f.last ≤ 32767 → f.withdraw = false → 1 ≤ f.deck → f.deck ≤ 20 →
        ((∃ r ∈ s.ms.map, r.deck = f.deck ∧ r.first ≤ f.first ∧ f.last ≤ r.last) →
          exec (.deckMap rx p) s = .next u)
        ∧ ((∀ r ∈ s.ms.map, r.deck = f.deck → r.last < f.first ∨ f.last < r.first) → s.ms.map.length = 32 →
          exec (.deckMap rx p) s = .next { u with ms := { s.ms with
            counters := { s.ms.counters with mapFull := s.ms.counters.mapFull + 1 } } })
        ∧ ((∀ r ∈ s.ms.map, ¬ (r.deck = f.deck ∧ r.first ≤ f.first ∧ f.last ≤ r.last)) →
            (s.ms.map.length < 32 ∨ ∃ r ∈ s.ms.map, r.deck = f.deck ∧ r.first ≤ f.last ∧ f.first ≤ r.last) →
            ∃ map : List MapRange,
              exec (.deckMap rx p) s = .next { u with
                ms := ManifestStore.startSweep { s.ms with map := map }
                nc := { s.nc with mapMark := true } }
              ∧ ({ s.ms with map := map } : ManifestStore).mapOk
              ∧ (∀ deck cabin, (∃ r ∈ map, r.deck = deck ∧ r.first ≤ cabin ∧ cabin ≤ r.last)
                  ↔ (∃ r ∈ s.ms.map, r.deck = deck ∧ r.first ≤ cabin ∧ cabin ≤ r.last)
                    ∨ (deck = f.deck ∧ f.first ≤ cabin ∧ cabin ≤ f.last))
              ∧ ∃ r ∈ map, r.deck = f.deck ∧ r.first ≤ f.first ∧ f.last ≤ r.last))

/-- R80 to R82, R85, R86, R130, R164, R202: a sweep examines the entry with the lowest tag above the last and completes when
none remains; a PURGE empties the stores, the log and the closed-deck set and starts or restarts the purge; its completion
clears the indicators and applies the held telegrams, oldest first. That a sweep which a withdrawal or a removal has left without
an entry completes only at the next SWEEP_EXAMINATION is the model's inference (notes/assumptions/13.md), as it is that the stores
go when the PURGE starts, and that the map's mark is then always set and the log's only for a log that held an entry
(notes/assumptions/12.md); that an examination without a sweep, or a completion without a purge, changes nothing is its choice
(notes/assumptions/4.md). -/
def Obligations.SweepAndPurgeTaken : Prop :=
  (∀ (s : State) (last : Nat) (e : TagEntry) (look : CabinLookup), s.running = true → s.ms.sweep = some last →
    s.ms.capacitiesOk → s.ms.cabinsOk → e ∈ s.ms.table → last < e.tag →
    (∀ x ∈ s.ms.table, last < x.tag → e.tag ≤ x.tag) → look = lookupCabin s.ms.map e.cabin →
    ∃ (m : ManifestStore) (lost : Option MisplacedReport) (t : State), exec .sweepExamination s = .next t
      ∧ t = State.misplacedGiven { s with ms := m } lost ∧ s.ms.keepsRest { m with sweep := s.ms.sweep }
      ∧ (e.tag = (s.ms.table.getLast?.map TagEntry.tag).getD 0 →
          m.sweep = none ∧ m.counters.sweepsCompleted = s.ms.counters.sweepsCompleted + 1)
      ∧ (e.tag ≠ (s.ms.table.getLast?.map TagEntry.tag).getD 0 →
          m.sweep = some e.tag ∧ m.counters.sweepsCompleted = s.ms.counters.sweepsCompleted)
      ∧ (((∃ d, look = .deck d ∧ s.config.serves d = false)
            ∨ (look = .unmapped ∧ e.placement = .placed ∧ unplacedCount s.ms.table = 512)) →
          s.ms.entryRemoved { m with sweep := s.ms.sweep } e ∧ lost = e.lostMark .remapped (some e.cabin)
            ∧ m.counters.sweepRemovals = s.ms.counters.sweepRemovals + 1)
      ∧ ((look = .contested ∨ (look = .unmapped ∧ (e.placement = .unplaced ∨ unplacedCount s.ms.table < 512))) →
          m.table = s.ms.table.map (fun x => if x.tag = e.tag then
            { x with placement := if look = .unmapped then .unplaced else .placed } else x)
          ∧ m.cabins = s.ms.cabins ∧ lost = none)
      ∧ (∀ d, look = .deck d → s.config.serves d = true →
          ((∀ k x, e.mark = .self k x → x = d) →
            m.table = s.ms.table.map (fun x => if x.tag = e.tag then { x with placement := .placed } else x)
              ∧ m.cabins = s.ms.cabins ∧ lost = none)
          ∧ (∀ k x, e.mark = .self k x → x ≠ d →
            m.table = s.ms.table.map (fun y => if y.tag = e.tag then { y with placement := .placed, mark := .none }
                else y)
              ∧ (∀ r, s.ms.cabin e.cabin = some r → m.cabin e.cabin = some { r with delivered := r.delivered - 1 })
              ∧ lost = some ⟨e.tag, x, .remapped, some e.cabin⟩)))
    ∧ (∀ (s : State) (last : Nat), s.running = true → s.ms.sweep = some last → (∀ x ∈ s.ms.table, x.tag ≤ last) →
        exec .sweepExamination s = .next { s with ms := { s.ms with
          sweep := none
          counters := { s.ms.counters with sweepsCompleted := s.ms.counters.sweepsCompleted + 1 } } })
    ∧ (∀ s : State, s.ms.sweep = none → exec .sweepExamination s = .next s)
    ∧ (∀ (s u : State) (rx : Rx) (p : List Byte), s.delivers classPurge rx p → u = s.takeTelegram rx → s.outletsOk →
        s.config.servedDecks.Nodup → s.ms.holdOk →
        ∃ t, exec (.purge rx p) s = .next t
          ∧ t.ms = { s.ms with
              table := [], cabins := [], map := [], purgePending := true, sweep := none, purgeRunning := true, hold := []
              counters := { s.ms.counters with
                heldDiscarded := s.ms.counters.heldDiscarded + BitVec.ofNat 32 s.ms.hold.length } }
          ∧ t.su = { s.su with ring := [], timers := [] }
          ∧ t.nc = { s.nc with mapMark := true, logMark := s.nc.logMark || !s.su.ring.isEmpty }
          ∧ t.om.closed = [] ∧ t.outletsOk ∧ t.om.view = s.om.view ∧ t.om.pass = s.om.pass
          ∧ (∀ k, (t.om.outlet k).reading = (s.om.outlet k).reading)
          ∧ (s.om.closed = [] → t.om = s.om ∧ t.hlc = u.hlc)
          ∧ t.st = s.st ∧ t.dc = s.dc ∧ t.trp = s.trp ∧ t.config = s.config ∧ t.inputs = s.inputs)
    ∧ (∀ s : State, s.running = true → s.ms.purgeRunning = true →
        exec .purgeComplete s = .next (s.ms.hold.foldl State.applyHeld { s with ms := { s.ms with
          table := [], cabins := [], map := [], purgePending := false, retentionLost := false, purgeRunning := false
          hold := []
          counters := { s.ms.counters with purgesCompleted := s.ms.counters.purgesCompleted + 1 } } }))
    ∧ ∀ s : State, s.ms.purgeRunning = false → exec .purgeComplete s = .next s

/-! ## The hall line -/

/-- R174, R176, R177, R181: a telegram queued: given up while DETACHED; in the place of a waiting one it supersedes; behind
those as urgent or more while there is room; and into a full queue only in place of the last waiting one less urgent. -/
def Obligations.QueueAdmits : Prop :=
  ∀ (h : HallLine) (t : Telegram) (fresh : SendEntry), h.queueOk → fresh = { telegram := t, attempts := 0, onLine := false } →
    (h.line = .detached →
      h.enqueue t = { h with counters := { h.counters with givenUp := h.counters.givenUp + 1 } })
    ∧ (h.line ≠ .detached → ∀ (before after : List SendEntry) (x : SendEntry), h.queue = before ++ x :: after →
        x.onLine = false → t.body.supersedes x.telegram.body = true →
        (∀ y ∈ before, y.onLine = true ∨ t.body.supersedes y.telegram.body = false) →
        h.enqueue t = { h with
          queue := before ++ fresh :: after
          counters := { h.counters with superseded := h.counters.superseded + 1 } })
    ∧ (h.line ≠ .detached → (∀ y ∈ h.queue, y.onLine = true ∨ t.body.supersedes y.telegram.body = false) →
        (h.queue.length < 8 →
          h.enqueue t = { h with
            queue := h.queue.filter (fun y => decide (y.urgency ≤ t.body.urgency)) ++ fresh ::
              h.queue.filter (fun y => decide (t.body.urgency < y.urgency)) })
        ∧ (8 ≤ h.queue.length → (∀ y ∈ h.queue, y.onLine = true ∨ y.urgency ≤ t.body.urgency) →
          h.enqueue t = { h with counters := { h.counters with displaced := h.counters.displaced + 1 } })
        ∧ (∀ (before after : List SendEntry) (x : SendEntry), 8 ≤ h.queue.length → h.queue = before ++ x :: after →
            x.onLine = false → t.body.urgency < x.urgency →
            (∀ y ∈ after, y.onLine = true ∨ y.urgency ≤ t.body.urgency) →
            h.enqueue t = { h with
              queue := (before ++ after).filter (fun y => decide (y.urgency ≤ t.body.urgency)) ++ fresh ::
                (before ++ after).filter (fun y => decide (t.body.urgency < y.urgency))
              counters := { h.counters with displaced := h.counters.displaced + 1 } }))

/-- R167, R169, R170, R172, R175, R176, R178 to R181: in ACTIVE or CAUTION an attempt starts with the first entry at the end of an
idle gap, or on an idle line, and not where another's start bit has been read; the node then drives that telegram's levels. The
sender compares: a recessive bit of the key read dominant is a lost arbitration, so that the lower key wins, another bit read
other than sent after the key is an error, and the confirm slot ends the attempt. Confirmed, the entry leaves and the score
falls by 1; arbitration lost, it waits as before; failed, the score rises by 8 and the entry waits, is given up at its eighth
failure, or yields to a newer one; failed at a score of 255, the node detaches (R180, the model's inference,
notes/assumptions/28.md). A bit read back other than sent is answered with an error mark. That the bits come with the command, and
that none comes before the start at a chance to start, are the model's choices (notes/assumptions/47.md), as is that the line state
before the attempt scores decides about its error mark (notes/assumptions/51.md); the recessive bits at the attempt's end count
toward the next idle gap, and that a gap does not end at the attempt's own last bit is its choice (notes/assumptions/48.md); that
the key's start bits and its inner stop bit are not compared is its inference (notes/assumptions/49.md). -/
def Obligations.AttemptsMade : Prop :=
  (∀ (s : State) (e : SendEntry) (rest : List SendEntry) (u : HallLine), s.running = true → s.hlc.queue = e :: rest →
    s.hlc.line = .active ∨ s.hlc.line = .caution → (∀ x ∈ s.hlc.queue, x.onLine = false) →
    u = { s.hlc with
      queue := { e with onLine := true } :: rest
      drive := .telegram (e.telegram.levels s.config.address)
      watch := .attempting [] (e.telegram.levels s.config.address) } →
    (s.hlc.watch.idle = true →
      exec (.attemptStart []) s = .next { s with hlc := u }
        ∧ ∀ line c, line ≠ [] →
            c ∈ [Instr.attemptStart line, .attemptEnd line, .receiveError line, .detachment line, .rejoin line, .idleGap line] →
            exec c s = .next s)
    ∧ (∀ run, s.hlc.watch = .between false run → run < 12 →
        exec (.attemptStart (List.replicate (12 - run) false)) s = .next { s with hlc := u })
    ∧ (∀ line w, s.hlc.watch.idle = false → s.hearHall HallEvent.isIdleGap line = some (w, none) →
        exec (.attemptStart line) s = .next { s with hlc := { s.hlc with watch := w } }))
    ∧ (∀ (s : State) (line : List Bool), s.running = true →
        (s.hlc.queue = [] ∨ s.hlc.line = .mute ∨ s.hlc.line = .detached ∨ ∃ x ∈ s.hlc.queue, x.onLine = true) →
        (∀ w, s.hearHall (fun _ => false) line = some (w, none) →
          exec (.attemptStart line) s = .next { s with hlc := { s.hlc with watch := w } })
        ∧ (s.hearHall (fun _ => false) line = none → exec (.attemptStart line) s = .next s))
    ∧ (∀ (s : State) (line : List Bool), s.running = true →
        (∀ w, s.hearHall HallEvent.isEnd line = some (w, none) →
          exec (.attemptEnd line) s = .next { s with hlc := { s.hlc with watch := w } })
        ∧ (s.hearHall HallEvent.isEnd line = none → exec (.attemptEnd line) s = .next s))
    ∧ (∀ (s : State) (sent : List Bool), s.hlc.watch = .attempting [] sent →
        (∀ n, n < sent.length → s.hearHall HallEvent.isEnd (sent.take n) = some (.attempting (sent.take n) (sent.drop n), none))
        ∧ (∀ i, (1 ≤ i ∧ i ≤ 8 ∨ 11 ≤ i ∧ i ≤ 18) → sent[i]? = some false → i + 3 < sent.length →
            ∃ bytes bits, s.hearHall HallEvent.isEnd (sent.take i ++ [true]) =
                some (.receiving bytes bits, some (.ended .lostArbitration))
              ∧ 10 * bytes.length + bits.length = i + 1)
        ∧ (∀ i x, 19 ≤ i → sent[i]? = some x → i + 3 < sent.length →
            s.hearHall HallEvent.isEnd (sent.take i ++ [!x]) = some (lineAfter (sent.take i ++ [!x]), some (.ended .bitError)))
        ∧ ∀ body c first second, sent = body ++ [false, false, false] →
            s.hearHall HallEvent.isEnd (body ++ [c, first, second]) =
              some (lineAfter (body ++ [c, first, second]), some (.ended (.confirmSlot c (first || second)))))
    ∧ (∀ (s r : State) (t v : Telegram) (a b : Nat), a < 64 → b < 64 →
        64 * t.body.urgency + a < 64 * v.body.urgency + b →
        s.hlc.watch = .attempting [] (t.levels a) → r.hlc.watch = .attempting [] (v.levels b) →
        ∃ i w x, i < 19
          ∧ s.hearHall HallEvent.isEnd ((List.zipWith (fun p q => p || q) (t.levels a) (v.levels b)).take (i + 1)) =
              some (w, none)
          ∧ r.hearHall HallEvent.isEnd ((List.zipWith (fun p q => p || q) (t.levels a) (v.levels b)).take (i + 1)) =
              some (x, some (.ended .lostArbitration)))
    ∧ ∀ (s : State) (before after : List SendEntry) (e : SendEntry) (line : List Bool) (w : LineWatch)
        (result : AttemptResult), s.running = true →
        s.hlc.queue = before ++ e :: after → e.onLine = true → (∀ x ∈ before ++ after, x.onLine = false) →
        s.hlc.line ≠ .detached → s.hearHall HallEvent.isEnd line = some (w, some (.ended result)) →
        ∃ t, exec (.attemptEnd line) s = .next t ∧ t.hlc.watch = w
          ∧ t.hlc.drive = (if result = .bitError ∧ (s.hlc.line = .active ∨ s.hlc.line = .caution) then .errorMark
              else .quiet)
          ∧ t.st = s.st ∧ t.ms = s.ms ∧ t.dc = s.dc ∧ t.su = s.su ∧ t.config = s.config ∧ t.inputs = s.inputs
          ∧ (s.nc.state ≠ .standbyPending → t.nc = s.nc ∧ t.om = s.om ∧ t.trp = s.trp)
          ∧ (result = .confirmSlot true false →
              t.hlc.queue = before ++ after ∧ t.hlc.score = s.hlc.score - 1
                ∧ t.hlc.line = lineStateOf (s.hlc.score - 1)
                ∧ t.hlc.counters = { s.hlc.counters with sent := s.hlc.counters.sent + 1 })
          ∧ (result = .lostArbitration →
              t.hlc.score = s.hlc.score ∧ t.hlc.line = s.hlc.line
                ∧ t.hlc.counters.arbitrationLost = s.hlc.counters.arbitrationLost + 1
                ∧ ((∀ x ∈ before ++ after, x.telegram.body.supersedes e.telegram.body = false) →
                    t.hlc.queue = before ++ { e with onLine := false } :: after
                      ∧ t.hlc.counters.superseded = s.hlc.counters.superseded)
                ∧ ((∃ x ∈ before ++ after, x.telegram.body.supersedes e.telegram.body = true) →
                    t.hlc.queue = before ++ after
                      ∧ t.hlc.counters.superseded = s.hlc.counters.superseded + 1))
          ∧ ((result = .bitError ∨ ∃ c d, result = .confirmSlot c d ∧ (c = false ∨ d = true)) →
              t.hlc.counters.transmitErrors = s.hlc.counters.transmitErrors + 1
                ∧ (s.hlc.score = 255 →
                    t.hlc.line = .detached ∧ t.hlc.queue = [] ∧ t.hlc.idleGaps = 0 ∧ t.hlc.score = 255
                      ∧ t.hlc.counters.detachments = s.hlc.counters.detachments + 1
                      ∧ t.hlc.counters.givenUp = s.hlc.counters.givenUp + BitVec.ofNat 32 s.hlc.queue.length)
                ∧ (s.hlc.score < 255 →
                    t.hlc.score = min 255 (s.hlc.score + 8) ∧ t.hlc.line = lineStateOf (min 255 (s.hlc.score + 8))
                      ∧ (7 ≤ e.attempts →
                          t.hlc.queue = before ++ after ∧ t.hlc.counters.givenUp = s.hlc.counters.givenUp + 1)
                      ∧ (e.attempts < 7 →
                          ((∀ x ∈ before ++ after, x.telegram.body.supersedes e.telegram.body = false) →
                            t.hlc.queue = before ++ { e with attempts := e.attempts + 1, onLine := false } :: after
                              ∧ t.hlc.counters.superseded = s.hlc.counters.superseded)
                          ∧ ((∃ x ∈ before ++ after, x.telegram.body.supersedes e.telegram.body = true) →
                            t.hlc.queue = before ++ after
                              ∧ t.hlc.counters.superseded = s.hlc.counters.superseded + 1))))

/-- R169, R171 to R173, R178 to R184, R203: twelve recessive bits are an idle gap and each further twelve another, those at the end
of a telegram, of a faulted one or of an attempt included; on an idle line a dominant bit is a start bit. A recessive start bit, a dominant stop bit or a payload length above 32 is a framing fault, a check
value other than the one computed a check mismatch, and a dominant delimiter another station's error mark. A receive error is
counted and scored, and marked where the node may drive the line, another station's error mark like a fault of its own; a MUTE
node at 255 with a telegram queued detaches at an idle gap, and rejoins at the 96th after it with a HELLO; a telegram taken and
not delivered is counted by what became of it. A telegram for this node is judged by its length alone, one for all stations first
by the slots, of which the first that matches its class and its subject word decides, and one for another station is not accepted;
a length that the class does not allow is malformed, a REPLY or a code that is no class's is unknown. That the bits come with the
command, that IDLE_GAP, DETACHMENT and REJOIN are one event where they meet, what a telegram during this node's own attempt does,
and that the line state before the receive error scores decides about its error mark, are the model's choices
(notes/assumptions/47.md, 16.md, 42.md and 51.md); that a gap does not end at a telegram's own last bit is its choice, and at which
bit a fault is found its inference (notes/assumptions/48.md). The subject word of a payload too short to hold it is a free value
(notes/assumptions/9.md), and that a REPLY of a wrong length is malformed the model's inference (notes/assumptions/15.md). -/
def Obligations.ReceiptsScored : Prop :=
  (∀ (idle : Bool) (run : Nat),
    LineWatch.sample true (.between idle run) = (if idle then .receiving [] [true] else .between false 0, none)
    ∧ LineWatch.sample false (.between idle run) =
        if run < 11 then (.between idle (run + 1), none) else (.between true 0, some .idleGap))
    ∧ (∀ (read : List Bool) (n : Nat), lineAfter (read ++ true :: List.replicate n false) = .between false (min 11 n)
        ∧ lineAfter (List.replicate n false) = .between false (min 11 n))
    ∧ (∀ (bytes : List Byte) (bits : List Bool) (n : Nat), n = (bytes.getD 4 0).toNat →
        (bytes.length ≠ 7 + n →
          LineWatch.sample false (.receiving bytes []) =
            (lineAfter (bytes.flatMap frameByte ++ [false]), some (.fault .framing))
          ∧ (bits.length = 9 → LineWatch.sample true (.receiving bytes bits) = (.between false 0, some (.fault .framing)))
          ∧ (bits.length = 9 → bytes.length = 4 → 32 < (dataByte (bits.drop 1)).toNat →
              LineWatch.sample false (.receiving bytes bits) =
                (lineAfter ((bytes ++ [dataByte (bits.drop 1)]).flatMap frameByte), some (.fault .framing)))
          ∧ (bits.length = 9 → bytes.length = 6 + n → 5 ≤ bytes.length →
              LineWatch.sample false (.receiving bytes bits) =
                if checkValue ((bytes.drop 2).take (3 + n)) = bytes.getD (5 + n) 0 ++ dataByte (bits.drop 1) then
                  (.receiving (bytes ++ [dataByte (bits.drop 1)]) [], none)
                else (lineAfter ((bytes ++ [dataByte (bits.drop 1)]).flatMap frameByte), some (.fault .checkMismatch))))
        ∧ (bytes.length = 7 + n → ∀ c d : Bool,
            LineWatch.sample c (.receiving bytes []) = (.receiving bytes [c], none)
            ∧ LineWatch.sample true (.receiving bytes [c]) = (.between false 0, some (.fault .errorMark))
            ∧ LineWatch.sample true (.receiving bytes [c, d]) = (.between false 0, some (.fault .errorMark))
            ∧ LineWatch.sample false (.receiving bytes [c]) = (.receiving bytes [c, false], none)
            ∧ LineWatch.sample false (.receiving bytes [c, d]) =
                (lineAfter (bytes.flatMap frameByte ++ [c, d, false]), some (.received bytes c))))
    ∧ (∀ (s : State) (line : List Bool) (c : Instr) (row : HallEvent → Bool),
        (c, row) ∈ [(Instr.receiveError line, HallEvent.isFault), (.idleGap line, HallEvent.isIdleGap),
          (.detachment line, fun e => e.isIdleGap && s.hlc.detaches),
          (.rejoin line, fun e => e.isIdleGap && s.hlc.rejoinsNext)] → s.running = true →
        (∀ w, s.hearHall row line = some (w, none) → exec c s = .next { s with hlc := { s.hlc with watch := w } })
        ∧ (s.hearHall row line = none → exec c s = .next s))
    ∧ (∀ (s : State) (idle : Bool) (run : Nat), s.hlc.watch = .between idle run → run < 12 → s.chance = false →
        s.hearHall HallEvent.isIdleGap (List.replicate (12 - run) false) =
          some (.between true 0, if s.tellsHall .idleGap then some .idleGap else none))
    ∧ (∀ (s : State) (line : List Bool) (w : LineWatch) (f : ReceiveFault), s.running = true →
        s.hearHall HallEvent.isFault line = some (w, some (.fault f)) →
        exec (.receiveError line) s = .next { s with hlc := { s.hlc with
          watch := w
          drive := if s.hlc.line = .active ∨ s.hlc.line = .caution then .errorMark else .quiet
          score := if s.hlc.line = .detached then s.hlc.score else min 255 (s.hlc.score + 1)
          line := if s.hlc.line = .detached then .detached else lineStateOf (min 255 (s.hlc.score + 1))
          counters := { s.hlc.counters with receiveErrors := s.hlc.counters.receiveErrors + 1 } } })
    ∧ (∀ (s : State) (line : List Bool) (w : LineWatch), s.running = true →
        s.hearHall HallEvent.isIdleGap line = some (w, some .idleGap) →
        (s.hlc.line = .mute → s.hlc.score = 255 → s.hlc.queue ≠ [] → (∀ x ∈ s.hlc.queue, x.onLine = false) →
          ∃ t, exec (.detachment line) s = .next t ∧ exec (.idleGap line) s = .next t
            ∧ t.hlc = { s.hlc with
                watch := w, drive := .quiet, line := .detached, queue := [], idleGaps := 0
                counters := { s.hlc.counters with
                  transmitErrors := s.hlc.counters.transmitErrors + 1
                  detachments := s.hlc.counters.detachments + 1
                  givenUp := s.hlc.counters.givenUp + BitVec.ofNat 32 s.hlc.queue.length } }
            ∧ t.st = s.st ∧ t.ms = s.ms ∧ t.dc = s.dc ∧ t.su = s.su ∧ t.config = s.config ∧ t.inputs = s.inputs
            ∧ (s.nc.state ≠ .standbyPending → t.nc = s.nc ∧ t.om = s.om ∧ t.trp = s.trp))
        ∧ ((s.hlc.line = .active ∨ s.hlc.line = .caution) →
            exec (.idleGap line) s = .next { s with hlc := { s.hlc with watch := w } })
        ∧ (s.hlc.line = .detached → s.hlc.idleGaps < 95 →
            exec (.rejoin line) s = .next s
              ∧ exec (.idleGap line) s = .next { s with hlc := { s.hlc with
                  watch := w, idleGaps := s.hlc.idleGaps + 1 } })
        ∧ ∀ u, s.hlc.line = .detached → 95 ≤ s.hlc.idleGaps →
            u = { s with hlc := HallLine.enqueue (s.helloIn s.nc.state) { s.hlc with
              watch := w, line := .active, score := 0, idleGaps := 0
              counters := { s.hlc.counters with rejoins := s.hlc.counters.rejoins + 1 } } } →
            exec (.rejoin line) s = .next (if s.nc.state = .standby then u else u.roundQueued)
              ∧ exec (.idleGap line) s = exec (.rejoin line) s)
    ∧ (∀ (c : NodeConfig) (cls : Byte) (rx : Rx) (p : List Byte) (subject : BitVec 16)
        (hit : AcceptanceSlot → Prop) (lengths : List (Byte × List Nat)),
        subject = subjectWord cls rx p →
        (∀ x, hit x ↔ cls &&& x.classMask = x.classValue
          ∧ subject &&& x.subjectMask.setWidth 16 = x.subjectValue.setWidth 16) →
        lengths = [(0x01, [1]), (0x02, [1]), (0x03, [0]), (0x04, [0]), (0x05, [0]), (0x06, [0]), (0x07, [1]), (0x10, [9]),
          (0x11, [5]), (0x12, [6]), (0x20, [19]), (0x21, [3, 8, 13]), (0x22, [9]), (0x23, [10]), (0x30, [3]),
          (0x40, [2, 7, 12]), (0x41, [11]), (0x50, [6]), (0x51, (List.range 31).map (· + 2)), (0x60, [9])] →
        (rx.destination ≠ 0 → rx.destination.toNat ≠ c.address → judgeTelegram c cls rx p = .elsewhere)
        ∧ (rx.destination ≠ 0 → rx.destination.toNat = c.address → judgeTelegram c cls rx p = judgeContent cls p)
        ∧ (rx.destination = 0 →
            ((∀ x ∈ c.slots, ¬ hit x) → judgeTelegram c cls rx p = .filtered)
            ∧ ∀ before after x, c.slots = before ++ x :: after → (∀ y ∈ before, ¬ hit y) → hit x →
                judgeTelegram c cls rx p = if x.accept then judgeContent cls p else .filtered)
        ∧ (∀ ls, (cls, ls) ∈ lengths →
            judgeContent cls p = if p.length ∈ ls then (if cls = 0x51 then .unknownClass else .deliver) else .malformed)
        ∧ ((∀ x ∈ lengths, x.1 ≠ cls) → judgeContent cls p = .unknownClass)
        ∧ (∀ i, (cls, i) ∈ [((0x01 : Byte), 0), (0x02, 0), (0x30, 0), (0x23, 7), (0x12, 4)] →
            subject = match p[i]? with
              | some b => b.setWidth 16
              | none => Config.shortSubject cls p)
        ∧ (cls = 0x10 → subject = match p[5]?, p[6]? with
            | some hi, some lo => BitVec.ofNat 16 ((256 * hi.toNat + lo.toNat) / 128)
            | _, _ => Config.shortSubject cls p)
        ∧ (cls ∈ [(0x04 : Byte), 0x05, 0x06, 0x07, 0x20, 0x41, 0x50, 0x51] → subject = rx.destination.setWidth 16)
        ∧ (cls ∉ [(0x01 : Byte), 0x02, 0x30, 0x23, 0x12, 0x10, 0x04, 0x05, 0x06, 0x07, 0x20, 0x41, 0x50, 0x51] →
            subject = 0))
    ∧ ∀ (s u : State) (cls : Byte) (rx : Rx) (p : List Byte), s.running = true → u = s.takeTelegram rx →
        u.hlc.score = (if s.hlc.line = .detached then s.hlc.score else s.hlc.score - 1)
        ∧ u.hlc.counters = { s.hlc.counters with taken := s.hlc.counters.taken + 1 }
        ∧ u.hlc.queue = s.hlc.queue ∧ u.nc = s.nc ∧ u.st = s.st
        ∧ ((∀ read left, s.hlc.watch ≠ .attempting read left) → ∀ k, k ≤ 8 → (∀ i, i < k → rx.check.getLsbD i = true) →
            (k < 8 → rx.check.getLsbD k = false) →
            u.hlc.watch = .between false (if rx.confirmed = true ∨ u.hlc.drive = .confirm then 2 else min 11 (4 + k)))
        ∧ (u.hlc.drive = .confirm ↔ (rx.destination.toNat = s.config.address ∨ rx.destination = 0)
            ∧ (s.hlc.line = .active ∨ s.hlc.line = .caution))
        ∧ (judgeTelegram s.config cls rx p = .elsewhere → exec (.telegramDiscarded cls rx p) s = .next u)
        ∧ (judgeTelegram s.config cls rx p = .filtered →
            exec (.telegramDiscarded cls rx p) s = .next { u with hlc := { u.hlc with
              counters := { u.hlc.counters with filteredOut := u.hlc.counters.filteredOut + 1 } } })
        ∧ (judgeTelegram s.config cls rx p = .malformed →
            exec (.telegramDiscarded cls rx p) s = .next { u with hlc := { u.hlc with
              counters := { u.hlc.counters with malformed := u.hlc.counters.malformed + 1 } } })
        ∧ (judgeTelegram s.config cls rx p = .unknownClass →
            exec (.telegramDiscarded cls rx p) s = .next { u with hlc := { u.hlc with
              counters := { u.hlc.counters with unknownClass := u.hlc.counters.unknownClass + 1 } } })

/-! ## Queries -/

/-- R194, R198 to R200, R204: the IDENTITY, OUTLET, TAG and CABIN queries and those of unknown kind: with destination 0 discarded;
addressed, the node wakes and replies to the sender with the data of the rule, or with NOT-FOUND, BUSY or REFUSED. That BUSY
comes before REFUSED, that the reply for a STRAY outlet has no counts of the view, that the miss counter is sent in 4 bytes, that the argument's bytes above those read are
ignored, and that the reply to a query that wakes the node shows it awake, are the model's inferences (notes/assumptions/21.md,
20.md, 30.md and 46.md). -/
def Obligations.QueriesAnswered : Prop :=
  ∀ (s u : State) (rx : Rx) (a : BitVec 40) (kind : Byte), (7 < kind.toNat ∨ kind = 0) →
    (∀ b ∈ [(1 : Byte), 3, 4, 5, kind], s.delivers classQuery rx (b :: argumentBytes a)) → u = s.takenAwake rx →
    (broadcast rx = true →
      ∀ c ∈ [Instr.identity rx a, .outlet rx a, .tag rx a, .cabin rx a, .queryKindUnknown rx kind a],
        exec c s = .next { u with nc := { s.nc with
          counters := { s.nc.counters with queriesDiscarded := s.nc.counters.queriesDiscarded + 1 } } })
    ∧ (broadcast rx = false →
        exec (.identity rx a) s = .next (u.replied rx (.reply 1 .done
          ([0x47, 0xA1, 0x01, 0x54, 0x42, BitVec.ofNat 8 s.config.address, BitVec.ofNat 8 (nodeStateCode u.nc.state),
            BitVec.ofNat 8 (lineStateCode u.hlc.line), if s.ms.retentionLost then 1 else 0]
            ++ bytes2 s.config.digest.toNat)) false)
        ∧ exec (.queryKindUnknown rx kind a) s = .next (u.replied rx (.reply kind .refused []) true)
        ∧ ((∀ k : OutletNo, k.number = a.toNat % 256 → (s.config.outlet k).fitted = false) →
            exec (.outlet rx a) s = .next (u.replied rx (.reply 3 .refused []) true))
        ∧ (∀ (k : OutletNo) (o : OutletRecord) (flags : List Byte), k.number = a.toNat % 256 →
            (s.config.outlet k).fitted = true → o = u.om.outlet k →
            flags = [if o.firstPending then 1 else 0, if o.fullLatch then 1 else 0, if o.gaugeFault then 1 else 0,
              if o.actuatorFault then 1 else 0] ++ bytes4 (BitVec.ofNat 32 o.misses) ++ [if o.jam then 1 else 0] →
            ((s.config.outlet k).role = .stray →
              exec (.outlet rx a) s = .next (u.replied rx (.reply 3 .done
                ([0, BitVec.ofNat 8 (outletStateCode o.state), 0, BitVec.ofNat 8 o.reading] ++ flags)) false))
            ∧ ∀ d, (s.config.outlet k).role = .deck d →
              exec (.outlet rx a) s = .next (u.replied rx (.reply 3 .done
                ([BitVec.ofNat 8 d, BitVec.ofNat 8 (outletStateCode o.state), BitVec.ofNat 8 (summaryCode o.summary),
                  BitVec.ofNat 8 o.reading] ++ flags
                  ++ [BitVec.ofNat 8 (u.om.view.filter fun e => e.deck == d).length,
                    BitVec.ofNat 8 (u.om.view.filter fun e => e.deck == d && e.summary == .openLow
                      && e.peer != s.config.address).length])) false))
        ∧ (s.ms.purgeRunning = true →
            exec (.tag rx a) s = .next (u.replied rx (.reply 4 .busy []) false)
              ∧ exec (.cabin rx a) s = .next (u.replied rx (.reply 5 .busy []) false))
        ∧ (s.ms.purgeRunning = false →
            ((a.toNat = 0 ∨ 9999999999 < a.toNat) →
              exec (.tag rx a) s = .next (u.replied rx (.reply 4 .refused []) true))
            ∧ (1 ≤ a.toNat → a.toNat ≤ 9999999999 →
                (s.ms.entry a.toNat = none →
                  exec (.tag rx a) s = .next (u.replied rx (.reply 4 .notFound []) false))
                ∧ ∀ e, s.ms.entry a.toNat = some e →
                  exec (.tag rx a) s = .next (u.replied rx (.reply 4 .done
                    (bytes5 e.tag ++ bytes2 e.cabin ++ [BitVec.ofNat 8 e.pieces, if e.oversize then 1 else 0,
                      if e.placement = .placed then 1 else 2] ++ markBytes e.mark
                      ++ [if e.strayed then 1 else 0, BitVec.ofNat 8 (lookupCode (lookupCabin s.ms.map e.cabin))]))
                    false))
            ∧ ((a.toNat % 65536 = 0 ∨ 32767 < a.toNat % 65536) →
              exec (.cabin rx a) s = .next (u.replied rx (.reply 5 .refused []) true))
            ∧ (1 ≤ a.toNat % 65536 → a.toNat % 65536 ≤ 32767 →
                (s.ms.cabin (a.toNat % 65536) = none →
                  exec (.cabin rx a) s = .next (u.replied rx (.reply 5 .notFound []) false))
                ∧ ∀ r, s.ms.cabin (a.toNat % 65536) = some r →
                  exec (.cabin rx a) s = .next (u.replied rx (.reply 5 .done
                    (bytes2 r.cabin ++ [BitVec.ofNat 8 r.expected, BitVec.ofNat 8 r.delivered,
                      if r.delivered = r.expected then 2 else 1, BitVec.ofNat 8 (s.ms.entriesOf r.cabin).length,
                      BitVec.ofNat 8 ((s.ms.entriesOf r.cabin).filter fun e => e.strayed).length,
                      BitVec.ofNat 8 (lookupCode (lookupCabin s.ms.map r.cabin))])) false))))

/-- R194, R198, R201, R202, R204: the COUNTERS query replies with the eight values of a block's group as they stood before it; the
STRAY-LOG and MAP queries walk the ring and the map by cursor, with the bytes of an entry, a claim or a range, and a DONE reply
at the start of either clears its change mark; destination 0 is discarded. That the argument's bytes above those read are
ignored, that BUSY comes before REFUSED, and that the node keeps no cursor, are the model's inferences (notes/assumptions/20.md,
21.md and 36.md); that SU group 2 gives the ring's length and the next sequence number also at a node without a STRAY outlet,
whose SU keeps what it holds, is its choice (notes/assumptions/41.md). -/
def Obligations.CountersLogAndMapAnswered : Prop :=
  ∀ (s u : State) (rx : Rx) (a : BitVec 40) (hi lo : Nat),
    (∀ b ∈ [(2 : Byte), 6, 7], s.delivers classQuery rx (b :: argumentBytes a)) → u = s.takenAwake rx →
    hi = a.toNat / 256 % 256 → lo = a.toNat % 256 →
    (broadcast rx = true → ∀ c ∈ [Instr.counters rx a, .strayLog rx a, .map rx a],
      exec c s = .next { u with nc := { s.nc with
        counters := { s.nc.counters with queriesDiscarded := s.nc.counters.queriesDiscarded + 1 } } })
    ∧ (broadcast rx = false →
        ((7 < hi ∨ 3 < lo) → exec (.counters rx a) s = .next (u.replied rx (.reply 2 .refused []) true))
        ∧ (hi ≤ 7 → lo ≤ 3 → ∀ (n : Nat → Counter) (b : Bool → Counter), n = BitVec.ofNat 32 →
            b = (fun x => if x then 1 else 0) →
            exec (.counters rx a) s = .next (u.replied rx (.counters
              (match hi, lo with
              | 0, 0 => [u.st.counters.arrivals, u.st.counters.diverted, u.st.counters.handedOff, u.st.counters.lost,
                  u.st.counters.abandoned, u.st.counters.withdrawn, n u.st.records.length, n u.st.expectations.length]
              | 0, 1 => [u.st.counters.overflowArrivals, u.st.counters.untracked, u.st.counters.unmatchedTrailing,
                  u.st.counters.expectationOverflow, u.st.counters.expectationsLost, u.st.counters.handoffsRefused,
                  u.st.counters.orphanedNotices, u.st.counters.duplicateReads]
              | 0, 2 => [u.st.counters.surplusTags, u.st.counters.speedOverrange, b u.st.overrange, b u.st.feedHold,
                  n u.st.speed, n u.st.encoderCount.toNat, n u.st.nextNumber.toNat, 0]
              | 1, 0 => [u.trp.counters.framingErrors, u.trp.counters.breaks, u.trp.counters.validReports,
                  u.trp.counters.readErrors, u.trp.counters.boundReads, u.trp.counters.orphanReads,
                  u.trp.counters.boundBreaks, u.trp.counters.orphanBreaks]
              | 1, 1 => [u.trp.counters.rateMeasurements, u.trp.counters.rateOverflows, u.trp.counters.remeasurements,
                  if u.trp.rateState = .measuring then 1 else 0,
                  if u.trp.rateState = .measuring then 0 else n u.trp.divider, b u.trp.rateOverflow, n u.trp.framingRun,
                  n u.trp.windows.length]
              | 2, 0 => [u.ms.counters.inserted, u.ms.counters.amendments, u.ms.counters.withdrawals,
                  u.ms.counters.manifestsRefused, u.ms.counters.outsideSlice, u.ms.counters.tableFull,
                  u.ms.counters.unplacedFull, u.ms.counters.cabinFull]
              | 2, 1 => [u.ms.counters.piecesFull, u.ms.counters.misplacedReports, u.ms.counters.doubleDeliveries,
                  u.ms.counters.deliveredUnrecorded, u.ms.counters.mapRefused, u.ms.counters.mapFull,
                  u.ms.counters.mapNotFound, u.ms.counters.sweepsCompleted]
              | 2, 2 => [u.ms.counters.sweepRemovals, u.ms.counters.purgesCompleted, u.ms.counters.holdOverruns,
                  u.ms.counters.heldDiscarded, n u.ms.table.length,
                  n (u.ms.table.filter fun e => e.placement == .unplaced).length, n u.ms.cabins.length,
                  n u.ms.map.length]
              | 2, 3 => [n u.ms.hold.length, b u.ms.purgeRunning, b u.ms.sweep.isSome, b u.ms.retentionLost,
                  b u.ms.purgePending, u.ms.counters.deliveredRefused, 0, 0]
              | 3, 0 => [u.dc.counters.commitments, u.dc.counters.fires, u.dc.counters.pusherBusy, u.dc.counters.dropped,
                  u.dc.counters.deliveries, u.dc.counters.misses,
                  n (u.dc.commitments.filter fun c => c.phase == .armed).length,
                  n (u.dc.commitments.filter fun c => c.phase == .fired).length]
              | 3, 1 => [u.dc.counters.evaluations, u.dc.counters.strayDeliveries, u.dc.counters.unsolicited,
                  u.dc.counters.noLengthAtArm, u.dc.counters.deferrals, u.dc.counters.leadClamped,
                  n ([u.dc.strokes.o1, u.dc.strokes.o2, u.dc.strokes.o3, u.dc.strokes.o4].filter Option.isSome).length, 0]
              | 4, 0 => [u.om.counters.faultedReadings, u.om.counters.jams, u.om.counters.restores,
                  u.om.counters.restoresRefused, u.om.counters.deckCloses, u.om.counters.deckOpens,
                  u.om.counters.deckRefused, u.om.counters.statesQueued]
              | 4, 1 => [u.om.counters.statesRefused, u.om.counters.statesUnserved, u.om.counters.viewReplacements,
                  u.om.counters.viewExpiries, u.om.counters.viewWiped, n u.om.view.length, n u.om.closed.length, 0]
              | 5, 0 => [u.su.counters.strayEntries, u.su.counters.reportsLogged, u.su.counters.reportsRefused,
                  u.su.counters.logOverwrites, u.su.counters.callsQueued, u.su.counters.ownClaims,
                  u.su.counters.claimsTaken, u.su.counters.disputes]
              | 5, 1 => [u.su.counters.claimsRefused, u.su.counters.claimsUnknown, u.su.counters.claimsUnasked,
                  u.su.counters.claimsMismatched, u.su.counters.claimsRepeated, u.su.counters.claimsLate,
                  u.su.counters.claimsSurplus, u.su.counters.claimsWithoutLog]
              | 5, 2 => [u.su.counters.endedUnclaimed, u.su.counters.reportsNotLogged, u.su.counters.callsTaken,
                  u.su.counters.callsRefused, u.su.counters.claimsQueued, n u.su.ring.length, n u.su.nextSequence.toNat,
                  n (u.su.ring.filter fun e => e.window == .running).length]
              | 6, 0 => [u.hlc.counters.sent, u.hlc.counters.givenUp, u.hlc.counters.superseded, u.hlc.counters.displaced,
                  u.hlc.counters.clearedAtReset, n u.hlc.queue.length, u.hlc.counters.transmitErrors,
                  u.hlc.counters.arbitrationLost]
              | 6, 1 => [u.hlc.counters.receiveErrors, u.hlc.counters.taken, u.hlc.counters.filteredOut,
                  u.hlc.counters.malformed, u.hlc.counters.unknownClass, u.hlc.counters.detachments,
                  u.hlc.counters.rejoins, n u.hlc.score]
              | 6, 2 => [n (lineStateCode u.hlc.line), n u.hlc.idleGaps, 0, 0, 0, 0, 0, 0]
              | 7, 0 => [u.nc.counters.joins, u.nc.counters.resets, u.nc.counters.standbys, u.nc.counters.wakes,
                  u.nc.counters.commandsIgnored, u.nc.counters.hellosTaken, u.nc.counters.addressClashes,
                  u.nc.counters.queriesAnswered]
              | 7, 1 => [u.nc.counters.queriesRefused, u.nc.counters.queriesDiscarded, n (nodeStateCode u.nc.state),
                  0, 0, 0, 0, 0]
              | _, _ => [0, 0, 0, 0, 0, 0, 0, 0])) false))
        ∧ ((63 < hi ∨ 3 < lo) → exec (.strayLog rx a) s = .next (u.replied rx (.reply 6 .refused []) true))
        ∧ (hi ≤ 63 → lo ≤ 3 →
            (s.config.isStrayNode = false →
              exec (.strayLog rx a) s = .next (u.replied rx (.reply 6 .notFound []) false))
            ∧ (s.config.isStrayNode = true →
                (s.su.ring.length ≤ hi → ∃ t, exec (.strayLog rx a) s = .next t
                  ∧ t = { u.replied rx (.reply 6 .done [0xFF, if s.nc.logMark then 1 else 0]) false with
                      nc := { (u.replied rx (.reply 6 .done []) false).nc with
                        logMark := s.nc.logMark && !(hi == 0 && lo == 0) } })
                ∧ ∀ e, s.su.ring[hi]? = some e →
                    (lo = 0 → ∃ t, exec (.strayLog rx a) s = .next t
                      ∧ t = { u.replied rx (.reply 6 .done
                            ([if hi + 1 < s.su.ring.length then BitVec.ofNat 8 (hi + 1) else 0xFF,
                              if s.nc.logMark then 1 else 0]
                              ++ bytes2 e.sequence.toNat
                              ++ (match e.kind with
                                | .inChute reason => [1, BitVec.ofNat 8 e.tags.length] ++ e.tags.flatMap bytes5
                                    ++ [BitVec.ofNat 8 (reasonCode reason), BitVec.ofNat 8 (e.lap.getD 255)]
                                    ++ bytes2 (e.length.getD 0) ++ [0, 0, 0, 0, 0, 0]
                                | .lost last reporter => [2, BitVec.ofNat 8 e.tags.length] ++ e.tags.flatMap bytes5
                                    ++ [9, BitVec.ofNat 8 (e.lap.getD 255)] ++ bytes2 (e.length.getD 0)
                                    ++ [BitVec.ofNat 8 last, BitVec.ofNat 8 reporter, 0, 0, 0, 0]
                                | .misplaced reporter old cabin cause =>
                                    [2, BitVec.ofNat 8 e.tags.length] ++ e.tags.flatMap bytes5
                                    ++ [10, BitVec.ofNat 8 (e.lap.getD 255)] ++ bytes2 (e.length.getD 0)
                                    ++ [0, BitVec.ofNat 8 reporter, BitVec.ofNat 8 old] ++ bytes2 (cabin.getD 0)
                                    ++ [BitVec.ofNat 8 (causeCode cause)])
                              ++ [match e.window with
                                | .none => 0
                                | .running => 1
                                | .ended => 2,
                                match e.state with
                                | .notAsked => 0
                                | .opened => 1
                                | .claimed => 2
                                | .disputed => 3
                                | .unclaimed => 4,
                                BitVec.ofNat 8 e.claims.length])) false with
                          nc := { (u.replied rx (.reply 6 .done []) false).nc with
                            logMark := s.nc.logMark && !(hi == 0) } })
                    ∧ (1 ≤ lo → e.claims.length < lo →
                        exec (.strayLog rx a) s = .next (u.replied rx (.reply 6 .notFound []) false))
                    ∧ ∀ c, 1 ≤ lo → e.claims[lo - 1]? = some c →
                        exec (.strayLog rx a) s = .next (u.replied rx (.reply 6 .done
                          ([if hi + 1 < s.su.ring.length then BitVec.ofNat 8 (hi + 1) else 0xFF,
                            if s.nc.logMark then 1 else 0]
                            ++ [BitVec.ofNat 8 c.node] ++ bytes5 c.tag ++ bytes2 c.cabin ++ [BitVec.ofNat 8 c.deck]))
                          false)))
        ∧ (s.ms.purgeRunning = true → exec (.map rx a) s = .next (u.replied rx (.reply 7 .busy []) false))
        ∧ (s.ms.purgeRunning = false → 31 < lo →
            exec (.map rx a) s = .next (u.replied rx (.reply 7 .refused []) true))
        ∧ (s.ms.purgeRunning = false → lo ≤ 31 → ∃ data, exec (.map rx a) s = .next
              { u.replied rx (.reply 7 .done data) false with
                nc := { (u.replied rx (.reply 7 .done data) false).nc with mapMark := s.nc.mapMark && !(lo == 0) } }
            ∧ (s.ms.map.length ≤ lo → data = [0xFF, if s.nc.mapMark then 1 else 0])
            ∧ ∀ r, s.ms.map[lo]? = some r →
                data = [if lo + 1 < s.ms.map.length then BitVec.ofNat 8 (lo + 1) else 0xFF,
                    if s.nc.mapMark then 1 else 0]
                  ++ bytes2 r.first ++ bytes2 r.last ++ [BitVec.ofNat 8 r.deck, if r.state = .clear then 1 else 2]))

/-! ## Formats -/

/-- R167, R168, R191, R198, R201, R203 to R205: the fields of each telegram this node sends are read back from its payload,
every field at every value its range admits: HANDOFF, LOST, MISPLACED, STRAY-CALL, CLAIM, DELIVERED and OUTLET-STATE as a node
reads them, and HELLO and REPLY, of which a node reads no field, by their bytes. The order of the served decks in a HELLO is the
model's inference (notes/assumptions/18.md). -/
def Obligations.PayloadFieldsReadBack : Prop :=
  (∀ f : HandoffFields, f.tags.length ≤ 2 → (∀ x ∈ f.tags, x ≤ 9999999999) → f.length < 65536 → f.lap < 256 →
    readHandoff (handoffPayload f) =
      { bag := f.bag, tagCount := f.tags.length, tags := f.tags, length := f.length, readCode := readStateCode f.readState,
        lap := f.lap, deferred := f.deferred, missed := f.missed, reasonCode := reasonCode f.reason }
      ∧ reasonOfCode (reasonCode f.reason) = some f.reason)
    ∧ (∀ f : LossReport, f.tags.length ≤ 2 → (∀ x ∈ f.tags, x ≤ 9999999999) → f.lastSection < 256 → f.lap < 256 →
        f.reporter < 256 → readLost (lostPayload f) = f)
    ∧ (∀ f : MisplacedReport, f.tag ≤ 9999999999 → f.oldDeck < 256 → (∀ c, f.newCabin = some c → 1 ≤ c ∧ c < 65536) →
        readMisplaced (misplacedPayload f) =
          { tag := f.tag, oldDeck := f.oldDeck, cause := some f.cause, newCabin := f.newCabin })
    ∧ (∀ (n : Count) (tags : List Nat), tags.length ≤ 2 → (∀ x ∈ tags, x ≤ 9999999999) →
        readSequence (strayCallPayload n tags) = n ∧ readCallTags (strayCallPayload n tags) = tags)
    ∧ (∀ (n : Count) (f : ClaimFields), f.tag ≤ 9999999999 → f.cabin < 65536 → f.deck < 256 → f.node < 256 →
        readSequence (claimPayload n f) = n ∧ readClaim (claimPayload n f) = f)
    ∧ (∀ f : DeliveredFields, f.tag ≤ 9999999999 → f.cabin < 65536 → f.deck < 256 → f.node < 256 → f.outlet < 256 →
        readDelivered (deliveredPayload f) = f)
    ∧ (∀ (deck : Nat) (summary : Summary) (reading : Nat), deck < 256 → reading < 256 →
        readOutletState (outletStatePayload deck summary reading) =
          { deck := deck, summary := some summary, reading := reading })
    ∧ (∀ (f : HelloFields) (p : List Byte), p = (Body.hello f).payload → f.address < 256 → f.decks.length ≤ 4 →
        (∀ d ∈ f.decks, d < 256) →
        p.length = 9 ∧ byteAt p 0 = f.address ∧ byteAt p 1 = nodeStateCode f.state
          ∧ byteAt p 2 = (if f.retentionLost then 1 else 0) ∧ wordAt p 3 = f.digest.toNat
          ∧ ∀ i, i < 4 → byteAt p (5 + i) = f.decks.getD i 0)
    ∧ (∀ (kind : Byte) (condition : ReplyCondition) (data : List Byte),
        (Body.reply kind condition data).payload =
          kind :: (match condition with
            | .done => 0
            | .notFound => 1
            | .busy => 2
            | .refused => 3) :: data)
    ∧ ∀ (values : List Counter) (p : List Byte), p = (Body.counters values).payload →
        p.length = 4 * values.length
          ∧ ∀ i v, values[i]? = some v → ((p.drop (4 * i)).take 4).foldl (fun n b => 256 * n + b.toNat) 0 = v.toNat

/-- R167, R168, R171, R173, R205: the bits of a telegram this node sends, each byte framed, followed by a confirm slot whose
confirm bit is at either level and whose delimiter is recessive, read by a node on an idle line, are the command of the
telegram's class with its urgency, its sender, its destination, its payload, its check value and its confirm bit, and so are the bits of a QUERY; with another
check value, or with a dominant delimiter, they are a receive error. That the line is read into commands so is the model's
inference (notes/assumptions/33.md), and that the upper bits of a QUERY's key bytes are ignored its choice
(notes/assumptions/43.md). -/
def Obligations.LineTelegramReadBack : Prop :=
  ∀ (time address : Nat) (t : Telegram) (rx : Rx) (c : Bool) (line : List Bool), address < 64 → t.destination < 64 →
    rx = { urgency := BitVec.ofNat 3 t.body.urgency, sender := BitVec.ofNat 6 address,
           destination := BitVec.ofNat 8 t.destination, time := time,
           check := checkValue ([t.body.classCode, BitVec.ofNat 8 t.destination, BitVec.ofNat 8 t.body.payload.length]
             ++ t.body.payload),
           confirmed := c } →
    line = (t.bytes address).flatMap frameByte ++ [c, false, false] →
    (c = false → t.levels address = line)
    ∧ (∀ f, t.body = .handoff f → f.tags.length ≤ 2 → decodeLine time line = some (.handoff rx (handoffPayload f)))
    ∧ (∀ f, t.body = .lost f → f.tags.length ≤ 2 → decodeLine time line = some (.lost rx (lostPayload f)))
    ∧ (∀ f, t.body = .misplaced f → decodeLine time line = some (.misplaced rx (misplacedPayload f)))
    ∧ (∀ n tags, t.body = .strayCall n tags → tags.length ≤ 2 →
        decodeLine time line = some (.strayCall rx (strayCallPayload n tags)))
    ∧ (∀ n f, t.body = .claim n f → decodeLine time line = some (.claim rx (claimPayload n f)))
    ∧ (∀ f, t.body = .delivered f → decodeLine time line = some (.delivered rx (deliveredPayload f)))
    ∧ (∀ d summary reading, t.body = .outletState d summary reading →
        decodeLine time line = some (.outletState rx (outletStatePayload d summary reading)))
    ∧ (∀ kind condition data, t.body = .reply kind condition data → data.length ≤ 30 →
        decodeLine time line =
          some (.telegramDiscarded 0x51 rx (kind :: BitVec.ofNat 8 (conditionCode condition) :: data)))
    ∧ (∀ values, t.body = .counters values → 1 ≤ values.length → values.length ≤ 8 →
        decodeLine time line = some (.telegramDiscarded 0x51 rx (values.flatMap bytes4)))
    ∧ (∀ f, t.body = .hello f → decodeLine time line = some (.hello rx (helloPayload f)))
    ∧ (∀ (hi lo : Byte) (wrong : List Bool), t.body.payload.length ≤ 32 →
        hi ++ lo ≠ checkValue ([t.body.classCode, BitVec.ofNat 8 t.destination, BitVec.ofNat 8 t.body.payload.length]
          ++ t.body.payload) →
        wrong = ((t.bytes address).take ((t.bytes address).length - 2) ++ [hi, lo]).flatMap frameByte →
        decodeLine time wrong = some (.receiveError wrong))
    ∧ (∀ marked, t.body.payload.length ≤ 32 →
        marked = (t.bytes address).flatMap frameByte ++ [c, true]
          ∨ marked = (t.bytes address).flatMap frameByte ++ [c, false, true] →
        decodeLine time marked = some (.receiveError marked))
    ∧ ∀ (kind : Byte) (a : BitVec 40) (urgency sender : Byte) (check : BitVec 16) (bits : List Bool),
        bits = ([urgency, sender, 0x50, BitVec.ofNat 8 t.destination, 6] ++ (kind :: argumentBytes a)
          ++ bytes2 check.toNat).flatMap frameByte →
        (check = checkValue ([0x50, BitVec.ofNat 8 t.destination, 6] ++ (kind :: argumentBytes a)) →
          decodeLine time (bits ++ [c, false, false]) = some (decodeQuery
            ⟨urgency.setWidth 3, sender.setWidth 6, BitVec.ofNat 8 t.destination, time, check, c⟩ kind a))
        ∧ (check ≠ checkValue ([0x50, BitVec.ofNat 8 t.destination, 6] ++ (kind :: argumentBytes a)) →
          decodeLine time bits = some (.receiveError bits))
end

