-- ==== Sys2Proof/Laws/LineBits.lean ====
section
/-! SUPPORT. What reading the hall line can do: bits one run after another, a framed byte, and what a bit keeps of the
reader's form. -/

namespace Sys2Proof.Machine

/-- Samples that bring no event, and those after them. -/
theorem hear_append {σ ε : Type} {sample : Bool → σ → σ × Option ε} {tells row : ε → Bool} {xs ys : List Bool} {f g : σ}
    (h : hear sample tells row xs f = some (g, none)) :
    hear sample tells row (xs ++ ys) f = hear sample tells row ys g := by
  induction xs generalizing f with
  | nil => simp only [hear, Option.some.injEq, Prod.mk.injEq, and_true] at h; simp [h]
  | cons b bs ih =>
    rw [List.cons_append, hear.eq_2] at *
    cases he : (sample b f).2 with
    | none => rw [he] at h; exact ih h
    | some e =>
      simp only [he] at h ⊢
      by_cases ht : tells e = true
      · simp only [ht, if_true] at h; split at h <;> simp at h
      · rw [if_neg ht] at h ⊢; exact ih h

/-- Where no bit brings an event, the samples come to none. -/
theorem hear_cons_none {σ ε : Type} {sample : Bool → σ → σ × Option ε} {tells row : ε → Bool} {b : Bool} {bs : List Bool}
    {f g : σ} (h : sample b f = (g, none)) :
    hear sample tells row (b :: bs) f = hear sample tells row bs g := by
  rw [hear, h]

/-- Off a chance to start, the bits of a command are read as they come. -/
theorem State.hearHall_of_not_idle {s : State} {row : HallEvent → Bool} {line : List Bool} (h : s.hlc.watch.idle = false) :
    s.hearHall row line = hear LineWatch.sample s.tellsHall row line s.hlc.watch := by
  simp [State.hearHall, State.chance, h]

/-- R167: the data bits of a byte spell it. -/
theorem dataByte_bits (b : Byte) : dataByte ([7, 6, 5, 4, 3, 2, 1, 0].map fun i => !b.getLsbD i) = b := by
  revert b; decide +kernel

/-- R167, R171: a framed byte is read as its byte, with the check that its last bit brings. -/
theorem hear_frameByte {tells row : HallEvent → Bool} {bytes : List Byte} {b : Byte} {rest : List Bool}
    (h : wholeTelegram bytes = false) (hb : byteEnd (bytes ++ [b]) = (.receiving (bytes ++ [b]) [], none)) :
    hear LineWatch.sample tells row (frameByte b ++ rest) (.receiving bytes []) =
      hear LineWatch.sample tells row rest (.receiving (bytes ++ [b]) []) := by
  have hd := dataByte_bits b
  simp only [List.map_cons, List.map_nil] at hd
  simp only [frameByte, List.map_cons, List.map_nil, List.cons_append, List.nil_append, hear, LineWatch.sample, h, byteBit,
    List.isEmpty_nil, List.isEmpty_cons, List.length_cons, List.length_nil, List.drop_succ_cons, List.drop_zero, if_true,
    Bool.false_eq_true, if_false, Nat.reduceAdd, Nat.reduceLT, hd, hb]

/-- R169: the recessive bits after a dominant one are counted from it on, whatever stands before. -/
theorem recessiveRun_append_dominant (xs ys : List Bool) : recessiveRun (xs ++ true :: ys) = recessiveRun (true :: ys) := by
  simp only [recessiveRun, List.reverse_append, List.reverse_cons, List.append_assoc]
  by_cases h : ∀ y ∈ ys.reverse, (!y) = true
  · rw [List.takeWhile_append_of_pos h, List.takeWhile_append_of_pos h]; simp
  · have hl : (ys.reverse.takeWhile fun b => !b).length ≠ ys.reverse.length := fun he =>
      h fun y hy => List.mem_takeWhile_imp ((List.takeWhile_prefix (l := ys.reverse) fun b => !b).eq_of_length he ▸ hy)
    simp only [List.takeWhile_append, if_neg hl]

/-- R169: the reader's form after a telegram. -/
theorem lineAfter_ok (read : List Bool) : (lineAfter read).ok :=
  Nat.lt_of_le_of_lt (Nat.min_le_left _ _) (by decide)

/-- R169: a dominant bit ends every run of recessive ones. -/
@[simp] theorem lineAfter_append_dominant (read : List Bool) : lineAfter (read ++ [true]) = .between false 0 := by
  simp [lineAfter, recessiveRun]

/-- R167, R169: the end of a telegram that its last byte, its confirm bit and its delimiter give is the end its bits give. -/
theorem lineAfter_readSoFar (bytes : List Byte) (check : BitVec 16) (confirmed : Bool) :
    lineAfter (readSoFar (bytes ++ [check.setWidth 8]) [confirmed, false, false])
      = lineAfter (telegramEnd check confirmed) := by
  simp only [lineAfter, readSoFar, telegramEnd, List.flatMap_append, List.flatMap_cons, List.flatMap_nil, List.append_nil,
    List.append_assoc, frameByte, List.cons_append, recessiveRun_append_dominant]

/-- R167, R169, R170: a bit keeps the form of what has been read. -/
theorem LineWatch.sample_ok {b : Bool} {w : LineWatch} (h : w.ok) : (w.sample b).1.ok := by
  match w with
  | .between idle run =>
    simp only [LineWatch.sample, betweenBit]
    split
    · split
      · exact ⟨by decide, by simp, by decide⟩
      · show 0 < 12; decide
    · split
      · assumption
      · show 0 < 12; decide
  | .receiving bytes bits =>
    obtain ⟨hbits, hbytes, hslot⟩ := h
    simp only [LineWatch.sample]
    split
    · rename_i hw
      have hl := hslot hw
      simp only [slotBit]
      split
      · exact ⟨by simp, hbytes, fun _ => by simp⟩
      · split
        · exact lineAfter_ok _
        · split
          · exact ⟨by simp; omega, hbytes, fun _ => by simp; omega⟩
          · exact lineAfter_ok _
    · rename_i hw
      simp only [byteBit]
      split
      · split
        · exact ⟨by simp, hbytes, fun hx => absurd hx hw⟩
        · exact lineAfter_ok _
      · split
        · exact ⟨by simp; omega, hbytes, fun hx => absurd hx hw⟩
        · split
          · exact lineAfter_ok _
          · simp only [byteEnd]
            split
            · exact lineAfter_ok _
            · rename_i hlen
              split
              · exact lineAfter_ok _
              · refine ⟨by simp, fun h5 => ?_, fun _ => by simp⟩
                rw [List.length_append, List.length_singleton] at h5 hlen ⊢
                by_cases h4 : bytes.length = 4
                · have : ¬ Config.maxPayload < ((bytes ++ [dataByte (bits.drop 1)]).getD 4 0).toNat :=
                    fun hx => hlen ⟨by omega, hx⟩
                  simp only [Config.maxPayload] at this
                  omega
                · have hg : (bytes ++ [dataByte (bits.drop 1)]).getD 4 0 = bytes.getD 4 0 := by
                    simp only [List.getD_eq_getElem?_getD]
                    rw [List.getElem?_append_left (by omega)]
                  have hn := hbytes (by omega)
                  have hw' : bytes.length ≠ 7 + (bytes.getD 4 0).toNat := fun hx => hw (decide_eq_true hx)
                  rw [hg]
                  omega
  | .attempting read left =>
    cases left with
    | nil => exact absurd rfl h
    | cons x rest =>
      simp only [LineWatch.sample, attemptBit]
      split
      · exact lineAfter_ok _
      · rename_i hr
        have hr : rest ≠ [] := by simpa using hr
        split
        · exact hr
        · split
          · exact lineAfter_ok _
          · split
            · rename_i hk
              have hk := hk.2
              simp only [keyDataBit, decide_eq_true_eq] at hk
              simp only [receiveFrom]
              have hl : (read ++ [b]).length = read.length + 1 := by simp
              split
              · exact ⟨by omega, by simp, by simp [wholeTelegram]⟩
              · exact ⟨by rw [List.length_drop]; omega, by simp, by simp [wholeTelegram]⟩
            · exact hr

/-- R170, R172: an attempt goes on at every bit but the one that ends it, and no bit begins one or ends what is none. -/
theorem LineWatch.sample_attempting {b : Bool} {w : LineWatch} (h : w.ok) :
    ((∃ read left, (w.sample b).1 = .attempting read left)
        ↔ (∃ read left, w = .attempting read left) ∧ ∀ r, (w.sample b).2 ≠ some (.ended r))
      ∧ ∀ r, (w.sample b).2 = some (.ended r) → ∃ read left, w = .attempting read left := by
  match w with
  | .between idle run =>
    simp only [LineWatch.sample, betweenBit]
    repeat' split
    all_goals simp
  | .receiving bytes bits =>
    simp only [LineWatch.sample, slotBit, byteBit, byteEnd, faultAt, lineAfter]
    repeat' split
    all_goals simp
  | .attempting read left =>
    cases left with
    | nil => exact absurd rfl h
    | cons x rest =>
      simp only [LineWatch.sample, attemptBit, slotEnd, receiveFrom, lineAfter]
      repeat' split
      all_goals simp

end Sys2Proof.Machine
end

