-- ==== Sys2Proof/Laws/State.lean ====
section
/-! SUPPORT. One lemma per field per update of one block, each true by rfl: later proofs read a field of an updated state
without unfolding the update. -/

namespace Sys2Proof.Machine

/-! ## `State.onInputs` and the samplers -/

section
variable (s : State) (f : InputFilters → InputFilters)

@[simp] theorem State.onInputs_pending : (s.onInputs f).pending = s.pending := rfl
@[simp] theorem State.onInputs_config : (s.onInputs f).config = s.config := rfl
@[simp] theorem State.onInputs_inputs : (s.onInputs f).inputs = f s.inputs := rfl
@[simp] theorem State.onInputs_st : (s.onInputs f).st = s.st := rfl
@[simp] theorem State.onInputs_trp : (s.onInputs f).trp = s.trp := rfl
@[simp] theorem State.onInputs_ms : (s.onInputs f).ms = s.ms := rfl
@[simp] theorem State.onInputs_dc : (s.onInputs f).dc = s.dc := rfl
@[simp] theorem State.onInputs_om : (s.onInputs f).om = s.om := rfl
@[simp] theorem State.onInputs_su : (s.onInputs f).su = s.su := rfl
@[simp] theorem State.onInputs_hlc : (s.onInputs f).hlc = s.hlc := rfl
@[simp] theorem State.onInputs_nc : (s.onInputs f).nc = s.nc := rfl

end

section
variable (s : State) (k : OutletNo) (f : InputFilter) (r : Receiver) (m : Measurement)

@[simp] theorem State.putInduction_pending : (State.putInduction f s).pending = s.pending := rfl
@[simp] theorem State.putInduction_config : (State.putInduction f s).config = s.config := rfl
@[simp] theorem State.putInduction_inputs : (State.putInduction f s).inputs = { s.inputs with induction := f } := rfl
@[simp] theorem State.putInduction_st : (State.putInduction f s).st = s.st := rfl
@[simp] theorem State.putInduction_trp : (State.putInduction f s).trp = s.trp := rfl
@[simp] theorem State.putInduction_ms : (State.putInduction f s).ms = s.ms := rfl
@[simp] theorem State.putInduction_dc : (State.putInduction f s).dc = s.dc := rfl
@[simp] theorem State.putInduction_om : (State.putInduction f s).om = s.om := rfl
@[simp] theorem State.putInduction_su : (State.putInduction f s).su = s.su := rfl
@[simp] theorem State.putInduction_hlc : (State.putInduction f s).hlc = s.hlc := rfl
@[simp] theorem State.putInduction_nc : (State.putInduction f s).nc = s.nc := rfl
@[simp] theorem State.putHandoff_pending : (State.putHandoff f s).pending = s.pending := rfl
@[simp] theorem State.putHandoff_config : (State.putHandoff f s).config = s.config := rfl
@[simp] theorem State.putHandoff_inputs : (State.putHandoff f s).inputs = { s.inputs with handoff := f } := rfl
@[simp] theorem State.putHandoff_st : (State.putHandoff f s).st = s.st := rfl
@[simp] theorem State.putHandoff_trp : (State.putHandoff f s).trp = s.trp := rfl
@[simp] theorem State.putHandoff_ms : (State.putHandoff f s).ms = s.ms := rfl
@[simp] theorem State.putHandoff_dc : (State.putHandoff f s).dc = s.dc := rfl
@[simp] theorem State.putHandoff_om : (State.putHandoff f s).om = s.om := rfl
@[simp] theorem State.putHandoff_su : (State.putHandoff f s).su = s.su := rfl
@[simp] theorem State.putHandoff_hlc : (State.putHandoff f s).hlc = s.hlc := rfl
@[simp] theorem State.putHandoff_nc : (State.putHandoff f s).nc = s.nc := rfl
@[simp] theorem State.putExit_pending : (State.putExit k f s).pending = s.pending := rfl
@[simp] theorem State.putExit_config : (State.putExit k f s).config = s.config := rfl
@[simp] theorem State.putExit_inputs :
    (State.putExit k f s).inputs = { s.inputs with exits := s.inputs.exits.set k f } := rfl
@[simp] theorem State.putExit_st : (State.putExit k f s).st = s.st := rfl
@[simp] theorem State.putExit_trp : (State.putExit k f s).trp = s.trp := rfl
@[simp] theorem State.putExit_ms : (State.putExit k f s).ms = s.ms := rfl
@[simp] theorem State.putExit_dc : (State.putExit k f s).dc = s.dc := rfl
@[simp] theorem State.putExit_om : (State.putExit k f s).om = s.om := rfl
@[simp] theorem State.putExit_su : (State.putExit k f s).su = s.su := rfl
@[simp] theorem State.putExit_hlc : (State.putExit k f s).hlc = s.hlc := rfl
@[simp] theorem State.putExit_nc : (State.putExit k f s).nc = s.nc := rfl
@[simp] theorem State.putFault_pending : (State.putFault k f s).pending = s.pending := rfl
@[simp] theorem State.putFault_config : (State.putFault k f s).config = s.config := rfl
@[simp] theorem State.putFault_inputs :
    (State.putFault k f s).inputs = { s.inputs with faults := s.inputs.faults.set k f } := rfl
@[simp] theorem State.putFault_st : (State.putFault k f s).st = s.st := rfl
@[simp] theorem State.putFault_trp : (State.putFault k f s).trp = s.trp := rfl
@[simp] theorem State.putFault_ms : (State.putFault k f s).ms = s.ms := rfl
@[simp] theorem State.putFault_dc : (State.putFault k f s).dc = s.dc := rfl
@[simp] theorem State.putFault_om : (State.putFault k f s).om = s.om := rfl
@[simp] theorem State.putFault_su : (State.putFault k f s).su = s.su := rfl
@[simp] theorem State.putFault_hlc : (State.putFault k f s).hlc = s.hlc := rfl
@[simp] theorem State.putFault_nc : (State.putFault k f s).nc = s.nc := rfl
@[simp] theorem State.putReceiver_pending : (State.putReceiver r s).pending = s.pending := rfl
@[simp] theorem State.putReceiver_config : (State.putReceiver r s).config = s.config := rfl
@[simp] theorem State.putReceiver_inputs : (State.putReceiver r s).inputs = s.inputs := rfl
@[simp] theorem State.putReceiver_st : (State.putReceiver r s).st = s.st := rfl
@[simp] theorem State.putReceiver_trp : (State.putReceiver r s).trp = { s.trp with receiver := r } := rfl
@[simp] theorem State.putReceiver_ms : (State.putReceiver r s).ms = s.ms := rfl
@[simp] theorem State.putReceiver_dc : (State.putReceiver r s).dc = s.dc := rfl
@[simp] theorem State.putReceiver_om : (State.putReceiver r s).om = s.om := rfl
@[simp] theorem State.putReceiver_su : (State.putReceiver r s).su = s.su := rfl
@[simp] theorem State.putReceiver_hlc : (State.putReceiver r s).hlc = s.hlc := rfl
@[simp] theorem State.putReceiver_nc : (State.putReceiver r s).nc = s.nc := rfl
@[simp] theorem State.putMeasurement_pending : (State.putMeasurement m s).pending = s.pending := rfl
@[simp] theorem State.putMeasurement_config : (State.putMeasurement m s).config = s.config := rfl
@[simp] theorem State.putMeasurement_inputs : (State.putMeasurement m s).inputs = s.inputs := rfl
@[simp] theorem State.putMeasurement_st : (State.putMeasurement m s).st = s.st := rfl
@[simp] theorem State.putMeasurement_trp : (State.putMeasurement m s).trp = { s.trp with measurement := m } := rfl
@[simp] theorem State.putMeasurement_ms : (State.putMeasurement m s).ms = s.ms := rfl
@[simp] theorem State.putMeasurement_dc : (State.putMeasurement m s).dc = s.dc := rfl
@[simp] theorem State.putMeasurement_om : (State.putMeasurement m s).om = s.om := rfl
@[simp] theorem State.putMeasurement_su : (State.putMeasurement m s).su = s.su := rfl
@[simp] theorem State.putMeasurement_hlc : (State.putMeasurement m s).hlc = s.hlc := rfl
@[simp] theorem State.putMeasurement_nc : (State.putMeasurement m s).nc = s.nc := rfl

end

/-! ## `State.putWatch` -/

section
variable (s : State) (w : LineWatch)

@[simp] theorem State.putWatch_pending : (State.putWatch w s).pending = s.pending := rfl
@[simp] theorem State.putWatch_config : (State.putWatch w s).config = s.config := rfl
@[simp] theorem State.putWatch_inputs : (State.putWatch w s).inputs = s.inputs := rfl
@[simp] theorem State.putWatch_st : (State.putWatch w s).st = s.st := rfl
@[simp] theorem State.putWatch_trp : (State.putWatch w s).trp = s.trp := rfl
@[simp] theorem State.putWatch_ms : (State.putWatch w s).ms = s.ms := rfl
@[simp] theorem State.putWatch_dc : (State.putWatch w s).dc = s.dc := rfl
@[simp] theorem State.putWatch_om : (State.putWatch w s).om = s.om := rfl
@[simp] theorem State.putWatch_su : (State.putWatch w s).su = s.su := rfl
@[simp] theorem State.putWatch_hlc : (State.putWatch w s).hlc = { s.hlc with watch := w } := rfl
@[simp] theorem State.putWatch_nc : (State.putWatch w s).nc = s.nc := rfl

end

/-! ## `State.onSt` -/

section
variable (s : State) (f : SectionTracker → SectionTracker)

@[simp] theorem State.onSt_pending : (s.onSt f).pending = s.pending := rfl
@[simp] theorem State.onSt_config : (s.onSt f).config = s.config := rfl
@[simp] theorem State.onSt_inputs : (s.onSt f).inputs = s.inputs := rfl
@[simp] theorem State.onSt_st : (s.onSt f).st = f s.st := rfl
@[simp] theorem State.onSt_trp : (s.onSt f).trp = s.trp := rfl
@[simp] theorem State.onSt_ms : (s.onSt f).ms = s.ms := rfl
@[simp] theorem State.onSt_dc : (s.onSt f).dc = s.dc := rfl
@[simp] theorem State.onSt_om : (s.onSt f).om = s.om := rfl
@[simp] theorem State.onSt_su : (s.onSt f).su = s.su := rfl
@[simp] theorem State.onSt_hlc : (s.onSt f).hlc = s.hlc := rfl
@[simp] theorem State.onSt_nc : (s.onSt f).nc = s.nc := rfl

end

/-! ## `State.onTrp` -/

section
variable (s : State) (f : TagReadPort → TagReadPort)

@[simp] theorem State.onTrp_pending : (s.onTrp f).pending = s.pending := rfl
@[simp] theorem State.onTrp_config : (s.onTrp f).config = s.config := rfl
@[simp] theorem State.onTrp_inputs : (s.onTrp f).inputs = s.inputs := rfl
@[simp] theorem State.onTrp_st : (s.onTrp f).st = s.st := rfl
@[simp] theorem State.onTrp_trp : (s.onTrp f).trp = f s.trp := rfl
@[simp] theorem State.onTrp_ms : (s.onTrp f).ms = s.ms := rfl
@[simp] theorem State.onTrp_dc : (s.onTrp f).dc = s.dc := rfl
@[simp] theorem State.onTrp_om : (s.onTrp f).om = s.om := rfl
@[simp] theorem State.onTrp_su : (s.onTrp f).su = s.su := rfl
@[simp] theorem State.onTrp_hlc : (s.onTrp f).hlc = s.hlc := rfl
@[simp] theorem State.onTrp_nc : (s.onTrp f).nc = s.nc := rfl

end

/-! ## `State.onMs` -/

section
variable (s : State) (f : ManifestStore → ManifestStore)

@[simp] theorem State.onMs_pending : (s.onMs f).pending = s.pending := rfl
@[simp] theorem State.onMs_config : (s.onMs f).config = s.config := rfl
@[simp] theorem State.onMs_inputs : (s.onMs f).inputs = s.inputs := rfl
@[simp] theorem State.onMs_st : (s.onMs f).st = s.st := rfl
@[simp] theorem State.onMs_trp : (s.onMs f).trp = s.trp := rfl
@[simp] theorem State.onMs_ms : (s.onMs f).ms = f s.ms := rfl
@[simp] theorem State.onMs_dc : (s.onMs f).dc = s.dc := rfl
@[simp] theorem State.onMs_om : (s.onMs f).om = s.om := rfl
@[simp] theorem State.onMs_su : (s.onMs f).su = s.su := rfl
@[simp] theorem State.onMs_hlc : (s.onMs f).hlc = s.hlc := rfl
@[simp] theorem State.onMs_nc : (s.onMs f).nc = s.nc := rfl

end

/-! ## `State.onDc` -/

section
variable (s : State) (f : DivertController → DivertController)

@[simp] theorem State.onDc_pending : (s.onDc f).pending = s.pending := rfl
@[simp] theorem State.onDc_config : (s.onDc f).config = s.config := rfl
@[simp] theorem State.onDc_inputs : (s.onDc f).inputs = s.inputs := rfl
@[simp] theorem State.onDc_st : (s.onDc f).st = s.st := rfl
@[simp] theorem State.onDc_trp : (s.onDc f).trp = s.trp := rfl
@[simp] theorem State.onDc_ms : (s.onDc f).ms = s.ms := rfl
@[simp] theorem State.onDc_dc : (s.onDc f).dc = f s.dc := rfl
@[simp] theorem State.onDc_om : (s.onDc f).om = s.om := rfl
@[simp] theorem State.onDc_su : (s.onDc f).su = s.su := rfl
@[simp] theorem State.onDc_hlc : (s.onDc f).hlc = s.hlc := rfl
@[simp] theorem State.onDc_nc : (s.onDc f).nc = s.nc := rfl

end

/-! ## `State.onOm` -/

section
variable (s : State) (f : OutletMonitor → OutletMonitor)

@[simp] theorem State.onOm_pending : (s.onOm f).pending = s.pending := rfl
@[simp] theorem State.onOm_config : (s.onOm f).config = s.config := rfl
@[simp] theorem State.onOm_inputs : (s.onOm f).inputs = s.inputs := rfl
@[simp] theorem State.onOm_st : (s.onOm f).st = s.st := rfl
@[simp] theorem State.onOm_trp : (s.onOm f).trp = s.trp := rfl
@[simp] theorem State.onOm_ms : (s.onOm f).ms = s.ms := rfl
@[simp] theorem State.onOm_dc : (s.onOm f).dc = s.dc := rfl
@[simp] theorem State.onOm_om : (s.onOm f).om = f s.om := rfl
@[simp] theorem State.onOm_su : (s.onOm f).su = s.su := rfl
@[simp] theorem State.onOm_hlc : (s.onOm f).hlc = s.hlc := rfl
@[simp] theorem State.onOm_nc : (s.onOm f).nc = s.nc := rfl

end

/-! ## `State.onSu` -/

section
variable (s : State) (f : StrayUnit → StrayUnit)

@[simp] theorem State.onSu_pending : (s.onSu f).pending = s.pending := rfl
@[simp] theorem State.onSu_config : (s.onSu f).config = s.config := rfl
@[simp] theorem State.onSu_inputs : (s.onSu f).inputs = s.inputs := rfl
@[simp] theorem State.onSu_st : (s.onSu f).st = s.st := rfl
@[simp] theorem State.onSu_trp : (s.onSu f).trp = s.trp := rfl
@[simp] theorem State.onSu_ms : (s.onSu f).ms = s.ms := rfl
@[simp] theorem State.onSu_dc : (s.onSu f).dc = s.dc := rfl
@[simp] theorem State.onSu_om : (s.onSu f).om = s.om := rfl
@[simp] theorem State.onSu_su : (s.onSu f).su = f s.su := rfl
@[simp] theorem State.onSu_hlc : (s.onSu f).hlc = s.hlc := rfl
@[simp] theorem State.onSu_nc : (s.onSu f).nc = s.nc := rfl

end

/-! ## `State.onHlc` -/

section
variable (s : State) (f : HallLine → HallLine)

@[simp] theorem State.onHlc_pending : (s.onHlc f).pending = s.pending := rfl
@[simp] theorem State.onHlc_config : (s.onHlc f).config = s.config := rfl
@[simp] theorem State.onHlc_inputs : (s.onHlc f).inputs = s.inputs := rfl
@[simp] theorem State.onHlc_st : (s.onHlc f).st = s.st := rfl
@[simp] theorem State.onHlc_trp : (s.onHlc f).trp = s.trp := rfl
@[simp] theorem State.onHlc_ms : (s.onHlc f).ms = s.ms := rfl
@[simp] theorem State.onHlc_dc : (s.onHlc f).dc = s.dc := rfl
@[simp] theorem State.onHlc_om : (s.onHlc f).om = s.om := rfl
@[simp] theorem State.onHlc_su : (s.onHlc f).su = s.su := rfl
@[simp] theorem State.onHlc_hlc : (s.onHlc f).hlc = f s.hlc := rfl
@[simp] theorem State.onHlc_nc : (s.onHlc f).nc = s.nc := rfl

end

/-! ## `State.onNc` -/

section
variable (s : State) (f : NodeControl → NodeControl)

@[simp] theorem State.onNc_pending : (s.onNc f).pending = s.pending := rfl
@[simp] theorem State.onNc_config : (s.onNc f).config = s.config := rfl
@[simp] theorem State.onNc_inputs : (s.onNc f).inputs = s.inputs := rfl
@[simp] theorem State.onNc_st : (s.onNc f).st = s.st := rfl
@[simp] theorem State.onNc_trp : (s.onNc f).trp = s.trp := rfl
@[simp] theorem State.onNc_ms : (s.onNc f).ms = s.ms := rfl
@[simp] theorem State.onNc_dc : (s.onNc f).dc = s.dc := rfl
@[simp] theorem State.onNc_om : (s.onNc f).om = s.om := rfl
@[simp] theorem State.onNc_su : (s.onNc f).su = s.su := rfl
@[simp] theorem State.onNc_hlc : (s.onNc f).hlc = s.hlc := rfl
@[simp] theorem State.onNc_nc : (s.onNc f).nc = f s.nc := rfl

end

/-! ## Queueing a telegram -/

section
variable (s : State) (d : Nat) (b : Body)

@[simp] theorem State.send_pending : (s.send d b).pending = s.pending := rfl
@[simp] theorem State.send_config : (s.send d b).config = s.config := rfl
@[simp] theorem State.send_inputs : (s.send d b).inputs = s.inputs := rfl
@[simp] theorem State.send_st : (s.send d b).st = s.st := rfl
@[simp] theorem State.send_trp : (s.send d b).trp = s.trp := rfl
@[simp] theorem State.send_ms : (s.send d b).ms = s.ms := rfl
@[simp] theorem State.send_dc : (s.send d b).dc = s.dc := rfl
@[simp] theorem State.send_om : (s.send d b).om = s.om := rfl
@[simp] theorem State.send_su : (s.send d b).su = s.su := rfl
@[simp] theorem State.send_hlc : (s.send d b).hlc = s.hlc.enqueue ⟨d, b⟩ := rfl
@[simp] theorem State.send_nc : (s.send d b).nc = s.nc := rfl

end

/-! ## `SectionTracker.tally` -/

section
variable (x : SectionTracker) (f : StCounters → StCounters)

@[simp] theorem SectionTracker.tally_encoderCount : (x.tally f).encoderCount = x.encoderCount := rfl
@[simp] theorem SectionTracker.tally_windowCount : (x.tally f).windowCount = x.windowCount := rfl
@[simp] theorem SectionTracker.tally_speed : (x.tally f).speed = x.speed := rfl
@[simp] theorem SectionTracker.tally_overrange : (x.tally f).overrange = x.overrange := rfl
@[simp] theorem SectionTracker.tally_records : (x.tally f).records = x.records := rfl
@[simp] theorem SectionTracker.tally_expectations : (x.tally f).expectations = x.expectations := rfl
@[simp] theorem SectionTracker.tally_passage : (x.tally f).passage = x.passage := rfl
@[simp] theorem SectionTracker.tally_nextNumber : (x.tally f).nextNumber = x.nextNumber := rfl
@[simp] theorem SectionTracker.tally_feedHold : (x.tally f).feedHold = x.feedHold := rfl
@[simp] theorem SectionTracker.tally_counters : (x.tally f).counters = f x.counters := rfl

end

/-! ## `TagReadPort.tally` -/

section
variable (x : TagReadPort) (f : TrpCounters → TrpCounters)

@[simp] theorem TagReadPort.tally_rateState : (x.tally f).rateState = x.rateState := rfl
@[simp] theorem TagReadPort.tally_divider : (x.tally f).divider = x.divider := rfl
@[simp] theorem TagReadPort.tally_rateOverflow : (x.tally f).rateOverflow = x.rateOverflow := rfl
@[simp] theorem TagReadPort.tally_measurement : (x.tally f).measurement = x.measurement := rfl
@[simp] theorem TagReadPort.tally_receiver : (x.tally f).receiver = x.receiver := rfl
@[simp] theorem TagReadPort.tally_framingRun : (x.tally f).framingRun = x.framingRun := rfl
@[simp] theorem TagReadPort.tally_assembly : (x.tally f).assembly = x.assembly := rfl
@[simp] theorem TagReadPort.tally_windows : (x.tally f).windows = x.windows := rfl
@[simp] theorem TagReadPort.tally_counters : (x.tally f).counters = f x.counters := rfl

end

/-! ## `ManifestStore.tally` -/

section
variable (x : ManifestStore) (f : MsCounters → MsCounters)

@[simp] theorem ManifestStore.tally_table : (x.tally f).table = x.table := rfl
@[simp] theorem ManifestStore.tally_cabins : (x.tally f).cabins = x.cabins := rfl
@[simp] theorem ManifestStore.tally_map : (x.tally f).map = x.map := rfl
@[simp] theorem ManifestStore.tally_purgePending : (x.tally f).purgePending = x.purgePending := rfl
@[simp] theorem ManifestStore.tally_retentionLost : (x.tally f).retentionLost = x.retentionLost := rfl
@[simp] theorem ManifestStore.tally_lowMark : (x.tally f).lowMark = x.lowMark := rfl
@[simp] theorem ManifestStore.tally_sweep : (x.tally f).sweep = x.sweep := rfl
@[simp] theorem ManifestStore.tally_purgeRunning : (x.tally f).purgeRunning = x.purgeRunning := rfl
@[simp] theorem ManifestStore.tally_hold : (x.tally f).hold = x.hold := rfl
@[simp] theorem ManifestStore.tally_counters : (x.tally f).counters = f x.counters := rfl

end

/-! ## `DivertController.tally` -/

section
variable (x : DivertController) (f : DcCounters → DcCounters)

@[simp] theorem DivertController.tally_commitments : (x.tally f).commitments = x.commitments := rfl
@[simp] theorem DivertController.tally_armPoints : (x.tally f).armPoints = x.armPoints := rfl
@[simp] theorem DivertController.tally_strokes : (x.tally f).strokes = x.strokes := rfl
@[simp] theorem DivertController.tally_counters : (x.tally f).counters = f x.counters := rfl

end

/-! ## `OutletMonitor.tally` -/

section
variable (x : OutletMonitor) (f : OmCounters → OmCounters)

@[simp] theorem OutletMonitor.tally_outlets : (x.tally f).outlets = x.outlets := rfl
@[simp] theorem OutletMonitor.tally_pass : (x.tally f).pass = x.pass := rfl
@[simp] theorem OutletMonitor.tally_paceTimer : (x.tally f).paceTimer = x.paceTimer := rfl
@[simp] theorem OutletMonitor.tally_closed : (x.tally f).closed = x.closed := rfl
@[simp] theorem OutletMonitor.tally_refreshTimer : (x.tally f).refreshTimer = x.refreshTimer := rfl
@[simp] theorem OutletMonitor.tally_view : (x.tally f).view = x.view := rfl
@[simp] theorem OutletMonitor.tally_counters : (x.tally f).counters = f x.counters := rfl

end

/-! ## `StrayUnit.tally` -/

section
variable (x : StrayUnit) (f : SuCounters → SuCounters)

@[simp] theorem StrayUnit.tally_ring : (x.tally f).ring = x.ring := rfl
@[simp] theorem StrayUnit.tally_nextSequence : (x.tally f).nextSequence = x.nextSequence := rfl
@[simp] theorem StrayUnit.tally_timers : (x.tally f).timers = x.timers := rfl
@[simp] theorem StrayUnit.tally_counters : (x.tally f).counters = f x.counters := rfl

end

/-! ## `HallLine.tally` -/

section
variable (x : HallLine) (f : HlcCounters → HlcCounters)

@[simp] theorem HallLine.tally_queue : (x.tally f).queue = x.queue := rfl
@[simp] theorem HallLine.tally_score : (x.tally f).score = x.score := rfl
@[simp] theorem HallLine.tally_line : (x.tally f).line = x.line := rfl
@[simp] theorem HallLine.tally_idleGaps : (x.tally f).idleGaps = x.idleGaps := rfl
@[simp] theorem HallLine.tally_drive : (x.tally f).drive = x.drive := rfl
@[simp] theorem HallLine.tally_watch : (x.tally f).watch = x.watch := rfl
@[simp] theorem HallLine.tally_counters : (x.tally f).counters = f x.counters := rfl

end

/-! ## `NodeControl.tally` -/

section
variable (x : NodeControl) (f : NcCounters → NcCounters)

@[simp] theorem NodeControl.tally_powered : (x.tally f).powered = x.powered := rfl
@[simp] theorem NodeControl.tally_state : (x.tally f).state = x.state := rfl
@[simp] theorem NodeControl.tally_faultCode : (x.tally f).faultCode = x.faultCode := rfl
@[simp] theorem NodeControl.tally_joinTimer : (x.tally f).joinTimer = x.joinTimer := rfl
@[simp] theorem NodeControl.tally_logMark : (x.tally f).logMark = x.logMark := rfl
@[simp] theorem NodeControl.tally_mapMark : (x.tally f).mapMark = x.mapMark := rfl
@[simp] theorem NodeControl.tally_counters : (x.tally f).counters = f x.counters := rfl

end

/-! ## The change marks and the telegram taken -/

section
variable (s : State) (rx : Rx)

@[simp] theorem State.markLog_pending : s.markLog.pending = s.pending := rfl
@[simp] theorem State.markLog_config : s.markLog.config = s.config := rfl
@[simp] theorem State.markLog_inputs : s.markLog.inputs = s.inputs := rfl
@[simp] theorem State.markLog_st : s.markLog.st = s.st := rfl
@[simp] theorem State.markLog_trp : s.markLog.trp = s.trp := rfl
@[simp] theorem State.markLog_ms : s.markLog.ms = s.ms := rfl
@[simp] theorem State.markLog_dc : s.markLog.dc = s.dc := rfl
@[simp] theorem State.markLog_om : s.markLog.om = s.om := rfl
@[simp] theorem State.markLog_su : s.markLog.su = s.su := rfl
@[simp] theorem State.markLog_hlc : s.markLog.hlc = s.hlc := rfl
@[simp] theorem State.markMap_pending : s.markMap.pending = s.pending := rfl
@[simp] theorem State.markMap_config : s.markMap.config = s.config := rfl
@[simp] theorem State.markMap_inputs : s.markMap.inputs = s.inputs := rfl
@[simp] theorem State.markMap_st : s.markMap.st = s.st := rfl
@[simp] theorem State.markMap_trp : s.markMap.trp = s.trp := rfl
@[simp] theorem State.markMap_ms : s.markMap.ms = s.ms := rfl
@[simp] theorem State.markMap_dc : s.markMap.dc = s.dc := rfl
@[simp] theorem State.markMap_om : s.markMap.om = s.om := rfl
@[simp] theorem State.markMap_su : s.markMap.su = s.su := rfl
@[simp] theorem State.markMap_hlc : s.markMap.hlc = s.hlc := rfl
@[simp] theorem State.takeTelegram_pending : (s.takeTelegram rx).pending = s.pending := rfl
@[simp] theorem State.takeTelegram_config : (s.takeTelegram rx).config = s.config := rfl
@[simp] theorem State.takeTelegram_inputs : (s.takeTelegram rx).inputs = s.inputs := rfl
@[simp] theorem State.takeTelegram_st : (s.takeTelegram rx).st = s.st := rfl
@[simp] theorem State.takeTelegram_trp : (s.takeTelegram rx).trp = s.trp := rfl
@[simp] theorem State.takeTelegram_ms : (s.takeTelegram rx).ms = s.ms := rfl
@[simp] theorem State.takeTelegram_dc : (s.takeTelegram rx).dc = s.dc := rfl
@[simp] theorem State.takeTelegram_om : (s.takeTelegram rx).om = s.om := rfl
@[simp] theorem State.takeTelegram_su : (s.takeTelegram rx).su = s.su := rfl
@[simp] theorem State.takeTelegram_nc : (s.takeTelegram rx).nc = s.nc := rfl

end

/-! ## One outlet position -/

@[simp] theorem PerOutlet.get_set_self {α : Type} (p : PerOutlet α) (k : OutletNo) (a : α) : (p.set k a).get k = a := by
  cases k <;> rfl

theorem PerOutlet.get_set_other {α : Type} (p : PerOutlet α) {k j : OutletNo} (a : α) (h : j ≠ k) :
    (p.set k a).get j = p.get j := by
  cases k <;> cases j <;> first | rfl | exact absurd rfl h

@[simp] theorem PerOutlet.set_get {α : Type} (p : PerOutlet α) (k : OutletNo) : p.set k (p.get k) = p := by
  cases k <;> rfl

end Sys2Proof.Machine
end

