-- ==== Sys2Proof/Laws/Ops.lean ====
section
/-! SUPPORT. One lemma for each shared operation that says once all it does: the notices, the ending of a record, the
standby test, the reports, the taking of a telegram, rounds and wakes, the re-derivation of an outlet, the send queue, and
the entries of the tag table. -/

namespace Sys2Proof.Machine

/-! ## Samples (R12, R47, R49) -/

@[simp] theorem State.heard_none {σ ε : Type} (s : State) (store : σ → State → State) (act : ε → State → State) :
    s.heard none store act = s := rfl
@[simp] theorem State.heard_quiet {σ ε : Type} (s : State) (f : σ) (store : σ → State → State)
    (act : ε → State → State) : s.heard (some (f, none)) store act = store f s := rfl
@[simp] theorem State.heard_event {σ ε : Type} (s : State) (f : σ) (e : ε) (store : σ → State → State)
    (act : ε → State → State) : s.heard (some (f, some e)) store act = act e (store f s) := rfl

/-- All that a command's samples can come to: nothing, progress of the sampler, or the effect of their event. -/
theorem State.heard_cases {σ ε : Type} (s : State) (r : Option (σ × Option ε)) (store : σ → State → State)
    (act : ε → State → State) :
    (r = none ∧ s.heard r store act = s)
      ∨ (∃ f, r = some (f, none) ∧ s.heard r store act = store f s)
      ∨ ∃ f e, r = some (f, some e) ∧ s.heard r store act = act e (store f s) := by
  rcases r with _ | ⟨f, _ | e⟩
  · exact .inl ⟨rfl, rfl⟩
  · exact .inr (.inl ⟨f, rfl, rfl⟩)
  · exact .inr (.inr ⟨f, e, rfl, rfl⟩)

/-- An event that `hear` gives is one of the command's own. -/
theorem hear_row {σ ε : Type} {sample : Bool → σ → σ × Option ε} {tells row : ε → Bool} {bs : List Bool} {f g : σ}
    {e : ε} (h : hear sample tells row bs f = some (g, some e)) : tells e = true ∧ row e = true := by
  induction bs generalizing f with
  | nil => simp [hear] at h
  | cons b bs ih =>
    unfold hear at h
    split at h
    · exact ih h
    · split at h
      · split at h
        · simp_all
        · cases h
      · exact ih h

/-- What holds of a sampler and is kept by a sample holds wherever a command's samples leave it. -/
theorem hear_keeps {σ ε : Type} {sample : Bool → σ → σ × Option ε} {tells row : ε → Bool} {P : σ → Prop}
    (hP : ∀ b f, P f → P (sample b f).1) {bs : List Bool} {f g : σ} {e : Option ε} (hf : P f)
    (h : hear sample tells row bs f = some (g, e)) : P g := by
  induction bs generalizing f with
  | nil => simp only [hear, Option.some.injEq, Prod.mk.injEq] at h; exact h.1 ▸ hf
  | cons b bs ih =>
    unfold hear at h
    split at h
    · exact ih (hP b f hf) h
    · split at h
      · split at h
        · simp only [Option.some.injEq, Prod.mk.injEq] at h; exact h.1 ▸ hP b f hf
        · cases h
      · exact ih (hP b f hf) h

/-! ## Records and notices -/

theorem SectionTracker.record_number {t : SectionTracker} {n : Count} {r : BagRecord} (h : t.record n = some r) :
    r.number = n := by
  simpa using List.find?_some h

theorem SectionTracker.record_mem {t : SectionTracker} {n : Count} {r : BagRecord} (h : t.record n = some r) :
    r ∈ t.records := List.mem_of_find?_eq_some h

theorem SectionTracker.notice_of_record {t : SectionTracker} {n : Count} {r : BagRecord} (h : t.record n = some r)
    (f : BagRecord → BagRecord) : t.notice n f = t.modify n f := by
  simp only [SectionTracker.notice, h]

theorem SectionTracker.notice_of_none {t : SectionTracker} {n : Count} (h : t.record n = none)
    (f : BagRecord → BagRecord) :
    t.notice n f = t.tally fun c => { c with orphanedNotices := c.orphanedNotices + 1 } := by
  simp only [SectionTracker.notice, h]

theorem State.notice_eq_trackerWith {s : State} {n : Count} {r : BagRecord} (h : s.st.record n = some r)
    (f : BagRecord → BagRecord) : s.st.notice n f = s.trackerWith n f :=
  SectionTracker.notice_of_record h f

@[simp] theorem SectionTracker.remove_record (t : SectionTracker) (n : Count) : (t.remove n).record n = none := by
  simp [SectionTracker.record, SectionTracker.remove]

/-! ## The ending of a record (R39) -/

theorem State.endRecord_st {s : State} {n : Count} (h : s.st.record n = none) :
    (s.endRecord n).st = { s.st with counters := { s.st.counters with
      orphanedNotices := if (s.trp.window n).isSome then s.st.counters.orphanedNotices + 1
        else s.st.counters.orphanedNotices } } := by
  unfold State.endRecord
  cases hw : s.trp.window n <;>
    simp [State.closeWindowByTags, State.closeWindow, SectionTracker.notice, h, SectionTracker.tally, State.onSt]

theorem State.endRecord_trp (s : State) (n : Count) :
    (s.endRecord n).trp = { s.trp with windows := s.trp.windows.filter fun w => w.record != n } := by
  unfold State.endRecord
  cases hw : s.trp.window n with
  | some w => simp [State.closeWindowByTags, State.closeWindow]
  | none =>
    have : s.trp.windows.filter (fun w => w.record != n) = s.trp.windows := by
      rw [List.filter_eq_self]
      intro w hm
      simpa using List.find?_eq_none.mp hw w hm
    simp [this]

theorem State.endRecord_dc (s : State) (n : Count) : (s.endRecord n).dc = s.dc.forget n := by
  unfold State.endRecord
  cases s.trp.window n <;> rfl

theorem State.endRecord_frame (s : State) (n : Count) :
    (s.endRecord n).ms = s.ms ∧ (s.endRecord n).om = s.om ∧ (s.endRecord n).su = s.su ∧ (s.endRecord n).hlc = s.hlc
      ∧ (s.endRecord n).nc = s.nc ∧ (s.endRecord n).config = s.config ∧ (s.endRecord n).inputs = s.inputs
      ∧ (s.endRecord n).pending = s.pending := by
  unfold State.endRecord
  cases s.trp.window n <;> exact ⟨rfl, rfl, rfl, rfl, rfl, rfl, rfl, rfl⟩

/-! ## The standby test (R193) -/

theorem State.standbyTest_of_ne {s : State} (h : s.nc.state ≠ .standbyPending) : s.standbyTest = s := by
  simp [State.standbyTest, h]

theorem State.standbyTest_cases (s : State) :
    s.standbyTest = s
      ∨ (s.nc.state = .standbyPending ∧ s.quiet = true ∧ s.standbyTest = s.enterStandby) := by
  unfold State.standbyTest
  split <;> simp_all

@[simp] theorem State.standbyTest_pending (s : State) : s.standbyTest.pending = s.pending := by
  unfold State.standbyTest; split <;> rfl
@[simp] theorem State.standbyTest_config (s : State) : s.standbyTest.config = s.config := by
  unfold State.standbyTest; split <;> rfl
@[simp] theorem State.standbyTest_inputs (s : State) : s.standbyTest.inputs = s.inputs := by
  unfold State.standbyTest; split <;> rfl
@[simp] theorem State.standbyTest_st (s : State) : s.standbyTest.st = s.st := by
  unfold State.standbyTest; split <;> rfl
@[simp] theorem State.standbyTest_ms (s : State) : s.standbyTest.ms = s.ms := by
  unfold State.standbyTest; split <;> rfl
@[simp] theorem State.standbyTest_dc (s : State) : s.standbyTest.dc = s.dc := by
  unfold State.standbyTest; split <;> rfl
@[simp] theorem State.standbyTest_su (s : State) : s.standbyTest.su = s.su := by
  unfold State.standbyTest; split <;> rfl
@[simp] theorem State.standbyTest_hlc (s : State) : s.standbyTest.hlc = s.hlc := by
  unfold State.standbyTest; split <;> rfl
@[simp] theorem State.standbyTest_windows (s : State) : s.standbyTest.trp.windows = s.trp.windows := by
  unfold State.standbyTest; split <;> rfl
@[simp] theorem State.standbyTest_receiver (s : State) : s.standbyTest.trp.receiver = s.trp.receiver := by
  unfold State.standbyTest; split <;> rfl
@[simp] theorem State.standbyTest_measurement (s : State) : s.standbyTest.trp.measurement = s.trp.measurement := by
  unfold State.standbyTest; split <;> rfl
@[simp] theorem State.standbyTest_trp_counters (s : State) : s.standbyTest.trp.counters = s.trp.counters := by
  unfold State.standbyTest; split <;> rfl
@[simp] theorem State.standbyTest_outlets (s : State) : s.standbyTest.om.outlets = s.om.outlets := by
  unfold State.standbyTest; split <;> rfl
@[simp] theorem State.standbyTest_view (s : State) : s.standbyTest.om.view = s.om.view := by
  unfold State.standbyTest; split <;> rfl
@[simp] theorem State.standbyTest_closed (s : State) : s.standbyTest.om.closed = s.om.closed := by
  unfold State.standbyTest; split <;> rfl
@[simp] theorem State.standbyTest_om_counters (s : State) : s.standbyTest.om.counters = s.om.counters := by
  unfold State.standbyTest; split <;> rfl
@[simp] theorem State.standbyTest_logMark (s : State) : s.standbyTest.nc.logMark = s.nc.logMark := by
  unfold State.standbyTest; split <;> rfl
@[simp] theorem State.standbyTest_mapMark (s : State) : s.standbyTest.nc.mapMark = s.nc.mapMark := by
  unfold State.standbyTest; split <;> rfl
@[simp] theorem State.standbyTest_powered (s : State) : s.standbyTest.nc.powered = s.nc.powered := by
  unfold State.standbyTest; split <;> rfl
@[simp] theorem State.standbyTest_joinTimer (s : State) : s.standbyTest.nc.joinTimer = s.nc.joinTimer := by
  unfold State.standbyTest; split <;> rfl

/-! ## Reports (R37, R71, R154) -/

theorem StrayUnit.create_report (u : StrayUnit) (kind : LogKind) (tags : List Nat) (lap : Option Nat) :
    ((u.create kind tags lap none [] .none).tally fun c => { c with reportsLogged := c.reportsLogged + 1 }) =
      u.withReport kind tags lap := by
  unfold StrayUnit.create StrayUnit.withReport
  cases hr : u.ring with
  | nil => simp [StrayUnit.tally, claimStateOf]
  | cons a l =>
    by_cases h : 64 ≤ (a :: l).length
    · have h' : ¬ (a :: l).length < Config.maxLog := by simpa [Config.maxLog] using h
      simp only [h, h', StrayUnit.tally, claimStateOf, if_false, decide_true, if_true, List.tail_cons, List.head?_cons,
        Option.map_some]
      rfl
    · have h' : (a :: l).length < Config.maxLog := Nat.lt_of_not_le h
      simp only [h, h', StrayUnit.tally, claimStateOf, if_true, decide_false]
      simp

theorem State.reportLost_eq (s : State) (r : LossReport) :
    s.reportLost r = { s with
      hlc := s.hlc.enqueue ⟨0, .lost r⟩
      su := if s.config.isStrayNode then s.su.withReport (.lost r.lastSection r.reporter) r.tags (some r.lap) else s.su
      nc := { s.nc with logMark := s.nc.logMark || s.config.isStrayNode } } := by
  unfold State.reportLost
  cases h : s.config.isStrayNode
  · simp [State.send, State.onHlc]
  · simp only [State.send, State.onHlc, State.logReport, State.markLog, State.onSu, State.onNc, if_true, Bool.or_true]
    rw [← StrayUnit.create_report]

theorem State.reportMisplaced_eq (s : State) (r : MisplacedReport) :
    s.reportMisplaced r = s.misplacedGiven (some r) := by
  unfold State.reportMisplaced State.misplacedGiven
  cases h : s.config.isStrayNode
  · simp [State.send, State.onHlc, State.onMs, ManifestStore.tally]
  · simp only [State.send, State.onHlc, State.onMs, ManifestStore.tally, State.logReport, State.markLog, State.onSu,
      State.onNc, if_true, Bool.or_true]
    rw [← StrayUnit.create_report]

/-! ## Taking a telegram (R173, R182, R183) -/

theorem State.running_iff (s : State) :
    s.running = true ↔ s.nc.state ≠ .start ∧ s.nc.state ≠ .configFault := by
  unfold State.running
  cases s.nc.state <;> simp [NodeState.running]

theorem State.receive_of_delivers {s : State} {cls : Byte} {rx : Rx} {p : List Byte} (h : s.delivers cls rx p)
    (owner : State → State) : s.receive cls rx p owner = owner (s.takeTelegram rx) := by
  obtain ⟨hrun, hj⟩ := h
  obtain ⟨h1, h2⟩ := (State.running_iff s).mp hrun
  unfold State.receive
  split <;> simp_all

theorem State.receive_not_running {s : State} {cls : Byte} {rx : Rx} {p : List Byte} (h : s.running = false)
    (owner : State → State) :
    s.receive cls rx p owner = if s.nc.state = .start then s else s.takeInFault rx := by
  unfold State.running at h
  unfold State.receive
  cases hs : s.nc.state <;> simp_all [NodeState.running]

/-! ## Rounds and wakes (R134, R135, R194) -/

theorem State.queueOutletState_eq (s : State) (k : OutletNo) :
    s.queueOutletState k =
      match (s.config.outlet k).deckServed with
      | some d => { s with
          hlc := s.hlc.enqueue ⟨0, .outletState d (s.om.outlet k).summary (s.om.outlet k).reading⟩
          om := { s.om with
            counters := { s.om.counters with statesQueued := s.om.counters.statesQueued + 1 } } }
      | none => s := by
  unfold State.queueOutletState
  cases (s.config.outlet k).deckServed <;> rfl

/-- The queue and the count of OUTLET-STATEs after those of a list of telegrams. -/
def State.afterStates (s : State) (ts : List Telegram) : State :=
  { s with
    hlc := ts.foldl (fun h t => h.enqueue t) s.hlc
    om := { s.om with counters := { s.om.counters with
      statesQueued := s.om.counters.statesQueued + BitVec.ofNat 32 ts.length } } }

theorem State.afterStates_nil (s : State) : s.afterStates [] = s := by
  simp [State.afterStates]

theorem State.afterStates_append (s : State) (ts us : List Telegram) :
    (s.afterStates ts).afterStates us = s.afterStates (ts ++ us) := by
  simp [State.afterStates, BitVec.add_assoc, BitVec.ofNat_add]

theorem State.queueOutletState_afterStates (s : State) (k : OutletNo) (ts : List Telegram) :
    (if ((s.afterStates ts).om.outlet k).firstPending then s.afterStates ts
      else (s.afterStates ts).queueOutletState k) =
      s.afterStates (ts ++ ((if (s.om.outlet k).firstPending then none
        else (s.config.outlet k).deckServed.map fun d =>
          (⟨0, .outletState d (s.om.outlet k).summary (s.om.outlet k).reading⟩ : Telegram)).toList)) := by
  have h1 : (s.afterStates ts).om.outlet k = s.om.outlet k := rfl
  have h2 : (s.afterStates ts).config = s.config := rfl
  rw [h1, State.queueOutletState_eq, h1, h2]
  cases (s.om.outlet k).firstPending
  · cases (s.config.outlet k).deckServed
    · simp
    · rw [← State.afterStates_append]
      simp [State.afterStates]
  · simp

theorem State.queueOutletStates_eq (s : State) : s.queueOutletStates = s.roundQueued := by
  have h := State.afterStates_nil s
  unfold State.queueOutletStates OutletNo.all
  simp only [List.foldl_cons, List.foldl_nil]
  conv_lhs => rw [← h]
  rw [State.queueOutletState_afterStates, State.queueOutletState_afterStates, State.queueOutletState_afterStates,
    State.queueOutletState_afterStates]
  have : s.outletRound = ([] ++ (((if (s.om.outlet .o1).firstPending then none
        else (s.config.outlet .o1).deckServed.map fun d =>
          (⟨0, .outletState d (s.om.outlet .o1).summary (s.om.outlet .o1).reading⟩ : Telegram)).toList))
      ++ (((if (s.om.outlet .o2).firstPending then none
        else (s.config.outlet .o2).deckServed.map fun d =>
          (⟨0, .outletState d (s.om.outlet .o2).summary (s.om.outlet .o2).reading⟩ : Telegram)).toList))
      ++ (((if (s.om.outlet .o3).firstPending then none
        else (s.config.outlet .o3).deckServed.map fun d =>
          (⟨0, .outletState d (s.om.outlet .o3).summary (s.om.outlet .o3).reading⟩ : Telegram)).toList))
      ++ (((if (s.om.outlet .o4).firstPending then none
        else (s.config.outlet .o4).deckServed.map fun d =>
          (⟨0, .outletState d (s.om.outlet .o4).summary (s.om.outlet .o4).reading⟩ : Telegram)).toList))) := by
    simp only [State.outletRound, OutletNo.all, List.filterMap_cons, List.filterMap_nil]
    generalize (if (s.om.outlet .o1).firstPending then none else _ : Option Telegram) = a
    generalize (if (s.om.outlet .o2).firstPending then none else _ : Option Telegram) = b
    generalize (if (s.om.outlet .o3).firstPending then none else _ : Option Telegram) = c
    generalize (if (s.om.outlet .o4).firstPending then none else _ : Option Telegram) = d
    cases a <;> cases b <;> cases c <;> cases d <;> rfl
  unfold State.roundQueued
  rw [this]
  rfl

theorem State.wakeUp_standby {s : State} (h : s.nc.state = .standby) : s.wakeUp = s.woken := by
  unfold State.wakeUp State.woken
  rw [if_pos h, State.queueOutletStates_eq]
  congr 1
  cases hg : s.config.gaugeMode <;>
    simp [State.startPass, State.queueHello, State.send, State.onHlc, State.onNc, State.onOm, NodeControl.tally,
      State.helloIn, hg, Config.pacePeriodMs]

theorem State.wakeUp_other {s : State} (h : s.nc.state ≠ .standby) : s.wakeUp = s := by
  simp [State.wakeUp, h]

theorem State.takenAwake_eq (s : State) (rx : Rx) : (s.takeTelegram rx).wakeIfAddressed rx = s.takenAwake rx := by
  have hst : (s.takeTelegram rx).nc = s.nc := rfl
  unfold State.wakeIfAddressed State.takenAwake
  by_cases hb : broadcast rx = true
  · simp [hb]
  · by_cases hs : s.nc.state = .standby
    · simp [hb, hs, State.wakeUp_standby (s := s.takeTelegram rx) (by rw [hst]; exact hs)]
    · simp [hb, hs, State.wakeUp_other (s := s.takeTelegram rx) (by rw [hst]; exact hs)]

/-! ## Outlets (R106, R131 to R133) -/

/-- The ST once the commitments of a list have been dropped from their records. -/
def SectionTracker.uncommitted (t : SectionTracker) (cs : List Commitment) : SectionTracker :=
  { t with records := t.records.map fun r =>
      if cs.any fun c => c.record == r.number then { r with commitment := none } else r }

theorem SectionTracker.uncommitted_numbers (t : SectionTracker) (cs : List Commitment) :
    (t.uncommitted cs).records.map BagRecord.number = t.records.map BagRecord.number := by
  simp only [SectionTracker.uncommitted, List.map_map]
  congr 1
  funext r
  simp only [Function.comp]
  split <;> rfl

theorem SectionTracker.uncommitted_nil (t : SectionTracker) : t.uncommitted [] = t := by
  simp [SectionTracker.uncommitted]

theorem SectionTracker.notice_uncommit {t : SectionTracker} {c : Commitment}
    (h : c.record ∈ t.records.map BagRecord.number) (cs : List Commitment) :
    (t.uncommitted cs).notice c.record BagRecord.uncommit = t.uncommitted (cs ++ [c]) := by
  have hr : ∃ r, (t.uncommitted cs).record c.record = some r := by
    rw [← SectionTracker.uncommitted_numbers t cs, List.mem_map] at h
    obtain ⟨r, hr, hn⟩ := h
    cases hf : (t.uncommitted cs).record c.record with
    | some x => exact ⟨x, rfl⟩
    | none => exact absurd (by simpa using hn) (List.find?_eq_none.mp hf r hr)
  obtain ⟨r, hr⟩ := hr
  rw [SectionTracker.notice_of_record hr]
  simp only [SectionTracker.modify, SectionTracker.uncommitted, List.map_map, List.any_append, List.any_cons,
    List.any_nil, Bool.or_false]
  congr 1
  apply List.map_congr_left
  intro x _
  simp only [Function.comp]
  by_cases h1 : cs.any (fun c => c.record == x.number) = true
  · have h4 : ∀ b : Bool, (cs.any (fun c => c.record == x.number) || b) = true := fun b => by rw [h1]; rfl
    rw [if_pos h1, if_pos (h4 _)]
    split <;> rfl
  · rw [if_neg h1, Bool.eq_false_iff.mpr h1, Bool.false_or]
    by_cases h2 : x.number = c.record
    · rw [if_pos (by simp [h2]), if_pos (by simp [h2])]
      rfl
    · have h3 : ¬ c.record = x.number := fun h => h2 h.symm
      rw [if_neg (by simp [h2]), if_neg (by simp [h3])]

theorem foldl_notice_uncommit {t : SectionTracker} (gone cs : List Commitment)
    (h : ∀ c ∈ gone, c.record ∈ t.records.map BagRecord.number) (s : State) (hs : s.st = t.uncommitted cs) :
    gone.foldl (fun s c => s.onSt (SectionTracker.notice c.record BagRecord.uncommit)) s =
      { s with st := t.uncommitted (cs ++ gone) } := by
  induction gone generalizing cs s with
  | nil => simp [← hs]
  | cons c rest ih =>
    simp only [List.foldl_cons]
    rw [ih (cs ++ [c]) (fun x hx => h x (List.mem_cons_of_mem _ hx))]
    · simp [State.onSt]
    · simp only [State.onSt, hs]
      exact SectionTracker.notice_uncommit (h c (by simp)) cs

theorem State.dropArmed_eq {s : State}
    (h : ∀ c ∈ s.dc.commitments, c.record ∈ s.st.records.map BagRecord.number) (k : OutletNo) :
    s.dropArmed k = { s with dc := s.dc.withoutArmed k, st := s.trackerWithoutArmed k } := by
  unfold State.dropArmed
  simp only
  rw [foldl_notice_uncommit (t := s.st) _ [] (fun c hc => h c (List.mem_of_mem_filter hc)) _
    (by simp [SectionTracker.uncommitted_nil])]
  simp only [List.nil_append, State.onDc]
  have hst : s.st.uncommitted (s.dc.commitments.filter (Commitment.armedFor k)) = s.trackerWithoutArmed k := by
    simp only [SectionTracker.uncommitted, State.trackerWithoutArmed, List.any_filter]
    congr 1
    apply List.map_congr_left
    intro x _
    simp only [Commitment.armedFor, Bool.and_comm]
    rfl
  rw [hst]
  simp [DivertController.withoutArmed, DivertController.tally, Commitment.armedFor, List.countP_eq_length_filter]
  rfl

theorem PerOutlet.set_set {α : Type} (p : PerOutlet α) (k : OutletNo) (a b : α) :
    (p.set k a).set k b = p.set k b := by
  cases k <;> rfl

theorem PerOutlet.set_get_self {α : Type} (p : PerOutlet α) (k : OutletNo) : p.set k (p.get k) = p := by
  cases k <;> rfl

theorem OutletMonitor.outlet_setOutlet (k : OutletNo) (o : OutletRecord) (m : OutletMonitor) :
    (m.setOutlet k o).outlet k = o := by
  cases k <;> rfl

theorem State.summarise_eq (s : State) (k : OutletNo) (first : Bool) :
    s.summarise k first =
      match (s.config.outlet k).deckServed with
      | none => s
      | some d =>
        let o := s.om.outlet k
        let summary := summaryOf (s.config.outlet k) o.state o.reading
        let report := (first || summary != o.summary) && s.nc.state.reportsOutlets
        { s with
          om := { s.om with
            outlets := s.om.outlets.set k { o with summary := summary }
            counters := { s.om.counters with
              statesQueued := if report then s.om.counters.statesQueued + 1 else s.om.counters.statesQueued } }
          hlc := if report then s.hlc.enqueue ⟨0, .outletState d summary o.reading⟩ else s.hlc } := by
  unfold State.summarise
  cases hd : (s.config.outlet k).deckServed with
  | none => rfl
  | some d =>
    simp only
    split
    · rename_i h
      simp only [State.queueOutletState, State.onOm]
      simp [hd, State.send, State.onHlc, OutletMonitor.tally, OutletMonitor.outlet, OutletMonitor.setOutlet,
        PerOutlet.get_set_self]
    · rename_i h
      simp [State.onOm, OutletMonitor.setOutlet]

/-! ## The send queue (R174, R178) -/

@[simp] theorem HallLine.enqueue_line (t : Telegram) (h : HallLine) : (h.enqueue t).line = h.line := by
  unfold HallLine.enqueue; repeat' split
  all_goals rfl
@[simp] theorem HallLine.enqueue_score (t : Telegram) (h : HallLine) : (h.enqueue t).score = h.score := by
  unfold HallLine.enqueue; repeat' split
  all_goals rfl
@[simp] theorem HallLine.enqueue_idleGaps (t : Telegram) (h : HallLine) : (h.enqueue t).idleGaps = h.idleGaps := by
  unfold HallLine.enqueue; repeat' split
  all_goals rfl
@[simp] theorem HallLine.enqueue_drive (t : Telegram) (h : HallLine) : (h.enqueue t).drive = h.drive := by
  unfold HallLine.enqueue; repeat' split
  all_goals rfl
@[simp] theorem HallLine.enqueue_watch (t : Telegram) (h : HallLine) : (h.enqueue t).watch = h.watch := by
  unfold HallLine.enqueue; repeat' split
  all_goals rfl

theorem insertByUrgency_length (e : SendEntry) (q : List SendEntry) :
    (insertByUrgency e q).length = q.length + 1 := by
  induction q with
  | nil => rfl
  | cons x xs ih => unfold insertByUrgency; split <;> simp [ih]

theorem replaceWaiting_length {t : Telegram} {q r : List SendEntry} (h : replaceWaiting t q = some r) :
    r.length = q.length := by
  induction q generalizing r with
  | nil => simp [replaceWaiting] at h
  | cons x xs ih =>
    unfold replaceWaiting at h
    split at h
    · cases h; rfl
    · cases hx : replaceWaiting t xs with
      | none => simp [hx] at h
      | some ys => simp only [hx, Option.map_some, Option.some.injEq] at h; subst h; simp [ih hx]

theorem displaceFor_length {u : Nat} {q r : List SendEntry} (h : displaceFor u q = some r) :
    r.length + 1 = q.length := by
  induction q generalizing r with
  | nil => simp [displaceFor] at h
  | cons x xs ih =>
    unfold displaceFor at h
    cases hx : displaceFor u xs with
    | some ys => simp only [hx, Option.some.injEq] at h; subst h; simp [← ih hx]
    | none =>
      simp only [hx] at h
      split at h
      · cases h; rfl
      · cases h

/-! ## The tag table (R62) -/

theorem find_putEntry (e : TagEntry) (l : List TagEntry) :
    (putEntry e l).find? (fun x => x.tag == e.tag) = some e := by
  induction l with
  | nil => simp [putEntry]
  | cons x xs ih =>
    unfold putEntry
    split
    · simp
    · split
      · simp
      · have : ¬ x.tag = e.tag := fun h => by simp_all
        simpa [this] using ih

theorem find_putEntry_of_ne {e : TagEntry} {tag : Nat} (h : tag ≠ e.tag) (l : List TagEntry) :
    (putEntry e l).find? (fun x => x.tag == tag) = l.find? (fun x => x.tag == tag) := by
  induction l with
  | nil => simp [putEntry, h.symm]
  | cons x xs ih =>
    unfold putEntry
    split
    · simp [List.find?_cons, h.symm]
    · split
      · rename_i hx
        have : ¬ x.tag = tag := fun hc => h (hc.symm.trans hx.symm)
        simp [h.symm, this]
      · by_cases hx : x.tag = tag <;> simp [hx, ih]

@[simp] theorem ManifestStore.recount_table (c : Nat) (m : ManifestStore) : (m.recount c).table = m.table := by
  unfold ManifestStore.recount; split <;> rfl
@[simp] theorem ManifestStore.recount_map (c : Nat) (m : ManifestStore) : (m.recount c).map = m.map := by
  unfold ManifestStore.recount; split <;> rfl
@[simp] theorem ManifestStore.recount_counters (c : Nat) (m : ManifestStore) :
    (m.recount c).counters = m.counters := by
  unfold ManifestStore.recount; split <;> rfl
@[simp] theorem ManifestStore.recount_purgeRunning (c : Nat) (m : ManifestStore) :
    (m.recount c).purgeRunning = m.purgeRunning := by
  unfold ManifestStore.recount; split <;> rfl

theorem ManifestStore.put_entry (e : TagEntry) (m : ManifestStore) : (m.put e).entry e.tag = some e := by
  simp only [ManifestStore.entry, ManifestStore.put, ManifestStore.recount_table]
  exact find_putEntry e m.table

theorem ManifestStore.put_entry_of_ne {e : TagEntry} {tag : Nat} (h : tag ≠ e.tag) (m : ManifestStore) :
    (m.put e).entry tag = m.entry tag := by
  simp only [ManifestStore.entry, ManifestStore.put, ManifestStore.recount_table]
  exact find_putEntry_of_ne h m.table

theorem ManifestStore.drop_entry (e : TagEntry) (m : ManifestStore) : (m.drop e).entry e.tag = none := by
  simp [ManifestStore.entry, ManifestStore.drop]

theorem ManifestStore.drop_entry_of_ne {e : TagEntry} {tag : Nat} (h : tag ≠ e.tag) (m : ManifestStore) :
    (m.drop e).entry tag = m.entry tag := by
  simp only [ManifestStore.entry, ManifestStore.drop, ManifestStore.recount_table, List.find?_filter]
  congr 1
  funext x
  by_cases hx : x.tag = tag
  · simp [hx, h]
  · simp [hx]

end Sys2Proof.Machine
end

