-- ==== Sys2Proof/WellFormed.lean ====
section
/-! DEFINITION. Which commands are well formed: the operands the manual allows. A command that is not well formed still
has a meaning; it cannot come from a station, a sensor or a timer of the hall. -/

namespace Sys2Proof

open Machine

/-- 9.1: the serial memory holds at most 256 bytes. -/
def imageFits (image : List Byte) : Bool := decide (image.length ≤ 256)

/-- 11.1: destinations are 0 or an address of one station, 1 to 63 (R167). -/
def destinationOk (rx : Rx) : Bool := decide (rx.destination.toNat ≤ 63)

/-- R171, R205: a telegram received without error carries the check value of its bytes. -/
def checkOk (cls : Byte) (rx : Rx) (p : List Byte) : Bool := rx.check == checkValue (checkedBytes cls rx.destination p)

/-- 11.1: a telegram of a class with a payload of a length the class allows. -/
def telegramOk (cls : Byte) (rx : Rx) (p : List Byte) : Bool :=
  destinationOk rx && checkOk cls rx p && lengthAllowed cls p.length == some true

/-- 11.1: a telegram that is discarded carries at most 32 payload bytes. -/
def discardedOk (cls : Byte) (rx : Rx) (p : List Byte) : Bool :=
  destinationOk rx && checkOk cls rx p && decide (p.length ≤ 32)

/-- 11.2: a QUERY of this kind. -/
def queryOk (kind : Byte) (rx : Rx) (a : BitVec 40) : Bool := telegramOk classQuery rx (kind :: argumentBytes a)

/-- R120: 1, 4 or 16 conversions make a reading. -/
def conversionsOk (codes : List (BitVec 10)) : Bool :=
  codes.length == 1 || codes.length == 4 || codes.length == 16

/-- R136, R137: a view entry names a peer of 1 to 60 and a deck of 1 to 20. -/
def viewPairOk (peer deck : Nat) : Bool := inRange 1 Config.maxNode peer && inRange 1 Config.maxDeck deck

/-- 11.1: a sender address lies in 0 to 63. -/
def senderOk (node : Nat) : Bool := decide (node ≤ 63)

/-- R198, 11.3: a kind code that is none of the seven. -/
def kindUnknown (kind : Byte) : Bool := !inRange 1 7 kind.toNat

/-- R12, R47, R49, R167: an event of a sampled line comes at a sample, and one of the hall line at a bit. -/
def samplesOk (samples : List Bool) : Bool := !samples.isEmpty

/-- The checks of each command's operands. -/
def Instr.wellFormed : Instr → Bool
  | .powerOn | .powerLoss | .retentionLow => true
  | .startComplete _ image => imageFits image
  | .encoderPulse | .speedWindowEnd => true
  | .inductionBlockedEdge samples | .inductionClearedEdge samples | .handoffEyeBlockedEdge samples => samplesOk samples
  | .spanPoint _ | .windowEndPoint _ | .closePoint _ | .firePoint _ | .deadlinePoint _ => true
  | .expiryPoint node _ => senderOk node
  | .armPoint _ _ => true
  | .strokeTimerExpiry _ => true
  | .exitEyeBlockedEdge _ samples | .actuatorFaultChange _ samples => samplesOk samples
  | .gaugeConversionEnd codes => conversionsOk codes
  | .gaugePassStart | .refreshTimerExpiry => true
  | .viewExpiry peer deck _ => viewPairOk peer deck
  | .framingError line | .readerBreak line | .report line | .rateMeasurement line | .rateOverflow line
  | .characterReceived line => samplesOk line
  | .claimWindowEnd _ | .joinTimerExpiry | .sweepExamination | .purgeComplete => true
  | .attemptStart _ => true
  | .attemptEnd line | .receiveError line | .detachment line | .rejoin line | .idleGap line => samplesOk line
  | .telegramDiscarded cls rx p => discardedOk cls rx p
  | .handoff rx p => telegramOk classHandoff rx p
  | .manifest rx p => telegramOk classManifest rx p
  | .manifestWithdraw rx p => telegramOk classManifestWithdraw rx p
  | .deckMap rx p => telegramOk classDeckMap rx p
  | .delivered rx p => telegramOk classDelivered rx p
  | .purge rx p => telegramOk classPurge rx p
  | .outletState rx p => telegramOk classOutletState rx p
  | .deckClose rx p => telegramOk classDeckClose rx p
  | .deckOpen rx p => telegramOk classDeckOpen rx p
  | .outletRestore rx p => telegramOk classOutletRestore rx p
  | .strayCall rx p => telegramOk classStrayCall rx p
  | .claim rx p => telegramOk classClaim rx p
  | .lost rx p => telegramOk classLost rx p
  | .misplaced rx p => telegramOk classMisplaced rx p
  | .reset rx p => telegramOk classReset rx p
  | .standby rx p => telegramOk classStandby rx p
  | .wake rx p => telegramOk classWake rx p
  | .hello rx p => telegramOk classHello rx p
  | .identity rx a => queryOk 1 rx a
  | .counters rx a => queryOk 2 rx a
  | .outlet rx a => queryOk 3 rx a
  | .tag rx a => queryOk 4 rx a
  | .cabin rx a => queryOk 5 rx a
  | .strayLog rx a => queryOk 6 rx a
  | .map rx a => queryOk 7 rx a
  | .queryKindUnknown rx kind a => queryOk kind rx a && kindUnknown kind

end Sys2Proof
end

