-- ==== Sys2Proof/Tests/Slice0.lean ====
section
/-! SUPPORT. The modeller's tests: the operand checks, the manual's worked examples, one step of many commands on a small
node, and for each statement with hypotheses a state and operands that meet them. -/

open Sys2Proof Sys2Proof.Machine

section Slice0Tests

set_option Elab.async false

/-! ## A small node -/

/-- Writes one byte of an image. -/
def Ex.setB (b : List Byte) (i v : Nat) : List Byte := b.set i (BitVec.ofNat 8 v)
/-- Writes a two-byte field of an image. -/
def Ex.setW (b : List Byte) (i v : Nat) : List Byte := Ex.setB (Ex.setB b i (v / 256)) (i + 1) v

/-- Writes consecutive bytes from an offset. -/
def Ex.setBs (b : List Byte) : Nat → List Nat → List Byte
  | _, [] => b
  | i, v :: vs => Ex.setBs (Ex.setB b i v) (i + 1) vs

/-- The bytes of an outlet block: D, A, T 120 ms, W, the longest bag, long-capable, P 300 ms, limits 200, 150, 120. -/
def Ex.outletBlock (role D A W maxLength long : Nat) : List Nat :=
  [1, role, D / 256, D, A / 256, A, 0, 120, W / 256, W, maxLength / 256, maxLength, long, 1, 44, 200, 150, 120]

/-- 00_scope.md and the example of chapter 1: the image of node 12 with a reader rate code, the stray outlet's longest bag
and a check value. -/
def Ex.image (rate strayLength check : Nat) : List Byte :=
  let b := Ex.setBs (List.replicate 140 0) 0 [3, 1, rate, 13, 0, 3]
  let b := Ex.setW (Ex.setW (Ex.setW (Ex.setW (Ex.setW (Ex.setW (Ex.setW b 6 4200) 8 900) 10 300) 12 600) 14 60) 16 25) 18 1600
  let b := Ex.setBs b 0x14 [1, 0, 2, 5, 2000 / 256, 2000]
  let b := Ex.setBs b 0x1A (Ex.outletBlock 7 1850 400 250 800 0)
  let b := Ex.setBs b 0x2C (Ex.outletBlock 8 2900 400 250 1200 1)
  let b := Ex.setBs b 0x3E (Ex.outletBlock 0 3500 300 200 strayLength 1)
  Ex.setW (Ex.setB b (0x62 + 4) 1) 0x8A check

/-- One outlet of node 12. -/
def Ex.outlet (role : OutletRole) (centre arm confirm maxLength : Nat) (long : Bool) : OutletConfig :=
  { fitted := true, role := role, centre := centre, arm := arm, leadMs := 120, confirm := confirm,
    maxLength := maxLength, longCapable := long, strokeMs := 300, fullLimit := 200, shareLimit := 150,
    clearLimit := 120 }

/-- The configuration that image gives. -/
def Ex.cfg (rate : ReaderRate) (digest : BitVec 16) : NodeConfig :=
  { address := 12, digest := digest, lineRateKbit := 500, readerFitted := true, readerRate := rate, downstream := 13,
    lapOrigin := false, lapLimit := 3, handoff := 4200, feed := 900, scanTail := 300, lateSpan := 600, tolerance := 60,
    minLength := 25, mergeLimit := 1600, averaging := 1, gaugeMode := .continuous, refreshSec := 2, joinSec := 5,
    claimMs := 2000,
    outlets := ⟨Ex.outlet (.deck 7) 1850 400 250 800 false, Ex.outlet (.deck 8) 2900 400 250 1200 true,
      Ex.outlet .stray 3500 300 200 800 true, .blank⟩,
    slots := ⟨0, 0, 0, 0, true⟩ :: List.replicate 7 ⟨0, 0, 0, 0, false⟩ }


/-- Filters that one more sample moves: the eyes CLEAR after 19 BLOCKED samples, the fault inputs CLEAR after 199
ASSERTED. -/
def Ex.inputs : InputFilters :=
  let eye := InputFilter.following false 19
  let fault := InputFilter.following false 199
  ⟨eye, eye, ⟨eye, eye, eye, eye⟩, ⟨fault, fault, fault, fault⟩⟩

/-- Node 12 in SORTING with nothing held. -/
def Ex.on : State :=
  { State.reset with
    config := Ex.cfg (.fixed 60) 63175
    inputs := Ex.inputs
    nc := { NodeControl.unpowered with powered := true, state := .sorting }
    st := { SectionTracker.atPowerOn with feedHold := false }
    trp := { TagReadPort.atPowerOn with divider := 60, receiver := .hunting true }
    ms := { ManifestStore.initial with lowMark := false }
    om := { OutletMonitor.atPowerOn with
      outlets :=
        let o := { OutletRecord.atPowerOn with
          reading := 100, firstPending := false, fullLatch := false, state := .opened, summary := .openLow }
        ⟨o, o, { o with summary := .unavailable }, .atPowerOn⟩
      pass := some .o1
      refreshTimer := some 2000 } }

/-- In the node state given. -/
def Ex.inState (s : State) (x : NodeState) : State := { s with nc := { s.nc with state := x } }

/-- Record 0, bound and FIRED for outlet 1 at fire count 2,059. -/
def Ex.fired : BagRecord :=
  { BagRecord.create 0 100 with
    length := some 400, binding := .bound 11 5, tags := [100], readState := .read, lap := 1
    commitment := some ⟨.o1, 2059, 2309, .fired⟩ }

/-- Record 1, just arrived, its passage open. -/
def Ex.fresh : BagRecord := BagRecord.create 1 1500

/-- An expectation of 350 pulses. -/
def Ex.due (bag : Count) (length : Nat) : Expectation :=
  { node := 11, bag := bag, tags := [200], length := length, lap := 0, deferred := false, missed := false,
    reason := none, receipt := 1400 }

/-- A HELLO waiting in the queue. -/
def Ex.hello : Telegram := ⟨0, .hello ⟨12, .sorting, false, 63175, [7, 8]⟩⟩

/-- The node with something in every block: two records, one of them FIRED, an expectation, a window, arm points, entries,
a view entry, a claimed stray and a queued telegram. -/
def Ex.busy : State :=
  { Ex.on with
    inputs := { Ex.inputs with induction := .following true 19 }
    st := { Ex.on.st with
      encoderCount := 2100, records := [Ex.fired, Ex.fresh], expectations := [Ex.due 6 350], passage := .ofRecord 1
      nextNumber := 2, counters := { StCounters.zero with arrivals := 2 } }
    trp := { Ex.on.trp with windows := [⟨1, none⟩] }
    dc := { Ex.on.dc with
      commitments := [⟨0, .o1, .deck 100 7000 7, 91, 2059, 2309, .fired⟩]
      armPoints := [⟨1, .o1, 2950⟩, ⟨1, .o2, 4000⟩, ⟨1, .o3, 4700⟩]
      strokes := ⟨some 300, none, none, none⟩ }
    ms := { Ex.on.ms with
      table := [⟨100, 7000, 2, false, .placed, .none, false⟩, ⟨101, 7000, 2, false, .placed, .self .o1 7, false⟩,
        ⟨200, 7050, 1, false, .placed, .peer 9, false⟩, ⟨300, 9000, 1, false, .unplaced, .none, false⟩]
      cabins := [⟨7000, 2, 1⟩, ⟨7050, 1, 1⟩, ⟨9000, 1, 0⟩]
      map := [⟨7000, 7099, 7, .clear⟩, ⟨8000, 8099, 8, .clear⟩] }
    om := { Ex.on.om with view := [⟨14, 7, .openLow, 50, 1000⟩] }
    su := { Ex.on.su with
      ring := [⟨0, .inChute none, [100], some 1, some 400, [⟨14, 100, 7000, 7⟩], .running, .claimed⟩]
      nextSequence := 1, timers := [⟨0, 2000⟩] }
    hlc := { Ex.on.hlc with queue := [⟨Ex.hello, 0, false⟩] } }

/-- A telegram from node 14 to this node, and one to all stations. -/
def Ex.toMe : Rx := ⟨1, 14, 12, 2000, 0, false⟩
def Ex.toAll : Rx := ⟨1, 14, 0, 2000, 0, false⟩

/-- With the check value of a class and a payload. -/
def Ex.checked (cls : Byte) (p : List Byte) (rx : Rx) : Rx :=
  { rx with check := checkValue (checkedBytes cls rx.destination p) }

/-- The state an outcome answers. -/
def Ex.next? : Host.Outcome State Fault Refusal → Option State
  | .next t => some t
  | .fault _ => none
  | .refused _ => none

theorem Ex.exists_next {o : Host.Outcome State Fault Refusal} (h : (Ex.next? o).isSome = true) : ∃ t, o = .next t := by
  cases o with
  | next t => exact ⟨t, rfl⟩
  | fault f => cases f
  | refused r => simp [Ex.next?] at h

/-- What a command does to one part of a state. -/
def Ex.after {α : Type} (c : Instr) (s : State) (f : State → α) : Option α := (Ex.next? (exec c s)).map f

/-! ## Operand checks -/

theorem test_wellFormed_image : (Instr.startComplete 12 (List.replicate 257 0)).wellFormed = false := by decide +kernel
theorem test_wellFormed_sender : (Instr.expiryPoint 64 0).wellFormed = false := by decide
theorem test_wellFormed_conversions : (Instr.gaugeConversionEnd [1, 2, 3]).wellFormed = false := by decide
theorem test_wellFormed_view : (Instr.viewExpiry 61 7 0).wellFormed = false := by decide
theorem test_wellFormed_destination :
    (Instr.identity (Ex.checked 0x50 [1, 0, 0, 0, 0, 0] { Ex.toMe with destination := 64 }) 0).wellFormed = false := by
  decide +kernel
theorem test_wellFormed_payload :
    let p : List Byte := List.replicate 8 0
    (Instr.manifest (Ex.checked 0x10 p Ex.toMe) p).wellFormed = false := by decide +kernel
theorem test_wellFormed_discarded :
    let p : List Byte := List.replicate 33 0
    (Instr.telegramDiscarded 0x70 (Ex.checked 0x70 p Ex.toMe) p).wellFormed = false := by decide +kernel
theorem test_wellFormed_kind :
    (Instr.queryKindUnknown (Ex.checked 0x50 [7, 0, 0, 0, 0, 0] Ex.toMe) 7 0).wellFormed = false := by decide +kernel
/-- R171, R205: the WAKE's check value is 3B51. -/
theorem test_wellFormed_check :
    (Instr.wake { Ex.toMe with check := 0x3B52 } []).wellFormed = false
      ∧ (Instr.wake { Ex.toMe with check := 0x3B51 } []).wellFormed = true := by decide +kernel
theorem test_wellFormed_samples :
    (([.inductionBlockedEdge [], .inductionClearedEdge [], .handoffEyeBlockedEdge [], .exitEyeBlockedEdge .o1 [],
        .actuatorFaultChange .o1 [], .framingError [], .readerBreak [], .report [], .rateMeasurement [], .rateOverflow [],
        .characterReceived [], .attemptEnd [], .receiveError [], .detachment [], .rejoin [], .idleGap []] :
        List Instr).map Instr.wellFormed) = List.replicate 16 false
      ∧ (Instr.rateOverflow [true]).wellFormed = true ∧ (Instr.attemptStart []).wellFormed = true := by decide
theorem test_wellFormed_accepts :
    let p : List Byte := List.replicate 9 0
    (Instr.manifest (Ex.checked 0x10 p Ex.toMe) p).wellFormed = true
      ∧ (Instr.gaugeConversionEnd [1, 2, 3, 4]).wellFormed = true
      ∧ (Instr.telegramDiscarded 0x70 (Ex.checked 0x70 p Ex.toMe) p).wellFormed = true
      ∧ (Instr.queryKindUnknown (Ex.checked 0x50 [8, 0, 0, 0, 0, 0] Ex.toMe) 8 0).wellFormed = true := by decide +kernel

/-! ## The manual's worked examples -/

/-- R205: over the nine bytes 0x31 to 0x39 the computation gives 0x29B1. -/
theorem test_check_value : checkValue [0x31, 0x32, 0x33, 0x34, 0x35, 0x36, 0x37, 0x38, 0x39] = 0x29B1 := by
  decide +kernel

/-- Goes on with a number once it has been evaluated, so that the kernel carries values and not expressions. -/
def Ex.force {α : Type} (n : Nat) (k : Nat → α) : α :=
  match n with
  | 0 => k 0
  | m + 1 => k (m + 1)

theorem Ex.force_eq {α : Type} (n : Nat) (k : Nat → α) : Ex.force n k = k n := by cases n <;> rfl

/-- The check value, byte by byte. -/
def Ex.crc : List Byte → Nat → Nat
  | [], c => c
  | b :: bs, c => Ex.force (checkByte (BitVec.ofNat 16 c) b).toNat (Ex.crc bs)

theorem Ex.foldl_crc (bs : List Byte) (c : BitVec 16) : bs.foldl checkByte c = BitVec.ofNat 16 (Ex.crc bs c.toNat) := by
  induction bs generalizing c with
  | nil => simp [Ex.crc]
  | cons b bs ih => simp [Ex.crc, Ex.force_eq, ih]

theorem Ex.checkValue_crc (bs : List Byte) : checkValue bs = BitVec.ofNat 16 (Ex.crc bs 0xFFFF) := Ex.foldl_crc bs 0xFFFF

theorem test_image_check :
    imageCheckOk (Ex.image 2 800 63175) = true ∧ imageCheckOk (Ex.image 6 800 31837) = true
      ∧ imageCheckOk (Ex.image 2 1500 10122) = true ∧ imageCheckOk (Ex.image 2 800 63174) = false := by
  simp only [imageCheckOk, Ex.checkValue_crc]
  decide +kernel

/-- Chapter 1, checking a section: check 6 fails at outlet 3's longest bag of 1,500, and passes at 800. -/
theorem test_start_checks :
    startFault 12 (Ex.image 2 1500 10122) = some 6 ∧ startFault 12 (Ex.image 2 800 63175) = none
      ∧ startFault 12 (Ex.image 6 800 31837) = none
      ∧ startFault 0 (Ex.image 2 800 63175) = some 1 ∧ startFault 12 (Ex.image 2 800 63174) = some 2 := by
  obtain ⟨h1, h2, h3, h4⟩ := test_image_check
  simp only [startFault, h1, h2, h3, h4]
  decide +kernel

/-- 11.5: the fields of the image lie at their offsets. -/
theorem test_image_fields : configOf 12 (Ex.image 2 800 63175) = Ex.cfg (.fixed 60) 63175 := by decide +kernel

/-- Chapter 1, counts across the wrap. -/
theorem test_counts_wrap :
    [65450, 0, 1313, 1314, 1500, 34081, 34082].map (fun n => hasReached (BitVec.ofNat 16 n) 1314)
      = [false, false, false, true, true, true, false] := by decide

/-- Chapter 1, a run of speed windows. -/
theorem test_speed_windows :
    Ex.after .speedWindowEnd { Ex.on with st := { Ex.on.st with windowCount := 190 } } (fun t => (t.st.speed, t.st.overrange))
        = some (760, false)
      ∧ Ex.after .speedWindowEnd { Ex.on with st := { Ex.on.st with windowCount := 4095 } }
          (fun t => (t.st.speed, t.st.overrange)) = some (16380, true)
      ∧ Ex.after .speedWindowEnd { Ex.on with st := { Ex.on.st with windowCount := 3000, overrange := true } }
          (fun t => (t.st.speed, t.st.overrange)) = some (12000, false) := by decide

/-- 3.3.1, measurements. -/
theorem test_dividers : [480, 242, 243, 80, 3840, 36864].map dividerOf = [60, 30, 30, 10, 480, 4095] := by decide

/-- 5.5.1 and 5.5.2, the fire count and a clamped lead. -/
theorem test_fire_count :
    let o := Ex.cfg .auto 0 |>.outlet .o1
    fireCountOf o 65400 310 (leadOf o 760) = 1778 ∧ deadlineOf o 1778 = 2028
      ∧ fireCountOf { o with leadMs := 500 } 65400 310 (leadOf { o with leadMs := 500 } 16380) = 1469
      ∧ armCountOf o 65400 = 1314 := by decide

/-- 6.2.1, one pass. -/
theorem test_readings :
    readingOf 4 [320, 324, 331, 317] = 80 ∧ readingOf 4 [612, 600, 0, 605] = 255
      ∧ readingOf 4 [1020, 1018, 1022, 1021] = 255 ∧ readingFaulted [1020, 1018, 1022, 1021] = false := by decide

/-- 4.4.1, merging and contest, first and second telegram. -/
theorem test_map_merge :
    Ex.after (.deckMap Ex.toMe ((bytes2 7100 ++ bytes2 7160) ++ [7, 0]))
        { Ex.on with ms := { Ex.on.ms with map := [⟨7001, 7120, 7, .clear⟩, ⟨8001, 8140, 8, .clear⟩] } } (fun t => t.ms.map)
      = some [⟨7001, 7160, 7, .clear⟩, ⟨8001, 8140, 8, .clear⟩] := by decide +kernel
theorem test_map_contest :
    Ex.after (.deckMap Ex.toMe ((bytes2 7150 ++ bytes2 7200) ++ [9, 0]))
        { Ex.on with ms := { Ex.on.ms with map := [⟨7001, 7160, 7, .clear⟩, ⟨8001, 8140, 8, .clear⟩] } } (fun t => t.ms.map)
      = some [⟨7001, 7160, 7, .contested⟩, ⟨7150, 7200, 9, .contested⟩, ⟨8001, 8140, 8, .clear⟩] := by decide +kernel

/-- 8.6.1, slots for a deck node. -/
theorem test_slots :
    let slots : List AcceptanceSlot := [⟨0x10, 0xFF, 52, 0xFC, true⟩, ⟨0x10, 0xFF, 60, 0xFC, true⟩, ⟨0x10, 0xFF, 0, 0, false⟩,
      ⟨0x30, 0xFF, 7, 0xFF, true⟩, ⟨0x30, 0xFF, 8, 0xFF, true⟩, ⟨0x30, 0xFF, 0, 0, false⟩, ⟨0, 0, 0, 0, true⟩,
      ⟨0, 0, 0, 0, true⟩]
    let manifest (cabin : Nat) : List Byte := bytes5 100 ++ bytes2 cabin ++ [1, 0]
    [(classManifest, manifest 7044), (classManifest, manifest 7190), (classManifest, manifest 9010),
      (classOutletState, [11, 1, 50]), (classDelivered, bytes5 100 ++ bytes2 7000 ++ [9, 14, 1]), (classLost, [12, 0, 12])].map
        (fun x => acceptedBySlots slots x.1 (subjectWord x.1 Ex.toAll x.2))
      = [true, false, false, false, true, true] := by decide +kernel

/-- R52: thirteen characters of a report, tag 1190023847 with check digit 5. -/
theorem test_report_tag :
    tagOfDigits [1, 1, 9, 0, 0, 2, 3, 8, 4, 7, 5] = 1190023847
      ∧ checkDigitGood [1, 1, 9, 0, 0, 2, 3, 8, 4, 7, 5] = true
      ∧ checkDigitGood [1, 1, 9, 0, 0, 2, 3, 8, 4, 7, 6] = false := by decide

/-! ## Single steps -/

/-- R6: the count wraps from 65,535 to 0. -/
theorem test_count_wraps :
    Ex.after .encoderPulse { Ex.on with st := { Ex.on.st with encoderCount := 65535 } } (fun t => t.st.encoderCount)
      = some 0 := by decide

/-- R17, R54, R93: an arrival at count 65,400; the arm points lie at D − A beyond it. -/
theorem test_arrival :
    Ex.after (.inductionBlockedEdge [true]) { Ex.on with st := { Ex.on.st with encoderCount := 65400 } }
        (fun t => (t.st.records.length, t.trp.windows, t.dc.armPoints.map ArmPoint.count))
      = some (1, [⟨0, none⟩], [1314, 2364, 3064]) := by decide +kernel

/-- R20: a full list leaves the passage without a record. -/
theorem test_overflow_arrival :
    Ex.after (.inductionBlockedEdge [true])
        { Ex.on with st := { Ex.on.st with records := (List.range 24).map fun n => BagRecord.create (BitVec.ofNat 16 n) 0 } }
        (fun t => (t.st.records.length, t.st.passage, t.st.counters.overflowArrivals))
      = some (24, .ignored, 1) := by decide +kernel

/-- R22, R26, R29: the edge at count 1,850 gives record 1 a length of 350 and binds it to the expectation. -/
theorem test_trailing_edge :
    Ex.after (.inductionClearedEdge [false]) { Ex.busy with st := { Ex.busy.st with encoderCount := 1850 } }
        (fun t => (t.st.record 1).map fun r => (r.length, r.binding, r.tags))
      = some (some (some 350, .bound 11 6, [200])) := by decide +kernel

/-- R33, R34: record 0 is FIRED and no candidate; record 1 is handed off in its window. -/
theorem test_handoff_eye :
    Ex.after (.handoffEyeBlockedEdge [true]) { Ex.busy with st := { Ex.busy.st with encoderCount := 5640 } }
        (fun t => (t.st.records.map BagRecord.number, t.st.counters.handedOff,
          t.hlc.queue.map fun e => (e.telegram.destination, e.urgency)))
      = some ([0], 1, [(13, 1), (0, 7)]) := by decide +kernel

/-- R36, R37: at its window end record 1 is lost, reported, and logged by the stray node. -/
theorem test_window_end :
    Ex.after (.windowEndPoint 1) { Ex.busy with st := { Ex.busy.st with encoderCount := 5760 } }
        (fun t => (t.st.records.map BagRecord.number, t.st.counters.lost, t.su.ring.map LogEntry.kind))
      = some ([0], 1, [.inChute none, .lost 12 12]) := by decide +kernel

/-- A record on its way to outlet 1 with tag 100, leading count 100. -/
def Ex.armed (s : State) : State :=
  { s with
    st := { s.st with
      encoderCount := 1550, speed := 760, records := [{ Ex.fired with commitment := none }, Ex.fresh] }
    dc := { s.dc with
      commitments := [], strokes := ⟨none, none, none, none⟩
      armPoints := [⟨0, .o1, 1550⟩, ⟨0, .o2, 2600⟩, ⟨0, .o3, 3300⟩] ++ s.dc.armPoints } }

/-- R96, R101, R102: tag 100 goes to deck 7 by outlet 1, with lead 91 and fire count 100 + 1,850 + 200 − 91. -/
theorem test_arm_point :
    Ex.after (.armPoint 0 .o1) (Ex.armed Ex.busy) (fun t => t.dc.commitments)
      = some [⟨0, .o1, .deck 100 7000 7, 91, 2059, 2309, .armed⟩] := by decide +kernel

/-- R108, R111, R112, R73: the exit eye confirms the push; cabin 7000 then has both its bags. -/
theorem test_exit_eye :
    Ex.after (.exitEyeBlockedEdge .o1 [true]) Ex.busy
        (fun t => (t.st.counters.diverted, (t.ms.entry 100).map TagEntry.mark, t.ms.cabin 7000,
          t.hlc.queue.map SendEntry.urgency))
      = some (1, some (.self .o1 7), some ⟨7000, 2, 2⟩, [3, 7]) := by decide +kernel

/-- R110, R127: the third miss jams the outlet and reports it. -/
theorem test_third_miss :
    Ex.after (.deadlinePoint 0)
        { Ex.busy with
          st := { Ex.busy.st with encoderCount := 2309 }
          om := Ex.busy.om.setOutlet .o1 { Ex.busy.om.outlet .o1 with misses := 2 } }
        (fun t => ((t.om.outlet .o1).state, (t.om.outlet .o1).summary, (t.st.record 0).map BagRecord.missed,
          t.hlc.queue.map fun e => e.telegram.body))
      = some (.jammed, .unavailable, some true, [.outletState 7 .unavailable 100, Ex.hello.body]) := by decide +kernel

/-- R121, R124, R133: one conversion of 800 reads 200, the full limit. -/
theorem test_gauge_full :
    Ex.after (.gaugeConversionEnd [800]) Ex.on
        (fun t => ((t.om.outlet .o1).reading, (t.om.outlet .o1).state, t.om.pass, t.hlc.queue.length))
      = some (200, .full, some .o2, 1) := by decide +kernel

/-- R47: the line of one character up to the deciding sample of its stop bit: sixteen samples of the start bit, sixteen of
each data bit from the least significant on, and nine of the stop bit. -/
def Ex.char (ch : Byte) (stop : Bool) : List Bool :=
  List.replicate 16 false ++ (List.range 8).flatMap (fun i => List.replicate 16 (ch.getLsbD i)) ++ List.replicate 9 stop

/-- R47: 0x55 is heard bit by bit, the least significant first; seven low samples and two high ones are a glitch; a low
stop bit is a framing error once the line rises, and R48: it is no break where the line was high in between. -/
theorem test_receiver :
    hearLine LineEvent.isCharacter (Ex.char 0x55 true) (.hunting true) = some (.hunting true, some (.character 0x55))
      ∧ hearLine LineEvent.isCharacter (Ex.char 0x03 true) (.hunting true) = some (.hunting true, some (.character 0x03))
      ∧ hearLine LineEvent.isCharacter (List.replicate 7 false ++ [true, true]) (.hunting true) = some (.hunting true, none)
      ∧ hearLine (fun e => e == .framingError) (Ex.char 0x55 false ++ [true]) (.hunting true)
          = some (.hunting true, some .framingError)
      ∧ hearLine (fun e => e == .framingError) (Ex.char 0x55 false ++ List.replicate 39 false) (.hunting true)
          = some (.hunting false, some .framingError) := by decide +kernel

/-- R48: a line low for twelve bit times is one break, and the receiver then waits for it to be high. -/
theorem test_break :
    Ex.after (.readerBreak (List.replicate 192 false)) Ex.on (fun t => (t.trp.counters.breaks, t.trp.receiver))
        = some (1, .afterBreak)
      ∧ Ex.after (.readerBreak (List.replicate 191 false)) Ex.on (fun t => t.trp.counters.breaks) = some 0
      ∧ hearLine (fun e => e == .brokenLine) (List.replicate 400 false) .afterBreak = some (.afterBreak, none) := by
  decide +kernel

/-- R12: the twentieth opposite sample is the edge, and nineteen with one of the level held are none. -/
theorem test_filter :
    hearInduction true (List.replicate 20 true) (.following false 0) = some (.following true 0, some (.changes true))
      ∧ hearInduction true (List.replicate 19 true ++ [false]) (.following false 0) = some (.following false 0, none) := by
  decide

/-- R13, R15: an eye that first shows BLOCKED adopts it and gives no edge; a fault input that first shows ASSERTED gives its
change. -/
theorem test_adoption :
    hearEye (List.replicate 20 true) (.adopting []) = some (.following true 0, none)
      ∧ hearFault (List.replicate 200 true) (.adopting []) = some (.following true 0, some (.adopts true))
      ∧ hearFault (List.replicate 200 false) (.adopting []) = some (.following false 0, none) := by decide +kernel

/-- R52, R56: the end mark of a good report binds its tag to the open window. -/
theorem test_report_bound :
    Ex.after (.characterReceived (Ex.char 0x03 true))
        { Ex.busy with trp := { Ex.busy.trp with
          assembly := some [0x31, 0x31, 0x39, 0x30, 0x30, 0x32, 0x33, 0x38, 0x34, 0x37, 0x35] } }
        (fun t => ((t.st.record 1).map BagRecord.tags, t.trp.counters.boundReads, t.trp.assembly))
      = some (some [1190023847], 1, none) := by decide +kernel

/-- R66, R67: a MANIFEST for cabin 7050 is inserted PLACED; its record expects 3. -/
theorem test_manifest :
    Ex.after (.manifest Ex.toMe (bytes5 150 ++ bytes2 7050 ++ [3, 1])) Ex.busy
        (fun t => (t.ms.entry 150, t.ms.cabin 7050, t.ms.counters.inserted))
      = some (some ⟨150, 7050, 3, true, .placed, .none, false⟩, some ⟨7050, 3, 1⟩, 1) := by decide +kernel

/-- R72, R71: the withdrawal of a tag this node delivered is reported and logged. -/
theorem test_withdrawal :
    Ex.after (.manifestWithdraw Ex.toMe (bytes5 101)) Ex.busy
        (fun t => (t.ms.entry 101, t.ms.cabin 7000, t.su.ring.map LogEntry.kind))
      = some (none, some ⟨7000, 2, 0⟩, [.inChute none, .misplaced 12 7 none .withdrawn]) := by decide +kernel

/-- R80, R81: the sweep's examination of tag 300 finds cabin 9000 unmapped and is the last. -/
theorem test_sweep :
    Ex.after .sweepExamination { Ex.busy with ms := { Ex.busy.ms with sweep := some 200 } }
        (fun t => (t.ms.table.length, t.ms.sweep, t.ms.counters.sweepsCompleted))
      = some (4, none, 1) := by decide +kernel

/-- R161, R162: a second claim that names another cabin disputes the entry. -/
theorem test_claim_disputed :
    Ex.after (.claim Ex.toMe (bytes2 0 ++ bytes5 100 ++ bytes2 7001 ++ [7, 14]))
        { Ex.busy with su := { Ex.busy.su with
          ring := [⟨0, .inChute none, [100], some 1, some 400, [⟨15, 100, 7000, 7⟩], .running, .claimed⟩] } }
        (fun t => (t.su.ring.map LogEntry.state, t.su.counters.disputes))
      = some ([.disputed], 1) := by decide +kernel

/-- R195: a RESET abandons both records and queues a round and a HELLO. -/
theorem test_reset :
    Ex.after (.reset Ex.toMe []) Ex.busy
        (fun t => (t.nc.state, t.st.records, t.st.counters.abandoned, t.st.counters.orphanedNotices,
          t.hlc.queue.map SendEntry.urgency))
      = some (.joining, [], 2, 1, [4, 4, 7]) := by decide +kernel

/-- R193: with nothing held the node goes on to STANDBY at once. -/
theorem test_standby :
    Ex.after (.standby Ex.toMe []) Ex.on (fun t => (t.nc.state, t.om.pass, t.om.refreshTimer))
      = some (.standby, none, none) := by decide +kernel

/-- R194: an addressed query wakes the node, whose reply carries its state. -/
theorem test_identity :
    Ex.after (.identity Ex.toMe 0) (Ex.inState Ex.on .standby) (fun t => (t.nc.state, t.hlc.queue.map fun e => e.telegram))
      = some (.sorting, [⟨0, .outletState 7 .openLow 100⟩, ⟨0, .outletState 8 .openLow 100⟩,
          ⟨14, .reply 1 .done [0x47, 0xA1, 0x01, 0x54, 0x42, 12, 3, 0, 0, 0xF6, 0xC7]⟩, Ex.hello]) := by decide +kernel

/-- R199, R204: the data of the reply for outlet 1: its role, state, summary, reading and four marks, the miss counter in four
bytes, the jam latch, and the counts of view entries for deck 7, one of them OPEN-LOW from another node. -/
theorem test_outlet_query :
    Ex.after (.outlet Ex.toMe 1) { Ex.busy with om := Ex.busy.om.setOutlet .o1 { Ex.busy.om.outlet .o1 with misses := 2 } }
        (fun t => t.hlc.queue.map fun e => e.telegram)
      = some [⟨14, .reply 3 .done [7, 1, 1, 100, 0, 0, 0, 0, 0, 0, 0, 2, 0, 1, 1]⟩, Ex.hello] := by decide +kernel

/-- With what has been read on the hall line as given. -/
def Ex.watching (s : State) (w : LineWatch) : State := { s with hlc := { s.hlc with watch := w } }

/-- With its HELLO on the line, this much of it sent and read, and this left to send. -/
def Ex.sending (read left : List Bool) : State :=
  { Ex.on with hlc := { Ex.on.hlc with queue := [⟨Ex.hello, 6, true⟩], watch := .attempting read left } }

/-- R169, R175: twelve recessive bits let the attempt start with the first byte's start bit and its urgency of 7; eleven do
not, and neither does a start bit read after them. -/
theorem test_idle :
    Ex.after (.attemptStart (List.replicate 12 false)) Ex.busy (fun t => (t.hlc.queue.map SendEntry.onLine, t.hlc.drive.levels.take 10))
        = some ([true], [true, true, true, true, true, true, false, false, false, false])
      ∧ Ex.after (.attemptStart (List.replicate 11 false)) Ex.busy (fun t => (t.hlc.queue.map SendEntry.onLine, t.hlc.drive))
        = some ([false], .quiet)
      ∧ Ex.after (.attemptStart (true :: List.replicate 11 false)) Ex.busy (fun t => t.hlc.drive) = some .quiet := by
  decide +kernel

/-- R170: a HELLO's urgency 7 is 0000 0111 and a HANDOFF's 1 is 0000 0001: the HELLO's sender reads dominant where it sent its
first 1, and has lost. -/
theorem test_arbitration :
    Ex.after (.attemptEnd [true, true, true, true, true, true, true]) (Ex.sending [] (Ex.hello.levels 12))
        (fun t => (t.hlc.queue, t.hlc.counters.arbitrationLost, t.hlc.drive, t.hlc.watch))
      = some ([⟨Ex.hello, 6, false⟩], 1, .quiet, .receiving [] [true, true, true, true, true, true, true]) := by
  decide +kernel

/-- R180, R181: a failure at score 255 detaches the node and gives the queue up. -/
theorem test_detached :
    Ex.after (.attemptEnd [false])
        { Ex.busy with hlc := { Ex.busy.hlc with
          queue := [⟨Ex.hello, 0, true⟩], score := 255, line := .mute
          watch := .attempting (List.replicate 20 true) [true, true, false, false, false] } }
        (fun t => (t.hlc.line, t.hlc.queue, t.hlc.counters.givenUp))
      = some (.detached, [], 1) := by decide +kernel

/-- R181: the 96th idle gap is the rejoin, whichever command brings it; the 95th is not. -/
theorem test_rejoin :
    let s (n : Nat) : State := { Ex.on with hlc := { Ex.on.hlc with score := 255, line := .detached, idleGaps := n } }
    Ex.after (.idleGap (List.replicate 12 false)) (s 95) (fun t => (t.hlc.line, t.hlc.idleGaps, t.hlc.counters.rejoins))
        = some (.active, 0, 1)
      ∧ Ex.after (.rejoin (List.replicate 12 false)) (s 95) (fun t => (t.hlc.line, t.hlc.score)) = some (.active, 0)
      ∧ Ex.after (.idleGap (List.replicate 12 false)) (s 94) (fun t => (t.hlc.line, t.hlc.idleGaps)) = some (.detached, 95) := by
  decide +kernel

/-- Bits written as digits, 1 for a dominant one. -/
def Ex.levels (digits : List Nat) : List Bool := digits.map fun d => d == 1

/-- R167, 11.1: a WAKE to node 12 from node 14 at urgency 1, bit by bit: the bytes 01 0E 06 0C 00 and the check value 3B51, each
between a dominant start bit and a recessive stop bit and dominant for 0. -/
def Ex.wakeLevels : List Bool :=
  Ex.levels
    [1, 1,1,1,1,1,1,1,0, 0,
     1, 1,1,1,1,0,0,0,1, 0,
     1, 1,1,1,1,1,0,0,1, 0,
     1, 1,1,1,1,0,0,1,1, 0,
     1, 1,1,1,1,1,1,1,1, 0,
     1, 1,1,0,0,0,1,0,0, 0,
     1, 1,0,1,0,1,1,1,0, 0]

/-- R167, R171, R173: those bits and a confirm slot are the WAKE; they are a receive error with another last bit of the check
value, with a dominant stop bit, with a recessive start bit and with an error mark over the delimiter. -/
theorem test_line :
    decodeLine 5 (Ex.wakeLevels ++ [true, false, false]) = some (.wake ⟨1, 14, 12, 5, 0x3B51, true⟩ [])
      ∧ (∀ line ∈ [Ex.wakeLevels.take 68 ++ [true, false], Ex.wakeLevels.take 9 ++ [true], Ex.wakeLevels.take 10 ++ [false],
          Ex.wakeLevels ++ [true, true], Ex.wakeLevels ++ [false, false, true]],
        decodeLine 5 line = some (.receiveError line))
      ∧ decodeLine 5 Ex.wakeLevels = none := by
  decide +kernel

/-- R169: the WAKE's last byte, 51, ends in one recessive bit; after its stop bit, a confirm slot left recessive is followed by
seven bits more of the idle gap, and one driven dominant by ten. A check value of 00FF reaches twelve within the telegram. -/
theorem test_gap_after_telegram :
    ([(0x3B51, false), (0x3B51, true), (0x00FF, false)].map fun x =>
        Ex.after (.wake ⟨1, 14, 13, 5, x.1, x.2⟩ []) Ex.busy fun t => t.hlc.watch)
      = [some (.between false 5), some (.between false 2), some (.between false 11)]
      ∧ Ex.after (.wake ⟨1, 14, 12, 5, 0x3B51, false⟩ []) Ex.busy (fun t => t.hlc.watch) = some (.between false 2) := by
  decide +kernel

/-! ## Witnesses: a state and operands that meet each statement's hypotheses, clause by clause -/

/-- With one command waiting. -/
def Ex.with (s : State) (c : Instr) : State := { s with pending := [c] }

/-- At an encoder count. -/
def Ex.at (s : State) (n : Count) : State := { s with st := { s.st with encoderCount := n } }

theorem witness_StepRunsFrontCommand :
    (Ex.with Ex.busy .encoderPulse).pending = .encoderPulse :: [] ∧ Ex.busy.pending = [] := ⟨rfl, rfl⟩

theorem witness_ConfigurationFrozen : Ex.busy.running = true ∧ Instr.encoderPulse ≠ .powerLoss := by decide

theorem witness_StartTakesNothing :
    (Ex.inState Ex.on .start).nc.powered = true ∧ (Ex.inState Ex.on .start).nc.state = .start
      ∧ (∀ straps image, Instr.encoderPulse ≠ .startComplete straps image) ∧ Instr.encoderPulse ≠ .powerLoss :=
  ⟨rfl, rfl, fun _ _ => by simp, by decide⟩

theorem witness_ConfigFaultOnlyCounts :
    (Ex.inState Ex.on .configFault).nc.powered = true ∧ (Ex.inState Ex.on .configFault).nc.state = .configFault
      ∧ Instr.wake Ex.toMe [] ≠ .powerLoss := by decide

/-- Each invariant at a step that touches what it speaks of. -/
theorem witness_BagAccountingKept :
    Ex.busy.st.listOk ∧ Ex.busy.st.balanced ∧ ∃ t, step (Ex.with Ex.busy (.exitEyeBlockedEdge .o1 [true])) = .next t :=
  ⟨by unfold SectionTracker.listOk; decide, by unfold SectionTracker.balanced; decide, Ex.exists_next (by decide +kernel)⟩

theorem witness_TrackingContentsKept :
    Ex.busy.st.contentsOk ∧ ∃ t, step (Ex.with (Ex.at Ex.busy 1850) (.inductionClearedEdge [false])) = .next t :=
  ⟨by unfold SectionTracker.contentsOk; decide, Ex.exists_next (by decide +kernel)⟩

theorem witness_FeedHoldKept :
    Ex.busy.statesOk ∧ Ex.busy.feedHoldOk ∧ ∃ t, step (Ex.with Ex.busy (.exitEyeBlockedEdge .o1 [true])) = .next t :=
  ⟨by unfold State.statesOk; decide, by unfold State.feedHoldOk; decide, Ex.exists_next (by decide +kernel)⟩

theorem Ex.busy_linked : Ex.busy.linked := by unfold State.linked; decide

theorem witness_BlocksLinkedKept :
    Ex.busy.st.listOk ∧ Ex.busy.linked ∧ ∃ t, step (Ex.with Ex.busy (.exitEyeBlockedEdge .o1 [true])) = .next t :=
  ⟨by unfold SectionTracker.listOk; decide, Ex.busy_linked, Ex.exists_next (by decide +kernel)⟩

theorem Ex.busy_samplers : Ex.busy.samplersOk :=
  ⟨⟨show 19 < 20 by decide, show 19 < 20 by decide,
    fun k => by cases k <;> exact ⟨show 19 < 20 by decide, show 199 < 200 by decide⟩⟩, trivial, fun _ h => by cases h⟩

theorem witness_ReadBalanceKept :
    Ex.busy.trp.balanced ∧ Ex.busy.samplersOk
      ∧ ∃ t, step (Ex.with Ex.busy (.readerBreak (List.replicate 192 false))) = .next t :=
  ⟨by unfold TagReadPort.balanced; decide, Ex.busy_samplers, Ex.exists_next (by decide +kernel)⟩

theorem Ex.busy_capacities : Ex.busy.ms.capacitiesOk := by unfold ManifestStore.capacitiesOk; decide
theorem Ex.busy_cabins : Ex.busy.ms.cabinsOk := by unfold ManifestStore.cabinsOk; decide
theorem Ex.busy_map : Ex.busy.ms.mapOk := by unfold ManifestStore.mapOk; decide

theorem witness_SliceKept :
    Ex.busy.ms.capacitiesOk ∧ Ex.busy.ms.cabinsOk
      ∧ ∃ t, step (Ex.with Ex.busy (.manifestWithdraw Ex.toMe (bytes5 101))) = .next t :=
  ⟨Ex.busy_capacities, Ex.busy_cabins, Ex.exists_next (by decide +kernel)⟩

theorem witness_DeckMapKept :
    Ex.busy.ms.mapOk ∧ ∃ t, step (Ex.with Ex.busy (.deckMap Ex.toMe (bytes2 7050 ++ bytes2 7200 ++ [9, 0]))) = .next t :=
  ⟨Ex.busy_map, Ex.exists_next (by decide +kernel)⟩

/-- With a purge running and telegrams held. -/
def Ex.purging (n : Nat) : State :=
  { Ex.busy with ms := { Ex.busy.ms with
      table := [], cabins := [], map := [], purgePending := true, purgeRunning := true
      hold := (List.range n).map fun i => .withdraw (i + 1) } }

theorem witness_HoldQueueKept :
    (Ex.purging 6).ms.holdOk ∧ ∃ t, step (Ex.with (Ex.purging 6) (.manifestWithdraw Ex.toMe (bytes5 101))) = .next t :=
  ⟨by unfold ManifestStore.holdOk; decide, Ex.exists_next (by decide +kernel)⟩

theorem witness_PeerViewKept :
    Ex.busy.om.viewOk ∧ ∃ t, step (Ex.with Ex.busy (.outletState Ex.toAll [8, 1, 40])) = .next t :=
  ⟨by unfold OutletMonitor.viewOk; decide, Ex.exists_next (by decide +kernel)⟩

theorem Ex.busy_outlets : Ex.busy.outletsOk := by
  unfold State.outletsOk
  rw [if_pos (by decide)]
  intro k hk
  unfold State.outletOk
  cases k
  · exact ⟨by decide, fun d h => by cases h; decide⟩
  · exact ⟨by decide, fun d h => by cases h; decide⟩
  · exact ⟨by decide, fun d h => by cases h⟩
  · exact absurd hk (by decide)

theorem witness_OutletStatesKept :
    Ex.busy.statesOk ∧ Ex.busy.outletsOk ∧ ∃ t, step (Ex.with Ex.busy (.deckClose Ex.toMe [7])) = .next t :=
  ⟨by unfold State.statesOk; decide, Ex.busy_outlets, Ex.exists_next (by decide +kernel)⟩

theorem Ex.busy_log : Ex.busy.su.logOk := by unfold StrayUnit.logOk LogEntry.ok; decide

theorem witness_StrayLogKept :
    Ex.busy.st.contentsOk ∧ Ex.busy.su.logOk
      ∧ ∃ t, step (Ex.with Ex.busy (.claim ⟨2, 15, 12, 0, 0, false⟩ (bytes2 0 ++ bytes5 100 ++ bytes2 7001 ++ [7, 15]))) = .next t :=
  ⟨by unfold SectionTracker.contentsOk; decide, Ex.busy_log, Ex.exists_next (by decide +kernel)⟩

theorem witness_HallLineKept :
    Ex.busy.hlc.queueOk ∧ Ex.busy.hlc.lineOk
      ∧ ∃ t, step (Ex.with Ex.busy (.attemptStart (List.replicate 12 false))) = .next t :=
  ⟨by unfold HallLine.queueOk; decide,
    ⟨by decide, rfl, show 0 < 12 by decide, fun ⟨_, _, h⟩ => (by cases h),
      fun ⟨e, h, h'⟩ => by rw [List.mem_singleton.mp h] at h'; cases h'⟩,
    Ex.exists_next (by decide +kernel)⟩

theorem witness_NodeStatesKept :
    Ex.busy.statesOk ∧ ∃ t, step (Ex.with Ex.busy (.reset Ex.toMe [])) = .next t :=
  ⟨by unfold State.statesOk; decide, Ex.exists_next (by decide +kernel)⟩

/-- A busy node asked to stand by still waits after an exit-eye confirmation: the premise and the last hypothesis hold. -/
theorem witness_StandbyEnteredWhenQuiet :
    (Ex.inState Ex.busy .standbyPending).st.listOk ∧ (Ex.inState Ex.busy .standbyPending).linked
      ∧ (Ex.inState Ex.busy .standbyPending).quiet = false
      ∧ ∃ t, step (Ex.with (Ex.inState Ex.busy .standbyPending) (.exitEyeBlockedEdge .o1 [true])) = .next t
          ∧ t.nc.state = .standbyPending :=
  ⟨by unfold SectionTracker.listOk; decide, Ex.busy_linked, by decide, by
    have h : Ex.after (.exitEyeBlockedEdge .o1 [true]) (Ex.inState Ex.busy .standbyPending) (fun t => t.nc.state)
        = some .standbyPending := by decide +kernel
    unfold Ex.after at h
    cases hx : exec (.exitEyeBlockedEdge .o1 [true]) (Ex.inState Ex.busy .standbyPending) with
    | next t => rw [hx] at h; exact ⟨t, hx, by simpa [Ex.next?] using h⟩
    | fault f => cases f
    | refused r => rw [hx] at h; simp [Ex.next?] at h⟩

/-- Without main power, with a claim window that was running. -/
def Ex.off : State := { Ex.busy with nc := .unpowered }

theorem witness_PowerOnRunsStart :
    (State.reset.nc.powered = false ∧ State.reset.ms.lowMark = true)
      ∧ (Ex.off.nc.powered = false ∧ Ex.off.ms.lowMark = false ∧ Ex.off.ms.purgePending = false
          ∧ Ex.off.su.ring[0]? = some ⟨0, .inChute none, [100], some 1, some 400, [⟨14, 100, 7000, 7⟩], .running, .claimed⟩)
      ∧ ({ Ex.off with ms := { Ex.off.ms with purgePending := true } } : State).ms.purgePending = true
      ∧ Ex.on.nc.powered = true := by decide

/-- R165: the OPEN entry of a window that was running when power went is UNCLAIMED and counted; a claimed one is not. -/
theorem test_power_on_ends_windows :
    Ex.after .powerOn
        { Ex.off with su := { Ex.off.su with
          ring := Ex.off.su.ring ++ [⟨1, .inChute none, [300], some 1, some 400, [], .running, .opened⟩], nextSequence := 2 } }
        (fun t => (t.su.ring.map LogEntry.state, t.su.counters.endedUnclaimed))
      = some ([.claimed, .unclaimed], 1) := by decide +kernel

/-- The image of node 12 with AUTO rate, by its bytes and words: every check at values that pass, and each code that the image
holds at its offset. -/
theorem witness_FirstFailingCheckNamed :
    ((Ex.cfg .auto 0).outlet .o3).fitted = true ∧ placementOk (Ex.cfg .auto 0) = true ∧ spanOk (Ex.cfg .auto 0) = true
      ∧ strayOutletsOk (Ex.cfg .auto 0) = true ∧ decksDistinct (Ex.cfg .auto 0) = true
      ∧ ((Ex.cfg .auto 0).outlet .o3).role = .stray ∧ ((Ex.cfg .auto 0).outlet .o2).role = .deck 8
      ∧ (let b (i : Nat) : Nat := ((Ex.image 6 800 31837).getD i 0).toNat
         let w (i : Nat) : Nat := 256 * b i + b (i + 1)
         imageRangesOk 12 (Ex.image 6 800 31837) = true ∧ b 0 = 3 ∧ b 2 = 6 ∧ b 21 = 0 ∧ w 6 = 4200 ∧ b 26 = 1 ∧ b 80 = 0
          ∧ w 64 = 3500 ∧ b 102 = 1)
      ∧ imageRangesOk 13 (Ex.image 6 800 31837) = false ∧ imageRangesOk 12 (Ex.image 0 800 31837) = false
      ∧ imageRangesOk 12 (Ex.image 6 1501 31837) = false := by
  decide +kernel

theorem witness_StartCompletes :
    (Ex.inState Ex.on .start).nc.powered = true ∧ (Ex.inState Ex.on .start).nc.state = .start
      ∧ startFault 12 (Ex.image 2 1500 10122) = some 6
      ∧ (startFault 12 (Ex.image 2 800 63175) = none
          ∧ (configOf 12 (Ex.image 2 800 63175)).readerFitted = true
          ∧ (configOf 12 (Ex.image 2 800 63175)).readerRate = .fixed 60)
      ∧ (startFault 12 (Ex.image 6 800 31837) = none ∧ (configOf 12 (Ex.image 6 800 31837)).readerRate = .auto)
      ∧ (Ex.inState Ex.busy .start).ms.table ≠ []
      ∧ (∀ x ∈ [NodeState.start, .configFault, .joining, .sorting, .standbyPending, .standby],
          (Ex.inState { Ex.on with nc := { Ex.on.nc with faultCode := some 3 } } x).nc.powered = true
            ∧ (Ex.inState { Ex.on with nc := { Ex.on.nc with faultCode := some 3 } } x).nc.faultCode = some 3) :=
  ⟨rfl, rfl, test_start_checks.1, ⟨test_start_checks.2.1, by decide +kernel⟩, ⟨test_start_checks.2.2.1, by decide +kernel⟩,
    by decide, by decide⟩

theorem witness_PowerLossKeepsRetained : Ex.busy.nc.powered = true ∧ Ex.off.nc.powered = false := by decide

/-- With record 1 alone, NEW, its window end at 1,500 + 4,200 + 60. -/
def Ex.lone (n : Count) : State :=
  { Ex.on with st := { Ex.on.st with encoderCount := n, records := [{ Ex.fresh with binding := .new }] } }

/-- R6, R7: the pulse that makes the count the window end takes the point: the record is lost, and a RESET after it abandons
none; one pulse earlier the record is kept. -/
theorem test_pulse_takes_point :
    Ex.after .encoderPulse (Ex.lone 5759) (fun t => (t.st.records, t.st.counters.lost)) = some ([], 1)
      ∧ Ex.after .encoderPulse (Ex.lone 5758) (fun t => (t.st.records.length, t.st.counters.lost)) = some (1, 0)
      ∧ ((Ex.next? (exec .encoderPulse (Ex.lone 5759))).bind fun t =>
          Ex.after (.reset Ex.toMe []) t fun u => (u.st.counters.lost, u.st.counters.abandoned)) = some (1, 0) := by
  decide +kernel

/-- A pulse that reaches nothing, one that reaches a window end, and a state with each kind of point reached. -/
theorem witness_EncoderPulseAdvances :
    Ex.busy.running = true ∧ Ex.on.duePoints = [] ∧ (Ex.lone 5760).duePoints = [.windowEnd 1]
      ∧ (let s := Ex.at { Ex.busy with
            trp := { Ex.busy.trp with windows := [⟨1, some 2150⟩] }
            dc := { Ex.busy.dc with commitments := ⟨1, .o2, .stray, 9, 2400, 2650, .armed⟩ :: Ex.busy.dc.commitments } } 6000
         s.duePoints = [.close 1, .span 1, .fire 1, .deadline 0, .arm 1 .o1, .arm 1 .o2, .arm 1 .o3, .windowEnd 0,
           .windowEnd 1, .expiry 11 6]) := by decide +kernel

theorem witness_SpeedWindowSaturates :
    Ex.on.running = true ∧ (4094 < 4095 ∧ ({ Ex.on with st := { Ex.on.st with windowCount := 4094 } } : State).running = true)
      ∧ ({ Ex.on with st := { Ex.on.st with windowCount := 4095 } } : State).st.windowCount = 4095 := by decide

/-- With n records. -/
def Ex.records (n : Nat) : State :=
  { Ex.on with st := { Ex.on.st with records := (List.range n).map fun i => BagRecord.create (BitVec.ofNat 16 i) 0 } }

/-- With the induction eye's filter as given. -/
def Ex.filtered (s : State) (f : InputFilter) : State := { s with inputs := { s.inputs with induction := f } }

theorem witness_InductionBlockedArrives :
    (∀ s ∈ [Ex.records 23, Ex.records 24, Ex.inState Ex.on .standby], s.running = true
        ∧ hearInduction true [true] s.inputs.induction = some (.following true 0, some (.changes true)))
      ∧ ((Ex.records 23).nc.state ≠ .standby ∧ (Ex.records 23).st.records.length = 23 ∧ (Ex.records 23).st.nextNumber = 0)
      ∧ (Ex.records 24).st.records.length = 24
      ∧ ((Ex.inState Ex.on .standby).nc.state = .standby ∧ (Ex.inState Ex.on .standby).st.records = [])
      ∧ (hearInduction true [true] (Ex.filtered Ex.on (.following false 18)).inputs.induction
            = some (.following false 19, none)
          ∧ hearInduction false [true] (Ex.filtered Ex.on (.following false 18)).inputs.induction
            = some (.following false 19, none))
      ∧ (hearInduction false [true] Ex.on.inputs.induction = none ∧ hearInduction true [false] Ex.busy.inputs.induction = none)
      ∧ (7 < 20 ∧ 7 + 12 < 20 ∧ 7 + 13 = 20 ∧ FilterEvent.isEdge (.changes true) = true
          ∧ FilterEvent.isBlockedEdge (.changes true) = true ∧ FilterEvent.isEdge (.adopts true) = false) := by decide

/-- With a passage open and these expectations, in place of the busy node's. -/
def Ex.passing (p : Passage) (es : List Expectation) (n : Count) : State :=
  { Ex.busy with st := { Ex.busy.st with passage := p, expectations := es, encoderCount := n } }

/-- The edge at 24, 25, 1,600 and 1,601 pulses: below the least length, at it, at the merge limit, and above it. -/
theorem witness_TrailingEdgeBinds :
    Ex.busy.running = true
      ∧ hearInduction false [false] Ex.busy.inputs.induction = some (.following false 0, some (.changes false))
      ∧ (Ex.passing .ignored [] 0).st.passage = .ignored ∧ (Ex.passing .none [] 0).st.passage = .none
      ∧ (Ex.passing (.ofRecord 7) [] 0).st.record 7 = none
      ∧ Ex.busy.st.record 1 = some Ex.fresh ∧ Ex.fresh.binding = .awaiting
      ∧ [1524, 1525, 3100, 3101].map (fun n => (BitVec.ofNat 16 n - Ex.fresh.leading).toNat) = [24, 25, 1600, 1601]
      ∧ Ex.busy.config.minLength = 25 ∧ Ex.busy.config.mergeLimit = 1600
      ∧ withinTolerance Ex.busy.config.tolerance (Ex.due 6 1540).length 1600 = true
      ∧ withinTolerance Ex.busy.config.tolerance (Ex.due 6 1539).length 1600 = false
      ∧ withinTolerance Ex.busy.config.tolerance (Ex.due 7 1660).length 1600 = true
      ∧ (Ex.busy.trp.window 1 = some ⟨1, none⟩ ∧ Ex.busy.config.scanTail = 300
          ∧ ({ Ex.busy with trp := { Ex.busy.trp with windows := [] } } : State).trp.window 1 = none
          ∧ ({ Ex.busy.config with scanTail := 0 } : NodeConfig).scanTail = 0 ∧ Ex.fresh.readState = .windowOpen)
      ∧ ((Ex.passing .none [] 0).st.expectations = []
          ∧ (Ex.passing .none [Ex.due 6 1539] 0).st.expectations = Ex.due 6 1539 :: []
          ∧ (Ex.passing .none [Ex.due 6 1539, Ex.due 7 1661] 0).st.expectations = Ex.due 6 1539 :: Ex.due 7 1661 :: []
          ∧ withinTolerance Ex.busy.config.tolerance (Ex.due 7 1661).length 1600 = false
          ∧ Ex.fired.binding ≠ .awaiting) := by decide

theorem witness_HandoffEyeHandsOff :
    (hearEye [true] Ex.busy.inputs.handoff = some (.following true 0, some (.changes true))
        ∧ hearEye [false] Ex.busy.inputs.handoff = some (.following false 0, none)
        ∧ hearEye [true, false] Ex.busy.inputs.handoff = none)
      ∧ (Ex.at Ex.busy 5640).running = true ∧ (Ex.at Ex.busy 5640).st.records = [Ex.fired] ++ Ex.fresh :: []
      ∧ (∀ x ∈ [Ex.fired], x.isFired = true) ∧ Ex.fresh.isFired = false
      ∧ hasReached (Ex.at Ex.busy 5640).st.encoderCount (Ex.fresh.leading + BitVec.ofNat 16 4200 - BitVec.ofNat 16 60) = true
      ∧ hasReached (Ex.at Ex.busy 5639).st.encoderCount (Ex.fresh.leading + BitVec.ofNat 16 4200 - BitVec.ofNat 16 60) = false
      ∧ Ex.on.st.records.find? (fun x => !x.isFired) = none := by decide

theorem witness_RecordPointsTaken :
    Ex.busy.running = true ∧ Ex.busy.st.record 1 = some Ex.fresh ∧ Ex.busy.st.record 7 = none
      ∧ [2099, 2100].map (fun n => hasReached (BitVec.ofNat 16 n) (Ex.fresh.leading + BitVec.ofNat 16 600)) = [false, true]
      ∧ [5759, 5760].map (fun n => hasReached (BitVec.ofNat 16 n) (Ex.fresh.leading + BitVec.ofNat 16 4260)) = [false, true]
      ∧ (∀ e ∈ Ex.busy.st.expectations, ¬ (e.node = 11 ∧ e.bag = 7))
      ∧ Ex.busy.st.expectations = [] ++ Ex.due 6 350 :: []
      ∧ [2899, 2900].map (fun n => hasReached (BitVec.ofNat 16 n) ((Ex.due 6 350).receipt + BitVec.ofNat 16 1500))
          = [false, true] := by decide

/-- A HANDOFF payload with a lap. -/
def Ex.handoff (bag : Count) (lap : Nat) : List Byte := handoffPayload ⟨bag, [200], 350, .read, lap, false, false, none⟩

/-- With record 1's length measured as 350. -/
def Ex.measured (es : List Expectation) : State :=
  { Ex.busy with st := { Ex.busy.st with
      records := [Ex.fired, { Ex.fresh with length := some 350 }], expectations := es, passage := .none } }

theorem witness_HandoffTaken :
    (Ex.busy.delivers classHandoff Ex.toMe (Ex.handoff 9 8) ∧ 7 < (readHandoff (Ex.handoff 9 8)).lap)
      ∧ (Ex.busy.delivers classHandoff Ex.toAll (Ex.handoff 9 7) ∧ broadcast Ex.toAll = true)
      ∧ (Ex.busy.delivers classHandoff Ex.toMe (Ex.handoff 9 7) ∧ broadcast Ex.toMe = false
          ∧ (readHandoff (Ex.handoff 9 7)).tagCount ≤ 2 ∧ 0 ∉ (readHandoff (Ex.handoff 9 7)).tags
          ∧ (readHandoff (Ex.handoff 9 7)).tags.Nodup ∧ (readHandoff (Ex.handoff 9 7)).lap ≤ 7
          ∧ (readHandoff (Ex.handoff 9 7)).readCode ∈ [1, 2, 3] ∧ (readHandoff (Ex.handoff 9 7)).reasonCode ≤ 8
          ∧ (∀ x ∈ Ex.busy.st.expectations, ¬ (x.node = Ex.toMe.sender.toNat ∧ x.bag = 9))
          ∧ (∀ r ∈ Ex.busy.st.records, r.binding ≠ .bound Ex.toMe.sender.toNat 9)
          ∧ (∀ r ∈ Ex.busy.st.records, ¬ (r.binding = .awaiting
              ∧ withinTolerance Ex.busy.config.tolerance (r.length.getD 0) 350 = true))
          ∧ Ex.busy.st.expectations.length < 16)
      ∧ (Ex.measured []).st.records.find? (fun r => r.binding == .awaiting
          && withinTolerance (Ex.measured []).config.tolerance (r.length.getD 0) 350)
          = some { Ex.fresh with length := some 350 }
      ∧ 16 ≤ (Ex.passing .none ((List.range 16).map fun i => Ex.due (BitVec.ofNat 16 i) 350) 0).st.expectations.length := by
  unfold State.delivers
  decide

theorem witness_BindingInherits :
    Ex.fresh.tags.length ≤ 2 ∧ Ex.fresh.tags.Nodup ∧ (Ex.due 6 350).tags.length ≤ 2 ∧ (Ex.due 6 350).tags.Nodup
      ∧ (Ex.cfg .auto 0).lapOrigin = false ∧ ({ Ex.cfg .auto 0 with lapOrigin := true } : NodeConfig).lapOrigin = true
      ∧ (Ex.fresh.readState = .windowOpen ∧ Ex.fired.readState = .read ∧ Ex.fired.tags.length ≤ 2 ∧ Ex.fired.tags.Nodup
          ∧ ({ Ex.fresh with readState := .noRead } : BagRecord).tags.length ≤ 2)
      ∧ 2 < (({ Ex.fresh with tags := [1, 2] } : BagRecord).tags ++ (Ex.due 6 350).tags.filter fun x => !([1, 2].contains x)).length := by
  decide

/-- With record 1's close point registered at count 2,150. -/
def Ex.closing (n : Count) : State :=
  { Ex.busy with
    st := { Ex.busy.st with encoderCount := n }
    trp := { Ex.busy.trp with windows := [⟨1, some 2150⟩] } }

theorem witness_ClosePointCloses :
    (Ex.closing 2149).running = true ∧ (Ex.closing 2149).trp.window 1 = some ⟨1, some 2150⟩
      ∧ hasReached (Ex.closing 2149).st.encoderCount 2150 = false ∧ hasReached (Ex.closing 2150).st.encoderCount 2150 = true
      ∧ (Ex.closing 2150).st.record 1 = some Ex.fresh ∧ Ex.busy.trp.window 0 = none ∧ Ex.busy.trp.window 1 = some ⟨1, none⟩ := by
  decide

/-- The armed record with tags, a reason and a length. -/
def Ex.bag (tags : List Nat) (reason : Option StrayReason) (length : Option Nat) : BagRecord :=
  { Ex.fired with tags := tags, reason := reason, length := length, commitment := none }

/-- The lines of the table of R96, in its order, each reached. -/
theorem witness_DecisionTable :
    let s := Ex.armed Ex.busy
    let full := s.onOm fun m => m.setOutlet .o1 { m.outlet .o1 with state := .full }
    let high := s.onOm fun m => m.setOutlet .o1 { m.outlet .o1 with reading := 150 }
    let closed := s.onOm fun m => { m with closed := [7] }
    let contest := s.onMs fun m => { m with map := [⟨7000, 7099, 7, .contested⟩] }
    let done := s.onMs fun m => { m with cabins := [⟨7000, 1, 1⟩] }
    decideRoute s .o3 (Ex.bag [100] (some .gap) (some 800)) = .commitStray
      ∧ decideRoute s .o3 (Ex.bag [100] (some .gap) (some 801)) = .pass
      ∧ decideRoute s .o3 (Ex.bag [100] (some .gap) none) = .passNoLength
      ∧ decideRoute s .o1 (Ex.bag [100] (some .gap) (some 400)) = .pass
      ∧ decideRoute s .o3 (Ex.bag [100] none (some 400)) = .pass
      ∧ decideRoute s .o1 (Ex.bag [] none (some 400)) = .pass
      ∧ decideRoute s .o1 (Ex.bag [999] none (some 400)) = .pass
      ∧ decideRoute s .o1 (Ex.bag [100, 200] none (some 400)) = .markStray .tagConflict
      ∧ decideRoute contest .o1 (Ex.bag [100] none (some 400)) = .markStray .mapConflict
      ∧ decideRoute s .o2 (Ex.bag [100] none (some 400)) = .pass
      ∧ decideRoute closed .o1 (Ex.bag [100] none (some 400)) = .markStray .deckClosed
      ∧ decideRoute s .o1 (Ex.bag [101] none (some 400)) = .markStray .duplicate
      ∧ decideRoute done .o1 (Ex.bag [100] none (some 400)) = .markStray .excess
      ∧ decideRoute s .o1 (Ex.bag [100] none none) = .passNoLength
      ∧ decideRoute s .o1 (Ex.bag [100] none (some 801)) = .pass
      ∧ decideRoute full .o1 (Ex.bag [100] none (some 400)) = .pass
      ∧ decideRoute high .o1 (Ex.bag [100] none (some 400)) = .deferBag
      ∧ decideRoute s .o1 (Ex.bag [100, 999] none (some 800)) = .commitDeck 100 7000 7 := by decide +kernel

theorem witness_ArmPointTaken :
    let s := Ex.armed Ex.busy
    s.running = true ∧ (∀ p ∈ s.dc.armPoints, ¬ (p.record = 7 ∧ p.outlet = .o1))
      ∧ s.dc.armPoints.find? (fun p => p.record == 0 && p.outlet == .o1) = some ⟨0, .o1, 1550⟩
      ∧ s.st.record 0 = some { Ex.fired with commitment := none }
      ∧ hasReached (Ex.at s 1549).st.encoderCount 1550 = false ∧ hasReached s.st.encoderCount 1550 = true
      ∧ (Ex.inState s .joining).nc.state = .joining ∧ s.nc.state ≠ .joining
      ∧ decideRoute s .o1 { Ex.fired with commitment := none } = .commitDeck 100 7000 7
      ∧ hasReached s.st.encoderCount 2059 = false ∧ s.dc.commitmentOf 0 = none := by decide +kernel

theorem witness_LeadAndFireCount :
    let c := Ex.cfg .auto 0
    (c.outlet .o1).fitted = true ∧ (c.outlet .o1).arm < (c.outlet .o1).centre ∧ 800 ≤ (c.outlet .o1).maxLength
      ∧ placementOk c = true ∧ spanOk c = true ∧ leadOf (c.outlet .o1) 760 = 91 ∧ leadOf (c.outlet .o1) 3340 = 400 := by decide

/-- With record 0's push in a phase, at a count, and outlet 1's pusher and miss counter as given. -/
def Ex.pushing (phase : Phase) (n : Count) (stroke : Option Nat) (misses : Nat) : State :=
  { Ex.busy with
    st := { Ex.busy.st with
      encoderCount := n, records := [{ Ex.fired with commitment := some ⟨.o1, 2059, 2309, phase⟩ }, Ex.fresh] }
    dc := { Ex.busy.dc with
      commitments := [⟨0, .o1, .deck 100 7000 7, 91, 2059, 2309, phase⟩], strokes := ⟨stroke, none, none, none⟩ }
    om := Ex.busy.om.setOutlet .o1 { Ex.busy.om.outlet .o1 with misses := misses } }

theorem witness_PushTimed :
    (Ex.pushing .armed 2058 none 0).running = true ∧ Ex.busy.dc.commitmentOf 7 = none
      ∧ (Ex.pushing .armed 2058 none 0).dc.commitmentOf 0 = some ⟨0, .o1, .deck 100 7000 7, 91, 2059, 2309, .armed⟩
      ∧ (Ex.pushing .armed 2058 none 0).st.record 0 = some { Ex.fired with commitment := some ⟨.o1, 2059, 2309, .armed⟩ }
      ∧ [2058, 2059].map (fun n => hasReached (BitVec.ofNat 16 n) 2059) = [false, true]
      ∧ [2308, 2309].map (fun n => hasReached (BitVec.ofNat 16 n) 2309) = [false, true]
      ∧ (Ex.pushing .armed 2059 none 0).dc.strokes.get .o1 = none
      ∧ (Ex.pushing .armed 2059 (some 300) 0).dc.strokes.get .o1 = some 300
      ∧ (Ex.pushing .fired 2309 none 1).dc.commitmentOf 0 = some ⟨0, .o1, .deck 100 7000 7, 91, 2059, 2309, .fired⟩
      ∧ ((Ex.pushing .fired 2309 none 1).om.outlet .o1).misses ≠ 2
      ∧ ((Ex.pushing .fired 2309 none 2).om.outlet .o1).misses = 2 := by decide

/-- With record 0's push FIRED at the stray outlet. -/
def Ex.straying (tags : List Nat) : State :=
  { Ex.busy with
    st := { Ex.busy.st with
      records := [{ Ex.fired with tags := tags, reason := some .gap, commitment := some ⟨.o3, 2059, 2309, .fired⟩ }] }
    dc := { Ex.busy.dc with commitments := [⟨0, .o3, .stray, 91, 2059, 2309, .fired⟩] } }

theorem witness_ExitEyeConfirms :
    (∀ k ∈ OutletNo.all, hearEye [true] (Ex.busy.inputs.exits.get k) = some (.following true 0, some (.changes true))
        ∧ hearEye [false] (Ex.busy.inputs.exits.get k) = some (.following false 0, none)
        ∧ hearEye [true, false] (Ex.busy.inputs.exits.get k) = none)
      ∧ (Ex.busy.config.outlet .o4).fitted = false ∧ (Ex.busy.config.outlet .o2).fitted = true
      ∧ (Ex.busy.running = true ∧ (Ex.busy.config.outlet .o1).fitted = true ∧ Ex.busy.st.records = [] ++ Ex.fired :: [Ex.fresh]
        ∧ Ex.busy.dc.commitments.find? (fun y => y.record == Ex.fired.number && (y.outlet == .o1 && y.phase == .fired))
            = some ⟨0, .o1, .deck 100 7000 7, 91, 2059, 2309, .fired⟩)
      ∧ (∀ tags ∈ [[], [100]], (Ex.straying tags).dc.commitments.find?
          (fun y => y.record == 0 && (y.outlet == .o3 && y.phase == .fired)) = some ⟨0, .o3, .stray, 91, 2059, 2309, .fired⟩)
      ∧ (∀ x ∈ Ex.busy.st.records, ∀ y ∈ Ex.busy.dc.commitments,
          ¬ (y.record = x.number ∧ y.outlet = .o2 ∧ y.phase = .fired)) := by decide

/-- With a converter on outlet 1 at an averaging count. -/
def Ex.averaging (n : Nat) : State := { Ex.busy with config := { Ex.busy.config with averaging := n } }

/-- With a pace timer running and no pass. -/
def Ex.paced : State :=
  { Ex.on with
    config := { Ex.on.config with gaugeMode := .paced }
    om := { Ex.on.om with pass := none, paceTimer := some 1000 } }

theorem witness_GaugeReadingTaken :
    (Ex.busy.running = true ∧ Ex.busy.om.pass = some .o1 ∧ ([800] : List (BitVec 10)).length = Ex.busy.config.averaging)
      ∧ ([320, 324, 331, 317] : List (BitVec 10)).length = (Ex.averaging 4).config.averaging
      ∧ (Ex.paced.om.pass = none ∧ ([1, 2] : List (BitVec 10)).length ≠ Ex.busy.config.averaging)
      ∧ (Ex.paced.running = true ∧ Ex.paced.config.gaugeMode = .paced ∧ Ex.paced.om.paceTimer = some 1000)
      ∧ Ex.busy.om.paceTimer = none := by decide

/-- With decks closed. -/
def Ex.shut (decks : List Nat) : State := { Ex.busy with om := { Ex.busy.om with closed := decks } }

theorem witness_OutletCommandsTaken :
    ((Ex.busy.config.outlet .o1).fitted = true ∧ (Ex.busy.config.outlet .o4).fitted = false
        ∧ hearFault [true] (Ex.busy.inputs.faults.get .o1) = some (.following true 0, some (.changes true))
        ∧ hearFault [false] (.following true 199) = some (.following false 0, some (.changes false))
        ∧ hearFault [true] (.adopting (List.replicate 199 true)) = some (.following true 0, some (.adopts true))
        ∧ hearFault [false] (.adopting (List.replicate 199 false)) = some (.following false 0, none)
        ∧ hearFault [true, true] (Ex.busy.inputs.faults.get .o1) = none)
      ∧ (Ex.busy.delivers classOutletRestore Ex.toMe [1] ∧ broadcast Ex.toMe = false ∧ (Ex.busy.config.outlet .o1).fitted = true)
      ∧ (Ex.busy.delivers classOutletRestore Ex.toAll [1] ∧ broadcast Ex.toAll = true)
      ∧ (∀ d ∈ [0, 21], Ex.busy.delivers classDeckClose Ex.toMe [BitVec.ofNat 8 d] ∧ (d = 0 ∨ 20 < d))
      ∧ (Ex.busy.delivers classDeckClose Ex.toMe [7] ∧ 7 ∉ Ex.busy.om.closed
          ∧ (Ex.busy.config.outlet .o1).deckServed = some 7 ∧ Ex.busy.config.servedDecks.Nodup)
      ∧ ((Ex.shut [7]).delivers classDeckClose Ex.toMe [7] ∧ 7 ∈ (Ex.shut [7]).om.closed)
      ∧ (Ex.busy.delivers classDeckClose Ex.toMe [20] ∧ Ex.busy.config.serves 20 = false)
      ∧ ((Ex.shut [7]).delivers classDeckOpen Ex.toMe [7] ∧ Ex.busy.delivers classDeckOpen Ex.toMe [20]
          ∧ 20 ∉ Ex.busy.om.closed) := by
  unfold State.delivers
  decide +kernel
theorem witness_OutletCommandsTaken_linked : Ex.busy.running = true ∧ Ex.busy.linked ∧ (Ex.shut [7]).linked :=
  ⟨by decide, Ex.busy_linked, Ex.busy_linked⟩

/-- With n view entries of deck 7. -/
def Ex.viewing (n : Nat) : State :=
  { Ex.busy with om := { Ex.busy.om with view := (List.range n).map fun i => ⟨i + 20, 7, .openLow, 50, 1000⟩ } }

theorem witness_RefreshAndViewTaken :
    (Ex.busy.running = true ∧ Ex.busy.om.refreshTimer = some 2000) ∧ (Ex.inState Ex.off .standby).om.refreshTimer = some 2000
      ∧ State.reset.om.refreshTimer = none
      ∧ (Ex.busy.delivers classOutletState Ex.toAll [7, 4, 40] ∧ 3 < byteAt [7, 4, 40] 1)
      ∧ (Ex.busy.delivers classOutletState Ex.toAll [20, 3, 40] ∧ Ex.busy.config.serves 20 = false)
      ∧ (Ex.busy.delivers classOutletState Ex.toAll [7, 1, 40] ∧ summaryCode .openLow = byteAt [7, 1, 40] 1
          ∧ 1 ≤ Ex.toAll.sender.toNat ∧ Ex.toAll.sender.toNat ≤ 60 ∧ Ex.busy.config.serves 7 = true
          ∧ (Ex.busy.om.view.filter (fun x => !(x.peer == 14 && x.deck == 7))).length < Ex.busy.om.view.length)
      ∧ (Ex.viewing 31).om.view.length < 32
      ∧ (((Ex.viewing 32).om.view.filter (fun x => !(x.peer == 14 && x.deck == 7))).length = (Ex.viewing 32).om.view.length
          ∧ 32 ≤ (Ex.viewing 32).om.view.length)
      ∧ (∃ e ∈ Ex.busy.om.view, e.peer = 14 ∧ e.deck = 7 ∧ e.lastHeard + 3000 * Ex.busy.config.refreshSec ≤ 7000)
      ∧ (∀ e ∈ Ex.busy.om.view, e.peer = 14 → e.deck = 7 → 6999 < e.lastHeard + 3000 * Ex.busy.config.refreshSec) := by
  unfold State.delivers
  decide

/-- With characters in assembly. -/
def Ex.assembling (cs : Option (List Byte)) (s : State) : State := { s with trp := { s.trp with assembly := cs } }

/-- The digits of tag 1190023847 with a check digit. -/
def Ex.digits (check : Byte) : List Byte := [0x31, 0x31, 0x39, 0x30, 0x30, 0x32, 0x33, 0x38, 0x34, 0x37, check]

/-- With a record that holds tags, its window the oldest. -/
def Ex.reading (tags : List Nat) : State :=
  { Ex.busy with st := { Ex.busy.st with records := [Ex.fired, { Ex.fresh with tags := tags }] } }

/-- With the receiver as given. -/
def Ex.hearing (r : Receiver) (s : State) : State := { s with trp := { s.trp with receiver := r } }

theorem witness_ReaderCharactersTaken_heard :
    (∀ ch ∈ [(0x02 : Byte), 0x03, 0x2F, 0x30, 0x39, 0x3A], hearLine LineEvent.isCharacter (Ex.char ch true)
          Ex.busy.trp.receiver = some (.hunting true, some (.character ch))
        ∧ (Ex.char ch true).length = 153 ∧ (Ex.char ch true).head? = some false)
      ∧ hearLine LineEvent.isCharacter [true] Ex.busy.trp.receiver = some (.hunting true, none)
      ∧ hearLine LineEvent.isCharacter [true] (Ex.hearing (.receiving (List.replicate 160 false)) Ex.busy).trp.receiver = none
      ∧ ((List.replicate 7 false ++ [true, true]).length = 9
          ∧ 2 ≤ (((List.replicate 7 false ++ [true, true]).drop (16 * 0 + 6)).take 3).count true)
      ∧ ((Ex.char 0x30 false).length = 153 ∧ (∀ i, i < 8 → (0x30#8).getLsbD i
            = decide (2 ≤ (((Ex.char 0x30 false).drop (16 * (i + 1) + 6)).take 3).count true))
          ∧ ¬ 2 ≤ (((Ex.char 0x30 false).drop (16 * 9 + 6)).take 3).count true ∧ (Ex.char 0x30 false).getLast? = some false) := by decide +kernel

theorem witness_ReaderCharactersTaken :
    Ex.busy.readerRuns = true ∧ Ex.busy.nc.state ≠ .standby ∧ Ex.busy.trp.assembly = none
      ∧ (Ex.assembling (some (Ex.digits 0x35)) Ex.busy).trp.assembly = some (Ex.digits 0x35)
      ∧ (Ex.digits 0x35).length = 11 ∧ (Ex.digits 0x35).dropLast.length < 11
      ∧ ((0x30#8).toNat ≤ 0x39 ∧ (0x2F#8).toNat < 0x30 ∧ 0x39 < (0x3A#8).toNat)
      ∧ (let d := (Ex.digits 0x35).map (fun c => c.toNat - 0x30)
         (d.take 10).foldl (fun n x => 10 * n + x) 0 = 1190023847 ∧ d[10]? = some ((d.take 10).sum % 10))
      ∧ (let d := (Ex.digits 0x36).map (fun c => c.toNat - 0x30); d[10]? ≠ some ((d.take 10).sum % 10))
      ∧ Ex.on.trp.windows = [] ∧ Ex.busy.trp.windows = ⟨1, none⟩ :: []
      ∧ (Ex.reading [1190023847]).st.record 1 = some { Ex.fresh with tags := [1190023847] }
      ∧ (Ex.reading [1, 2]).st.record 1 = some { Ex.fresh with tags := [1, 2] } ∧ 1190023847 ∉ [1, 2]
      ∧ ((Ex.inState Ex.busy .standby).readerRuns = true ∧ (Ex.inState Ex.busy .standby).nc.state = .standby)
      ∧ State.reset.readerRuns = false := by decide

/-- With an AUTO rate, in a rate state, after framing errors. -/
def Ex.auto (r : RateState) (run : Nat) : State :=
  { Ex.on with
    config := { Ex.on.config with readerRate := .auto }
    trp := { Ex.on.trp with rateState := r, framingRun := run } }

theorem witness_ReaderFaultsTaken_heard :
    (∀ n ∈ [153, 191], hearLine (fun e => e == .framingError) [true]
        (Ex.hearing (.receiving (List.replicate n false)) Ex.busy).trp.receiver = some (.hunting true, some .framingError))
      ∧ hearLine (fun e => e == .brokenLine) [false] (Ex.hearing (.receiving (List.replicate 191 false)) Ex.busy).trp.receiver
          = some (.afterBreak, some .brokenLine)
      ∧ (∀ row ∈ [fun e => e == LineEvent.framingError, fun e => e == LineEvent.brokenLine],
          hearLine row [true] Ex.busy.trp.receiver = some (.hunting true, none)
            ∧ hearLine row (Ex.char 0x30 true) Ex.busy.trp.receiver = none)
      ∧ 152 ≤ (Ex.char 0x30 false).length ∧ (Ex.char 0x30 false).length < 192
      ∧ ((List.replicate 152 false).length = 152 ∧ ((List.replicate 152 false).drop 150).count true = 0)
      ∧ ((Ex.char 0x30 false ++ List.replicate 38 false).length = 191 ∧ true ∈ Ex.char 0x30 false ++ List.replicate 38 false
          ∧ true ∉ List.replicate 191 false) := by decide +kernel

theorem witness_ReaderFaultsTaken :
    (Ex.busy.readerRuns = true ∧ Ex.busy.config.readerRate ≠ .auto)
      ∧ ((Ex.auto .running 2).readerRuns = true ∧ (Ex.auto .running 2).trp.framingRun < 3)
      ∧ ((Ex.auto .running 3).readerRuns = true ∧ (Ex.auto .running 3).config.readerRate = .auto
          ∧ 3 ≤ (Ex.auto .running 3).trp.framingRun)
      ∧ (Ex.busy.nc.state ≠ .standby ∧ Ex.busy.trp.windows = [] ++ ⟨1, none⟩ :: [] ∧ Ex.busy.st.record 1 = some Ex.fresh
          ∧ Ex.fresh.tags = [])
      ∧ ((Ex.reading [5]).trp.windows = [⟨1, none⟩] ∧ (Ex.reading [5]).st.record 1 = some { Ex.fresh with tags := [5] })
      ∧ (Ex.inState Ex.on .standby).nc.state = .standby ∧ (Ex.auto .measuring 0).readerRuns = false := by decide

theorem witness_RateMeasurementTaken :
    (Ex.auto .measuring 0).readerMeasures = true ∧ Ex.busy.readerMeasures = false
      ∧ (∀ n ∈ [2, 3, 32762, 32763, 65534], hearTicks RateEvent.isMeasured [false] ⟨some true, some ⟨n, 4⟩⟩
          = some (⟨none, none⟩, some (.measured (n + 1))))
      ∧ hearTicks RateEvent.isOverflow [false] ⟨some true, some ⟨65535, 4⟩⟩ = some (⟨some false, none⟩, some .overflows)
      ∧ hearTicks RateEvent.isMeasured [false] ⟨some true, some ⟨65535, 4⟩⟩ = none
      ∧ hearTicks RateEvent.isOverflow [false] ⟨some true, some ⟨65534, 3⟩⟩ = some (⟨some false, some ⟨65535, 4⟩⟩, none)
      ∧ hearTicks RateEvent.isOverflow [false] ⟨some true, some ⟨65534, 4⟩⟩ = none
      ∧ (Ex.auto .measuring 0).trp.measurement.timing = none ∧ 8 * 1 ≤ 65535 ∧ 8 * 8191 ≤ 65535
      ∧ [3, 4, 32763, 32764].map dividerOf = [1, 1, 4095, 4095] := by decide

/-- The busy node without its stray outlet. -/
def Ex.deckNode : State :=
  { Ex.busy with config := { Ex.busy.config with outlets := { Ex.busy.config.outlets with o3 := .blank } } }

theorem witness_ReportsAndCallsTaken :
    (Ex.deckNode.delivers classLost Ex.toAll [12, 7, 60] ∧ Ex.deckNode.config.isStrayNode = false)
      ∧ (Ex.busy.delivers classLost Ex.toAll [12, 8, 12] ∧ Ex.busy.config.isStrayNode = true ∧ 7 < (readLost [12, 8, 12]).lap)
      ∧ (Ex.busy.delivers classLost Ex.toAll [1, 7, 60] ∧ (readLost [1, 7, 60]).lap ≤ 7
          ∧ (readLost [1, 7, 60]).reporter ≤ 60 ∧ 1 ≤ (readLost [1, 7, 60]).lastSection)
      ∧ (Ex.busy.delivers classMisplaced Ex.toAll (bytes5 100 ++ [7, 4, 0, 1])
          ∧ 3 < byteAt (bytes5 100 ++ [7, 4, 0, 1]) 6)
      ∧ (Ex.deckNode.delivers classMisplaced Ex.toAll (bytes5 100 ++ [7, 2, 0, 0]))
      ∧ (Ex.busy.delivers classMisplaced Ex.toAll (bytes5 100 ++ [7, 2, 0, 0])
          ∧ causeCode .withdrawn = byteAt (bytes5 100 ++ [7, 2, 0, 0]) 6)
      ∧ (Ex.busy.delivers classMisplaced Ex.toAll (bytes5 100 ++ [20, 1] ++ bytes2 32767)
          ∧ causeCode .moved = byteAt (bytes5 100 ++ [20, 1] ++ bytes2 32767) 6
          ∧ wordAt (bytes5 100 ++ [20, 1] ++ bytes2 32767) 7 = 32767)
      ∧ (Ex.busy.delivers classStrayCall Ex.toAll [0, 1] ∧ readCallTags [0, 1] = [])
      ∧ (Ex.busy.delivers classStrayCall Ex.toAll ([0, 1] ++ bytes5 100 ++ bytes5 999)
          ∧ readCallTags ([0, 1] ++ bytes5 100 ++ bytes5 999) = [100, 999]
          ∧ ([100, 999].filterMap Ex.busy.claimFor).length = 1) := by
  unfold State.delivers
  decide +kernel
theorem witness_ReportsAndCallsTaken_slice : Ex.busy.ms.capacitiesOk := Ex.busy_capacities

/-- A CLAIM payload from node 14 to stray 0. -/
def Ex.claim (tag deck : Nat) : List Byte := bytes2 0 ++ bytes5 tag ++ bytes2 7001 ++ [BitVec.ofNat 8 deck, 14]

/-- With one stray for tag 100: its claims, window and state. -/
def Ex.asked (claims : List ClaimFields) (w : ClaimWindow) (x : ClaimState) : State :=
  { Ex.busy with su := { Ex.busy.su with ring := [⟨0, .inChute none, [100], some 1, some 400, claims, w, x⟩] } }

theorem witness_ClaimsTaken :
    (Ex.deckNode.delivers classClaim Ex.toMe (Ex.claim 100 7) ∧ Ex.deckNode.config.isStrayNode = false)
      ∧ (Ex.busy.delivers classClaim Ex.toMe (Ex.claim 100 21) ∧ 20 < (readClaim (Ex.claim 100 21)).deck)
      ∧ ((Ex.asked [] .running .opened).delivers classClaim Ex.toMe (Ex.claim 100 20)
          ∧ (Ex.asked [] .running .opened).su.ring.find? (fun e => e.sequence == readSequence (Ex.claim 100 20))
              = some ⟨0, .inChute none, [100], some 1, some 400, [], .running, .opened⟩
          ∧ (readClaim (Ex.claim 100 20)).deck = 20 ∧ (readClaim (Ex.claim 100 20)).node = Ex.toMe.sender.toNat)
      ∧ Ex.after (.claim Ex.toMe (Ex.claim 100 7)) (Ex.asked [] .ended .unclaimed) (fun t => t.su.counters.claimsTaken) = some 1
      ∧ Ex.after (.claim Ex.toMe (Ex.claim 100 7)) (Ex.asked [⟨15, 100, 7000, 7⟩] .ended .claimed)
          (fun t => t.su.counters.claimsLate) = some 1
      ∧ Ex.after (.claim Ex.toMe (Ex.claim 101 7)) (Ex.asked [] .running .opened) (fun t => t.su.counters.claimsMismatched)
          = some 1
      ∧ Ex.after (.claim Ex.toMe (Ex.claim 100 7)) (Ex.asked [] .none .notAsked) (fun t => t.su.counters.claimsUnasked)
          = some 1
      ∧ (Ex.busy.running = true ∧ (∀ w ∈ Ex.busy.su.timers, w.sequence ≠ 7))
      ∧ (⟨0, 2000⟩ ∈ Ex.busy.su.timers
          ∧ ⟨0, .inChute none, [100], some 1, some 400, [⟨14, 100, 7000, 7⟩], .running, .claimed⟩ ∈ Ex.busy.su.ring
          ∧ (Ex.busy.su.ring.map LogEntry.sequence).Nodup) := by
  unfold State.delivers
  decide +kernel
theorem witness_ClaimsTaken_log :
    Ex.busy.su.logOk ∧ LogEntry.ok ⟨0, .inChute none, [100], some 1, some 400, [], .running, .opened⟩ :=
  ⟨Ex.busy_log, by unfold LogEntry.ok; decide⟩

/-- JOINING, with the join timer running. -/
def Ex.joining : State := { Ex.on with nc := { Ex.on.nc with state := .joining, joinTimer := some 5000 } }

theorem witness_JoinAndResetTaken :
    (Ex.joining.nc.state = .joining ∧ Ex.joining.nc.joinTimer = some 5000) ∧ Ex.busy.nc.state ≠ .joining
      ∧ (Ex.busy.delivers classReset Ex.toMe [] ∧ Ex.busy.config.servedDecks.Nodup ∧ Ex.busy.nc.state ≠ .standby)
      ∧ ((Ex.inState Ex.on .standby).delivers classReset Ex.toMe [] ∧ (Ex.inState Ex.on .standby).nc.state = .standby) := by
  unfold State.delivers
  decide
theorem witness_JoinAndResetTaken_linked : Ex.busy.linked ∧ (Ex.inState Ex.on .standby).linked :=
  ⟨Ex.busy_linked, by unfold State.linked; decide⟩

theorem witness_StandbyWakeHelloTaken :
    (Ex.joining.delivers classStandby Ex.toMe [] ∧ Ex.joining.nc.state ≠ .sorting)
      ∧ (Ex.busy.delivers classStandby Ex.toMe [] ∧ Ex.busy.nc.state = .sorting ∧ Ex.busy.quiet = false)
      ∧ (Ex.on.delivers classStandby Ex.toMe [] ∧ Ex.on.nc.state = .sorting ∧ Ex.on.quiet = true)
      ∧ (Ex.inState Ex.busy .standbyPending).delivers classWake Ex.toMe []
      ∧ (Ex.inState Ex.on .standby).delivers classWake Ex.toMe []
      ∧ Ex.on.delivers classWake Ex.toMe []
      ∧ (Ex.busy.delivers classHello Ex.toAll (helloPayload ⟨14, .sorting, false, 1, [9]⟩))
      ∧ (Ex.busy.delivers classHello ⟨7, 12, 0, 0, 0, false⟩ (helloPayload ⟨12, .sorting, false, 1, [9]⟩)
          ∧ (12#6).toNat = Ex.busy.config.address) := by
  unfold State.delivers
  decide

/-- A MANIFEST payload. -/
def Ex.manifest (tag cabin pieces : Nat) : List Byte := bytes5 tag ++ bytes2 cabin ++ [BitVec.ofNat 8 pieces, 1]

/-- With w entries for each of m cabins from 9,000 on. -/
def Ex.grid (w m : Nat) (x : Placement) : ManifestStore :=
  { Ex.on.ms with
    table := (List.range m).flatMap fun j => (List.range w).map fun i =>
      ⟨1001 + (w * j + i), 9000 + j, 1, false, x, .none, false⟩
    cabins := (List.range m).map fun j => ⟨9000 + j, w, 0⟩ }

theorem Ex.sum_at (w c m : Nat) :
    (((List.range m).map fun j => if j = c then w else 0).sum) = if c < m then w else 0 := by
  induction m with
  | zero => simp
  | succ m ih =>
    rw [List.range_succ, List.map_append, List.sum_append, ih]
    simp only [List.map_cons, List.map_nil, List.sum_cons, List.sum_nil]
    split <;> split <;> split <;> omega

theorem Ex.grid_length (w m : Nat) (x : Placement) : (Ex.grid w m x).table.length = m * w := by
  simp [Ex.grid, List.length_flatMap]

theorem Ex.grid_unplaced (w m : Nat) :
    unplacedCount (Ex.grid w m .unplaced).table = m * w ∧ unplacedCount (Ex.grid w m .placed).table = 0 := by
  constructor
  · rw [← Ex.grid_length w m .unplaced]
    unfold unplacedCount
    rw [List.countP_eq_length]
    intro e he
    simp only [Ex.grid, List.mem_flatMap, List.mem_map] at he
    obtain ⟨_, _, _, _, rfl⟩ := he
    rfl
  · unfold unplacedCount
    rw [List.countP_eq_zero]
    intro e he
    simp only [Ex.grid, List.mem_flatMap, List.mem_map] at he
    obtain ⟨_, _, _, _, rfl⟩ := he
    simp

theorem Ex.grid_entries (w m c : Nat) (x : Placement) (h : c < m) :
    ((Ex.grid w m x).entriesOf (9000 + c)).length = w := by
  have : ∀ j, (List.countP (fun e : TagEntry => e.cabin == 9000 + c) ((List.range w).map fun i =>
      (⟨1001 + (w * j + i), 9000 + j, 1, false, x, .none, false⟩ : TagEntry))) = if j = c then w else 0 := by
    intro j
    rw [List.countP_map]
    split
    · rename_i h
      subst h
      rw [List.countP_eq_length.mpr (by simp)]
      simp
    · rename_i h
      rw [List.countP_eq_zero.mpr (by simp; omega)]
  simp only [ManifestStore.entriesOf, ← List.countP_eq_length_filter, Ex.grid, List.countP_flatMap]
  simp only [Function.comp_def, this]
  rw [Ex.sum_at, if_pos h]

theorem Ex.grid_slice (w m : Nat) (x : Placement) (hw : 1 ≤ w ∧ w ≤ 15) (hm : m ≤ 1024) (hn : m * w ≤ 3072)
    (hx : x = .unplaced → m * w ≤ 512) : (Ex.grid w m x).capacitiesOk ∧ (Ex.grid w m x).cabinsOk := by
  refine ⟨⟨by rw [Ex.grid_length]; exact hn, ?_, by simpa [Ex.grid, Config.maxCabins] using hm, ?_, ?_⟩, ?_, ?_⟩
  · cases x with
    | placed => rw [(Ex.grid_unplaced w m).2]; decide
    | unplaced => rw [(Ex.grid_unplaced w m).1]; exact hx rfl
  · rw [List.pairwise_map]
    simp only [Ex.grid, List.pairwise_flatMap, List.pairwise_map, List.mem_map, List.mem_range]
    refine ⟨fun j _ => List.Pairwise.imp (fun h => by omega) List.pairwise_lt_range, ?_⟩
    refine List.Pairwise.imp (fun {a b} h => ?_) List.pairwise_lt_range
    rintro _ ⟨i, hi, rfl⟩ _ ⟨k, hk, rfl⟩
    have : w * a + w ≤ w * b := by rw [← Nat.mul_succ]; exact Nat.mul_le_mul_left w h
    show 1001 + (w * a + i) < 1001 + (w * b + k)
    omega
  · simp only [Ex.grid, List.pairwise_map, List.map_map]
    exact List.Pairwise.imp (fun h => by simpa using h) List.pairwise_lt_range
  · intro e he
    simp only [Ex.grid, List.mem_flatMap, List.mem_map] at he ⊢
    obtain ⟨j, hj, i, _, rfl⟩ := he
    exact ⟨⟨9000 + j, w, 0⟩, ⟨j, hj, rfl⟩, rfl⟩
  · intro r hr
    simp only [Ex.grid, List.mem_map, List.mem_range] at hr
    obtain ⟨j, hj, rfl⟩ := hr
    refine ⟨by rw [Ex.grid_entries w m j x hj]; exact hw.1, by rw [Ex.grid_entries w m j x hj]; exact hw.2, ?_, by simp,
      hw.2⟩
    symm
    rw [List.countP_eq_zero]
    intro e he
    have := List.mem_of_mem_filter he
    simp only [Ex.grid, List.mem_flatMap, List.mem_map] at this
    obtain ⟨_, _, _, _, rfl⟩ := this
    simp [TagEntry.marked]

theorem witness_ManifestInserts :
    (Ex.busy.delivers classManifest Ex.toMe (Ex.manifest 150 32768 1)
        ∧ 32767 < (readManifest (Ex.manifest 150 32768 1)).cabin)
      ∧ (Ex.busy.delivers classManifest Ex.toMe (Ex.manifest 9999999999 32767 15)
          ∧ (readManifest (Ex.manifest 9999999999 32767 15)).tag ≠ 0
          ∧ (readManifest (Ex.manifest 9999999999 32767 15)).cabin ≤ 32767
          ∧ (readManifest (Ex.manifest 9999999999 32767 15)).pieces ≤ 15
          ∧ Ex.busy.ms.entry (readManifest (Ex.manifest 9999999999 32767 15)).tag = none
          ∧ lookupCabin Ex.busy.ms.map 32767 = .unmapped ∧ unplacedCount Ex.busy.ms.table < 512
          ∧ Ex.busy.ms.table.length < 3072 ∧ Ex.busy.ms.cabins.length < 1024
          ∧ (Ex.busy.ms.entriesOf 32767).length < 15 ∧ Ex.busy.ms.purgeRunning = false)
      ∧ (lookupCabin ([⟨7000, 7099, 9, .clear⟩] : List MapRange) 7000 = .deck 9 ∧ Ex.busy.config.serves 9 = false)
      ∧ (lookupCabin Ex.busy.ms.map 7000 = .deck 7 ∧ Ex.busy.config.serves 7 = true)
      ∧ Ex.busy.ms.purgeRunning = false := by
  unfold State.delivers
  decide +kernel

theorem Ex.grid_cabin_none (w m : Nat) (x : Placement) (h : m ≤ 1024) : (Ex.grid w m x).cabin 20000 = none := by
  rw [ManifestStore.cabin, List.find?_eq_none]
  intro r hr
  simp only [Ex.grid, List.mem_map, List.mem_range] at hr
  obtain ⟨j, hj, rfl⟩ := hr
  simp
  omega

/-- R67: a full table, 512 unplaced entries, 1,024 cabin records without the cabin, and a cabin with 15 pieces. -/
theorem witness_ManifestInserts_full :
    (Ex.grid 3 1024 .placed).table.length = 3072
      ∧ ((Ex.grid 1 512 .unplaced).table.length < 3072 ∧ unplacedCount (Ex.grid 1 512 .unplaced).table = 512)
      ∧ ((Ex.grid 1 1024 .placed).table.length < 3072 ∧ unplacedCount (Ex.grid 1 1024 .placed).table < 512
          ∧ (Ex.grid 1 1024 .placed).cabins.length = 1024 ∧ (Ex.grid 1 1024 .placed).cabin 20000 = none)
      ∧ ((Ex.grid 15 1 .unplaced).entriesOf (9000 + 0)).length = 15 := by
  refine ⟨Ex.grid_length .., ⟨by rw [Ex.grid_length]; decide, (Ex.grid_unplaced ..).1⟩,
    ⟨by rw [Ex.grid_length]; decide, by rw [(Ex.grid_unplaced ..).2]; decide, by simp [Ex.grid], Ex.grid_cabin_none _ _ _ (by decide)⟩,
    Ex.grid_entries 15 1 0 .unplaced (by decide)⟩
theorem witness_ManifestInserts_slice :
    (Ex.busy.ms.capacitiesOk ∧ Ex.busy.ms.cabinsOk)
      ∧ ((Ex.grid 3 1024 .placed).capacitiesOk ∧ (Ex.grid 3 1024 .placed).cabinsOk)
      ∧ ((Ex.grid 1 512 .unplaced).capacitiesOk ∧ (Ex.grid 1 512 .unplaced).cabinsOk)
      ∧ ((Ex.grid 1 1024 .placed).capacitiesOk ∧ (Ex.grid 1 1024 .placed).cabinsOk)
      ∧ (Ex.grid 15 1 .unplaced).capacitiesOk ∧ (Ex.grid 15 1 .unplaced).cabinsOk :=
  ⟨⟨Ex.busy_capacities, Ex.busy_cabins⟩,
    Ex.grid_slice 3 1024 .placed (by decide) (by decide) (by decide) (by decide),
    Ex.grid_slice 1 512 .unplaced (by decide) (by decide) (by decide) (by decide),
    Ex.grid_slice 1 1024 .placed (by decide) (by decide) (by decide) (by decide),
    Ex.grid_slice 15 1 .unplaced (by decide) (by decide) (by decide) (by decide)⟩

/-- A PLACED entry before all others, for a cabin of its own. -/
def Ex.first : TagEntry := ⟨1, 8000, 1, false, .placed, .none, false⟩

/-- A store with that entry added. -/
def Ex.placing (m : ManifestStore) : ManifestStore :=
  { m with table := Ex.first :: m.table, cabins := ⟨8000, 1, 0⟩ :: m.cabins }

theorem Ex.placing_entriesOf (m : ManifestStore) (c : Nat) (h : c ≠ 8000) : (Ex.placing m).entriesOf c = m.entriesOf c := by
  simp [ManifestStore.entriesOf, Ex.placing, Ex.first, Ne.symm h]

theorem Ex.placing_slice (m : ManifestStore) (h : m.capacitiesOk) (hc : m.cabinsOk) (ht : ∀ e ∈ m.table, 1 < e.tag)
    (hr : ∀ r ∈ m.cabins, 8000 < r.cabin) (hn : m.table.length < 3072) (hm : m.cabins.length < 1024) :
    (Ex.placing m).capacitiesOk ∧ (Ex.placing m).cabinsOk := by
  obtain ⟨_, h2, _, h4, h5⟩ := h
  obtain ⟨c1, c2⟩ := hc
  have h0 : m.entriesOf 8000 = [] := by
    rw [ManifestStore.entriesOf, List.filter_eq_nil_iff]
    intro e he hx
    obtain ⟨r, hrm, hre⟩ := c1 e he
    have := hr r hrm
    simp at hx
    omega
  have h8 : (Ex.placing m).entriesOf 8000 = [Ex.first] := by
    simpa [ManifestStore.entriesOf, Ex.placing, Ex.first] using h0
  refine ⟨⟨?_, ?_, ?_, ?_, ?_⟩, ?_, ?_⟩
  · simpa [Ex.placing, Config.maxTagEntries] using hn
  · simpa [Ex.placing, Ex.first, unplacedCount] using h2
  · simpa [Ex.placing, Config.maxCabins] using hm
  · simpa [Ex.placing, Ex.first] using ⟨ht, h4⟩
  · simpa [Ex.placing] using ⟨hr, h5⟩
  · intro e he
    simp only [Ex.placing, List.mem_cons] at he ⊢
    rcases he with rfl | he
    · exact ⟨_, .inl rfl, rfl⟩
    · obtain ⟨r, hrm, hre⟩ := c1 e he
      exact ⟨r, .inr hrm, hre⟩
  · intro r hrm
    simp only [Ex.placing, List.mem_cons] at hrm
    rcases hrm with rfl | hrm
    · rw [h8]
      decide
    · rw [Ex.placing_entriesOf m r.cabin (by have := hr r hrm; omega)]
      exact c2 r hrm

/-- 512 UNPLACED entries and one PLACED. -/
def Ex.mixed : ManifestStore := Ex.placing (Ex.grid 1 512 .unplaced)

theorem Ex.mixed_slice : Ex.mixed.capacitiesOk ∧ Ex.mixed.cabinsOk := by
  obtain ⟨h, hc⟩ := Ex.grid_slice 1 512 .unplaced (by decide) (by decide) (by decide) (by decide)
  refine Ex.placing_slice _ h hc ?_ ?_ (by rw [Ex.grid_length]; decide) (by simp [Ex.grid])
  · intro e he
    simp only [Ex.grid, List.mem_flatMap, List.mem_map] at he
    obtain ⟨_, _, _, _, rfl⟩ := he
    show 1 < 1001 + _
    omega
  · intro r hr
    simp only [Ex.grid, List.mem_map] at hr
    obtain ⟨_, _, rfl⟩ := hr
    show 8000 < 9000 + _
    omega

theorem Ex.mixed_unplaced : unplacedCount Ex.mixed.table = 512 := by
  have := (Ex.grid_unplaced 1 512).1
  simpa [Ex.mixed, Ex.placing, Ex.first, unplacedCount] using this

theorem Ex.grid_entry (w m : Nat) (x : Placement) :
    (Ex.grid (w + 1) (m + 1) x).entry 1001 = some ⟨1001, 9000, 1, false, x, .none, false⟩ := by
  simp [Ex.grid, ManifestStore.entry, List.range_succ_eq_map]

theorem witness_ManifestAmends :
    (Ex.busy.delivers classManifest Ex.toMe (Ex.manifest 101 7000 3)
        ∧ Ex.busy.ms.entry 101 = some ⟨101, 7000, 2, false, .placed, .self .o1 7, false⟩)
      ∧ (Ex.busy.delivers classManifest Ex.toMe (Ex.manifest 101 7001 3) ∧ lookupCabin Ex.busy.ms.map 7001 = .deck 7
          ∧ (Ex.busy.ms.entriesOf 7001).length < 15 ∧ Ex.busy.ms.cabin 7001 = none)
      ∧ (Ex.busy.delivers classManifest Ex.toMe (Ex.manifest 200 9000 15)
          ∧ Ex.busy.ms.entriesOf 7050 = [⟨200, 7050, 1, false, .placed, .peer 9, false⟩]
          ∧ lookupCabin Ex.busy.ms.map 9000 = .unmapped)
      ∧ (∀ e ∈ [(⟨101, 7000, 2, false, .placed, .self .o1 7, false⟩ : TagEntry)], Ex.busy.ms.entriesOf e.cabin ≠ [e]) := by
  unfold State.delivers
  decide +kernel
theorem witness_ManifestAmends_slice : Ex.busy.ms.capacitiesOk ∧ Ex.busy.ms.cabinsOk := ⟨Ex.busy_capacities, Ex.busy_cabins⟩

/-- R70: a move to the cabin of a deck not served here. -/
theorem witness_ManifestAmends_unserved :
    let s := Ex.busy.onMs fun m => { m with map := [⟨7000, 7099, 7, .clear⟩, ⟨7100, 7199, 9, .clear⟩] }
    s.delivers classManifest Ex.toMe (Ex.manifest 101 7100 3) ∧ s.ms.capacitiesOk ∧ s.ms.cabinsOk
      ∧ s.ms.entry 101 = some ⟨101, 7000, 2, false, .placed, .self .o1 7, false⟩ ∧ lookupCabin s.ms.map 7100 = .deck 9
      ∧ s.config.serves 9 = false := by
  refine ⟨by unfold State.delivers; decide, Ex.busy_capacities, Ex.busy_cabins, by decide, by decide, by decide⟩

/-- R70: a move to a cabin with 15 pieces, to a new cabin with 1,024 held and another entry in the old one, and to an unmapped
cabin with 512 other entries unplaced. -/
theorem witness_ManifestAmends_full :
    (∀ m : ManifestStore, ({ Ex.busy with ms := m } : State).delivers classManifest Ex.toMe (Ex.manifest 1001 9001 1)
        ∧ ({ Ex.busy with ms := m } : State).delivers classManifest Ex.toMe (Ex.manifest 1001 20000 1)
        ∧ ({ Ex.busy with ms := m } : State).delivers classManifest Ex.toMe (Ex.manifest 1 9000 1))
      ∧ ((Ex.grid 15 2 .unplaced).capacitiesOk ∧ (Ex.grid 15 2 .unplaced).cabinsOk
          ∧ (Ex.grid 15 2 .unplaced).entry 1001 = some ⟨1001, 9000, 1, false, .unplaced, .none, false⟩
          ∧ ((Ex.grid 15 2 .unplaced).entriesOf 9001).length = 15 ∧ lookupCabin (Ex.grid 15 2 .unplaced).map 9001 = .unmapped)
      ∧ ((Ex.grid 2 1024 .placed).capacitiesOk ∧ (Ex.grid 2 1024 .placed).cabinsOk
          ∧ (Ex.grid 2 1024 .placed).entry 1001 = some ⟨1001, 9000, 1, false, .placed, .none, false⟩
          ∧ (Ex.grid 2 1024 .placed).cabins.length = 1024 ∧ (Ex.grid 2 1024 .placed).cabin 20000 = none
          ∧ (∀ e, (Ex.grid 2 1024 .placed).entriesOf 9000 ≠ [e])
          ∧ lookupCabin (Ex.grid 2 1024 .placed).map 20000 = .unmapped)
      ∧ (Ex.mixed.capacitiesOk ∧ Ex.mixed.cabinsOk ∧ Ex.mixed.entry 1 = some Ex.first ∧ Ex.first.placement = .placed
          ∧ unplacedCount Ex.mixed.table = 512 ∧ lookupCabin Ex.mixed.map 9000 = .unmapped
          ∧ (Ex.mixed.entriesOf 9000).length < 15 ∧ Ex.mixed.cabins.length < 1024 ∧ Ex.mixed.purgeRunning = false) := by
  have h : Ex.busy.delivers classManifest Ex.toMe (Ex.manifest 1001 9001 1)
      ∧ Ex.busy.delivers classManifest Ex.toMe (Ex.manifest 1001 20000 1)
      ∧ Ex.busy.delivers classManifest Ex.toMe (Ex.manifest 1 9000 1) := by
    unfold State.delivers
    decide +kernel
  refine ⟨fun _ => h, ⟨?_, ?_, Ex.grid_entry .., Ex.grid_entries 15 2 1 _ (by decide), rfl⟩,
    ⟨?_, ?_, Ex.grid_entry .., by simp [Ex.grid], ?_, ?_, rfl⟩,
    ⟨Ex.mixed_slice.1, Ex.mixed_slice.2, rfl, rfl, Ex.mixed_unplaced, rfl, ?_, by simp [Ex.mixed, Ex.placing, Ex.grid], rfl⟩⟩
  · exact (Ex.grid_slice 15 2 .unplaced (by decide) (by decide) (by decide) (by decide)).1
  · exact (Ex.grid_slice 15 2 .unplaced (by decide) (by decide) (by decide) (by decide)).2
  · exact (Ex.grid_slice 2 1024 .placed (by decide) (by decide) (by decide) (by decide)).1
  · exact (Ex.grid_slice 2 1024 .placed (by decide) (by decide) (by decide) (by decide)).2
  · exact Ex.grid_cabin_none _ _ _ (by decide)
  · intro e h
    have := Ex.grid_entries 2 1024 0 .placed (by decide)
    rw [h] at this
    simp at this
  · rw [Ex.mixed, Ex.placing_entriesOf _ _ (by decide), show 9000 = 9000 + 0 from rfl, Ex.grid_entries _ _ _ _ (by decide)]
    decide

/-- A DELIVERED payload. -/
def Ex.delivery (tag outlet : Nat) : List Byte := bytes5 tag ++ bytes2 32767 ++ [20, 60, BitVec.ofNat 8 outlet]

theorem witness_WithdrawnMarkedHeld :
    (Ex.busy.delivers classManifestWithdraw Ex.toMe (bytes5 999) ∧ Ex.busy.ms.entry (tagAt (bytes5 999) 0) = none
        ∧ Ex.busy.ms.purgeRunning = false)
      ∧ Ex.busy.ms.entry (tagAt (bytes5 101) 0) = some ⟨101, 7000, 2, false, .placed, .self .o1 7, false⟩
      ∧ (Ex.busy.delivers classDelivered Ex.toAll (Ex.delivery 100 5) ∧ 4 < (readDelivered (Ex.delivery 100 5)).outlet)
      ∧ (Ex.busy.delivers classDelivered Ex.toAll (Ex.delivery 100 4) ∧ (readDelivered (Ex.delivery 100 4)).outlet ≤ 4
          ∧ (readDelivered (Ex.delivery 100 4)).node ≤ 60 ∧ (readDelivered (Ex.delivery 100 4)).deck ≤ 20
          ∧ Ex.busy.ms.entry 100 = some ⟨100, 7000, 2, false, .placed, .none, false⟩)
      ∧ Ex.busy.ms.entry 200 = some ⟨200, 7050, 1, false, .placed, .peer 9, false⟩
      ∧ ((Ex.purging 5).delivers classManifest Ex.toMe (Ex.manifest 150 7050 3) ∧ (Ex.purging 5).ms.purgeRunning = true
          ∧ (Ex.purging 5).ms.hold.length < 6)
      ∧ ((Ex.purging 6).delivers classDeckMap Ex.toMe (bytes2 1 ++ bytes2 2 ++ [7, 0]) ∧ 6 ≤ (Ex.purging 6).ms.hold.length) := by
  unfold State.delivers
  decide +kernel
theorem witness_WithdrawnMarkedHeld_slice : Ex.busy.ms.capacitiesOk ∧ Ex.busy.ms.cabinsOk :=
  ⟨Ex.busy_capacities, Ex.busy_cabins⟩

/-- A DECK-MAP payload. -/
def Ex.deckMap (first last deck withdraw : Nat) : List Byte :=
  bytes2 first ++ bytes2 last ++ [BitVec.ofNat 8 deck, BitVec.ofNat 8 withdraw]

/-- With 32 ranges of deck 7. -/
def Ex.fullMap : State :=
  { Ex.on with ms := { Ex.on.ms with map := (List.range 32).map fun i => ⟨100 * i + 1, 100 * i + 50, 7, .clear⟩ } }

theorem witness_DeckMapChanges :
    (∀ p ∈ [Ex.deckMap 2 1 7 0, Ex.deckMap 1 32768 7 0, Ex.deckMap 1 2 21 0], Ex.busy.delivers classDeckMap Ex.toMe p)
      ∧ Ex.busy.ms.purgeRunning = false
      ∧ (Ex.busy.delivers classDeckMap Ex.toMe (Ex.deckMap 7000 7098 0 1)
          ∧ (∀ r ∈ Ex.busy.ms.map, ¬ (r.first = 7000 ∧ r.last = 7098)))
      ∧ (Ex.busy.delivers classDeckMap Ex.toMe (Ex.deckMap 7000 7099 0 1)
          ∧ ∃ r ∈ Ex.busy.ms.map, r.first = 7000 ∧ r.last = 7099)
      ∧ (∃ r ∈ Ex.busy.ms.map, r.deck = 7 ∧ r.first ≤ 7000 ∧ 7099 ≤ r.last)
      ∧ ((∀ r ∈ Ex.fullMap.ms.map, r.deck = 7 → r.last < 51 ∨ 100 < r.first) ∧ Ex.fullMap.ms.map.length = 32)
      ∧ ((∀ r ∈ Ex.fullMap.ms.map, ¬ (r.deck = 7 ∧ r.first ≤ 50 ∧ 100 ≤ r.last))
          ∧ ∃ r ∈ Ex.fullMap.ms.map, r.deck = 7 ∧ r.first ≤ 100 ∧ 50 ≤ r.last)
      ∧ ((∀ r ∈ Ex.busy.ms.map, ¬ (r.deck = 20 ∧ r.first ≤ 1 ∧ 32767 ≤ r.last)) ∧ Ex.busy.ms.map.length < 32) := by
  unfold State.delivers
  decide +kernel
theorem witness_DeckMapChanges_map : Ex.busy.ms.mapOk ∧ Ex.fullMap.ms.mapOk :=
  ⟨Ex.busy_map, by unfold ManifestStore.mapOk; decide +kernel⟩

/-- With a sweep running and a map. -/
def Ex.sweeping (last : Nat) (map : List MapRange) : State :=
  { Ex.busy with ms := { Ex.busy.ms with sweep := some last, map := map } }

theorem witness_SweepAndPurgeTaken :
    (Ex.sweeping 0 []).running = true ∧ (Ex.sweeping 0 []).ms.sweep = some 0
      ∧ (⟨100, 7000, 2, false, .placed, .none, false⟩ ∈ Ex.busy.ms.table ∧ 0 < 100 ∧ ∀ x ∈ Ex.busy.ms.table, 0 < x.tag → 100 ≤ x.tag)
      ∧ (∀ x ∈ Ex.busy.ms.table, 200 < x.tag → 300 ≤ x.tag)
      ∧ (300 = (Ex.busy.ms.table.getLast?.map TagEntry.tag).getD 0 ∧ 100 ≠ (Ex.busy.ms.table.getLast?.map TagEntry.tag).getD 0)
      ∧ [lookupCabin [⟨7000, 7099, 9, .clear⟩] 7000, lookupCabin [] 7000, lookupCabin [⟨7000, 7099, 9, .contested⟩] 7000,
          lookupCabin Ex.busy.ms.map 7000] = [.deck 9, .unmapped, .contested, .deck 7]
      ∧ Ex.busy.ms.sweep = none
      ∧ (Ex.busy.delivers classPurge Ex.toMe [] ∧ Ex.busy.config.servedDecks.Nodup)
      ∧ ((Ex.purging 6).running = true ∧ (Ex.purging 6).ms.purgeRunning = true) ∧ Ex.busy.ms.purgeRunning = false := by
  unfold State.delivers
  decide +kernel
/-- A sweep that last examined tag 300, the highest of the table. -/
theorem witness_SweepAndPurgeTaken_last :
    let s := Ex.busy.onMs fun m => { m with sweep := some 300 }
    s.running = true ∧ s.ms.sweep = some 300 ∧ ∀ x ∈ s.ms.table, x.tag ≤ 300 := by decide

theorem witness_SweepAndPurgeTaken_ok :
    Ex.busy.ms.capacitiesOk ∧ Ex.busy.ms.cabinsOk ∧ Ex.busy.outletsOk ∧ Ex.busy.ms.holdOk :=
  ⟨Ex.busy_capacities, Ex.busy_cabins, Ex.busy_outlets, by unfold ManifestStore.holdOk; decide⟩

/-- R81: the entry examined is PLACED, its cabin unmapped, and 512 others are unplaced. -/
theorem witness_SweepAndPurgeTaken_full :
    let s := Ex.busy.onMs fun _ => { Ex.mixed with sweep := some 0 }
    s.running = true ∧ s.ms.sweep = some 0 ∧ s.ms.capacitiesOk ∧ s.ms.cabinsOk ∧ Ex.first ∈ s.ms.table ∧ 0 < Ex.first.tag
      ∧ (∀ x ∈ s.ms.table, 0 < x.tag → Ex.first.tag ≤ x.tag) ∧ lookupCabin s.ms.map Ex.first.cabin = .unmapped
      ∧ Ex.first.placement = .placed ∧ unplacedCount s.ms.table = 512 :=
  ⟨by decide, rfl, Ex.mixed_slice.1, Ex.mixed_slice.2, List.mem_cons_self, by decide, fun _ _ h => h, rfl, rfl,
    Ex.mixed_unplaced⟩

/-- A send queue: `n` LOST, then an OUTLET-STATE of deck 7, then `m` replies. -/
def Ex.queue (n m : Nat) : List SendEntry :=
  List.replicate n ⟨⟨0, .lost ⟨12, 0, 12, []⟩⟩, 0, false⟩ ++ ⟨⟨0, .outletState 7 .openLow 50⟩, 0, false⟩
    :: List.replicate m ⟨⟨14, .reply 4 .notFound []⟩, 0, false⟩

/-- The HLC with a queue. -/
def Ex.line (q : List SendEntry) : HallLine := { HallLine.atPowerOn with queue := q }

theorem witness_QueueAdmits :
    (Ex.line (Ex.queue 3 3)).queueOk ∧ (Ex.line (Ex.queue 3 4)).queueOk ∧ (Ex.line (Ex.queue 7 0)).queueOk
      ∧ ({ HallLine.atPowerOn with line := .detached, score := 255 } : HallLine).line = .detached
      ∧ ((Ex.line (Ex.queue 3 3)).line ≠ .detached ∧ (Body.outletState 7 .openHigh 160).supersedes (.outletState 7 .openLow 50) = true
          ∧ ∀ y ∈ (Ex.queue 3 3).take 3, y.onLine = true ∨ (Body.outletState 7 .openHigh 160).supersedes y.telegram.body = false)
      ∧ ((∀ y ∈ Ex.queue 3 3, y.onLine = true ∨ (Body.outletState 8 .openHigh 160).supersedes y.telegram.body = false)
          ∧ (Ex.queue 3 3).length < 8)
      ∧ (8 ≤ (Ex.queue 7 0).length ∧ ∀ y ∈ Ex.queue 7 0, y.onLine = true ∨ y.urgency ≤ (Body.outletState 8 .openLow 1).urgency)
      ∧ (8 ≤ (Ex.queue 3 4).length
          ∧ Ex.queue 3 4 = (Ex.queue 3 4).take 7 ++ ⟨⟨14, .reply 4 .notFound []⟩, 0, false⟩ :: []
          ∧ (Body.outletState 8 .openLow 1).urgency < 6) := by
  unfold HallLine.queueOk
  decide +kernel

/-- With a queue, a score and a line state. -/
def Ex.scored (q : List SendEntry) (n : Nat) (x : LineState) : State :=
  { Ex.on with hlc := { HallLine.atPowerOn with queue := q, score := n, line := x } }

/-- The start of an attempt: on an idle line, at the end of an idle gap, with the gap still open, after another's start bit, and
where it may not send. -/
theorem witness_AttemptsMade :
    (let s := Ex.scored (Ex.queue 0 1) 99 .active
     s.running = true ∧ (∀ x ∈ Ex.queue 0 1, x.onLine = false)
        ∧ (Ex.watching s (.between true 3)).hlc.watch.idle = true
        ∧ ((Ex.watching s (.between false 11)).hlc.watch = .between false 11 ∧ 0 < 12 ∧ s.hlc.watch = .between false 0)
        ∧ ((Ex.watching s (.between false 11)).hearHall HallEvent.isIdleGap [true] = some (.between false 0, none)
            ∧ (Ex.watching s (.receiving [] [true])).hearHall HallEvent.isIdleGap [true] =
              some (.receiving [] [true, true], none)))
      ∧ (lineStateOf 99 = .active ∧ lineStateOf 159 = .caution ∧ lineStateOf 160 = .mute)
      ∧ (Ex.on.hlc.queue = [] ∧ Ex.on.hearHall (fun _ => false) [false] = some (.between false 1, none)
          ∧ (Ex.scored [] 255 .detached).hearHall (fun _ => false) (List.replicate 12 false) = none)
      ∧ (Ex.sending [] (Ex.hello.levels 12)).hearHall HallEvent.isEnd [true] =
          some (.attempting [true] ((Ex.hello.levels 12).drop 1), none)
      ∧ Ex.on.hearHall HallEvent.isEnd (List.replicate 12 false ++ [true, false] ++ List.replicate 7 true ++ [true]) = none := by
  decide +kernel

/-- The bits of an attempt: the first and the last data bit of the key sent recessive, the first bit after the key, the
confirm slot, and two telegrams that start together. -/
theorem witness_AttemptsMade_bits :
    ((Ex.sending [] (Ex.hello.levels 12)).hlc.watch = .attempting [] (Ex.hello.levels 12)
        ∧ (Ex.hello.levels 12)[6]? = some false ∧ (Ex.hello.levels 13)[18]? = some false
        ∧ (Ex.hello.levels 12)[19]? = some false ∧ 19 + 3 < (Ex.hello.levels 12).length
        ∧ Ex.hello.levels 12 = (Ex.hello.levels 12).take 160 ++ [false, false, false])
      ∧ (12 < 64 ∧ 64 * (Body.lost ⟨12, 0, 12, []⟩).urgency + 63 < 64 * Ex.hello.body.urgency + 12) := by
  decide +kernel

/-- The ends of an attempt: lost, failed at a bit, unconfirmed and confirmed. -/
theorem witness_AttemptsMade_ends :
    ((Ex.sending [] (Ex.hello.levels 12)).hearHall HallEvent.isEnd [true, true, true, true, true, true, true] =
        some (.receiving [] [true, true, true, true, true, true, true], some (.ended .lostArbitration)))
      ∧ ((Ex.sending (List.replicate 19 true) [false, false, false, false]).hearHall HallEvent.isEnd [true] =
        some (.between false 0, some (.ended .bitError)))
      ∧ (∀ c ∈ [false, true], ∀ d ∈ [false, true],
          (Ex.sending [true] [false, false, false]).hearHall HallEvent.isEnd [c, d, false] =
            some (.between false (if d then 1 else if c then 2 else 3), some (.ended (.confirmSlot c d))))
      ∧ ((Ex.sending [] []).running = true ∧ (Ex.sending [] []).hlc.line = .active
          ∧ (Ex.sending [] []).hlc.queue = [] ++ ⟨Ex.hello, 6, true⟩ :: [])
      ∧ (∃ x ∈ [(⟨Ex.hello, 0, false⟩ : SendEntry)], x.telegram.body.supersedes Ex.hello.body = true)
      ∧ (Body.outletState 7 .openLow 50).supersedes Ex.hello.body = false := by
  refine ⟨by decide +kernel, by decide +kernel, by decide +kernel, ⟨rfl, rfl, rfl⟩, by decide, by decide⟩

theorem witness_ReceiptsScored :
    (Ex.busy.running = true ∧ Ex.busy.hlc.line = .active)
      ∧ ((Ex.watching Ex.busy (.receiving [] [])).hearHall HallEvent.isFault [false] =
            some (.between false 1, some (.fault .framing))
          ∧ (Ex.watching Ex.busy (.receiving [1, 14, 0x06, 12, 0, 0x3B, 0x51] [true, false])).hearHall HallEvent.isFault [true] =
            some (.between false 0, some (.fault .errorMark))
          ∧ Ex.busy.hearHall HallEvent.isFault [true] = some (.between false 0, none))
      ∧ (let s := Ex.scored (Ex.queue 0 1) 255 .mute
         s.hlc.line = .mute ∧ s.hlc.score = 255 ∧ s.hlc.queue ≠ [] ∧ (∀ x ∈ Ex.queue 0 1, x.onLine = false)
            ∧ s.hlc.detaches = true
            ∧ s.hearHall HallEvent.isIdleGap (List.replicate 12 false) = some (.between true 0, some .idleGap)
            ∧ s.hearHall HallEvent.isFault (List.replicate 12 false) = none)
      ∧ (Ex.busy.hearHall HallEvent.isIdleGap (List.replicate 12 false) = some (.between true 0, some .idleGap)
          ∧ Ex.on.hearHall HallEvent.isIdleGap (List.replicate 12 false) = some (.between true 0, none)
          ∧ Ex.on.chance = false)
      ∧ (∀ n ∈ [94, 95],
          let s := { Ex.scored [] 255 .detached with hlc := { (Ex.scored [] 255 .detached).hlc with idleGaps := n } }
          s.running = true ∧ s.hlc.line = .detached ∧ s.hlc.idleGaps = n
            ∧ s.hearHall HallEvent.isIdleGap (List.replicate 12 false) = some (.between true 0, some .idleGap))
      ∧ judgeTelegram Ex.busy.config 0x06 { Ex.toMe with destination := 13 } [] = .elsewhere
      ∧ judgeTelegram { Ex.busy.config with slots := [] } 0x21 Ex.toAll [12, 0, 12] = .filtered
      ∧ judgeTelegram Ex.busy.config 0x06 Ex.toMe [1] = .malformed
      ∧ judgeTelegram Ex.busy.config 0x51 Ex.toMe [1, 0] = .unknownClass
      ∧ (∀ read left, Ex.busy.hlc.watch ≠ .attempting read left)
      ∧ ((∀ i, i < 1 → (0x3B51#16).getLsbD i = true) ∧ (0x3B51#16).getLsbD 1 = false
          ∧ ∀ i, i < 8 → (0x00FF#16).getLsbD i = true) := by
  refine ⟨by decide, by decide +kernel, by decide +kernel, by decide +kernel, by decide +kernel, by decide, by decide, by decide,
    by decide, fun _ _ h => (by cases h), by decide⟩

/-- Acceptance: a first slot that matches the deck of an OUTLET-STATE, one that does not, payloads at and below the length that
holds the subject word, and a class code that is none. -/
theorem witness_ReceiptsScored_acceptance :
    (let x : AcceptanceSlot := ⟨0x30, 0xFF, 7, 0xFF, true⟩
     (0x30 : Byte) &&& x.classMask = x.classValue
        ∧ (7 : BitVec 16) &&& x.subjectMask.setWidth 16 = x.subjectValue.setWidth 16
        ∧ ¬ ((8 : BitVec 16) &&& x.subjectMask.setWidth 16 = x.subjectValue.setWidth 16)
        ∧ subjectWord 0x30 Ex.toAll [7, 1, 0] = 7 ∧ subjectWord 0x30 Ex.toAll [8, 1, 0] = 8)
      ∧ Ex.toAll.destination = 0 ∧ Ex.toMe.destination.toNat = Ex.busy.config.address
      ∧ ([7] : List Byte)[0]? = some 7 ∧ ([] : List Byte)[0]? = none
      ∧ ([0, 0, 0, 0, 1, 0x1B, 0x84] : List Byte)[6]? = some 0x84 ∧ ([0, 0, 0, 0, 1, 0x1B] : List Byte)[6]? = none
      ∧ lengthAllowed 0x70 0 = none ∧ lengthAllowed 0x51 2 = some true ∧ lengthAllowed 0x51 33 = some false := by decide

/-- The bits of a telegram: at a start bit, at the stop bits of the length byte and of the check value, and in the slot. -/
theorem witness_ReceiptsScored_bits :
    (([] : List Byte).length ≠ 7 + (([] : List Byte).getD 4 0).toNat)
      ∧ ((Ex.levels [1, 1, 1, 0, 1, 1, 1, 1, 0]).length = 9 ∧ ([1, 14, 6, 12] : List Byte).length = 4
          ∧ 32 < (dataByte ((Ex.levels [1, 1, 1, 0, 1, 1, 1, 1, 0]).drop 1)).toNat)
      ∧ (([1, 14, 6, 12, 0, 0x3B] : List Byte).length = 6 + (([1, 14, 6, 12, 0, 0x3B] : List Byte).getD 4 0).toNat)
      ∧ ([1, 14, 6, 12, 0, 0x3B, 0x51] : List Byte).length =
          7 + (([1, 14, 6, 12, 0, 0x3B, 0x51] : List Byte).getD 4 0).toNat := by decide

theorem witness_QueriesAnswered :
    (∀ b ∈ [(1 : Byte), 3, 4, 5, 8], Ex.busy.delivers classQuery Ex.toMe (b :: argumentBytes 300))
      ∧ (∀ b ∈ [(1 : Byte), 3, 4, 5, 0], Ex.busy.delivers classQuery Ex.toAll (b :: argumentBytes 300))
      ∧ (broadcast Ex.toMe = false ∧ broadcast Ex.toAll = true)
      ∧ (∀ k ∈ OutletNo.all, k.number = 3 → (Ex.busy.config.outlet k).fitted = true ∧ (Ex.busy.config.outlet k).role = .stray)
      ∧ ((Ex.busy.config.outlet .o1).role = .deck 7 ∧ (Ex.busy.config.outlet .o4).fitted = false)
      ∧ (Ex.purging 0).ms.purgeRunning = true ∧ Ex.busy.ms.purgeRunning = false
      ∧ (10000000000#40).toNat = 9999999999 + 1 ∧ Ex.busy.ms.entry 9999999999 = none
      ∧ Ex.busy.ms.entry 300 = some ⟨300, 9000, 1, false, .unplaced, .none, false⟩
      ∧ (32768#40).toNat % 65536 = 32768 ∧ Ex.busy.ms.cabin 32767 = none ∧ Ex.busy.ms.cabin 9000 = some ⟨9000, 1, 0⟩ := by
  unfold State.delivers
  decide +kernel

theorem witness_CountersLogAndMapAnswered :
    (∀ b ∈ [(2 : Byte), 6, 7], Ex.busy.delivers classQuery Ex.toMe (b :: argumentBytes 0x0703))
      ∧ (∀ b ∈ [(2 : Byte), 6, 7], Ex.busy.delivers classQuery Ex.toAll (b :: argumentBytes 0))
      ∧ ((0x0703#40).toNat / 256 % 256 = 7 ∧ (0x0703#40).toNat % 256 = 3 ∧ (0x3F04#40).toNat / 256 % 256 = 63
          ∧ (0x3F04#40).toNat % 256 = 4)
      ∧ (Ex.busy.delivers classQuery Ex.toMe (7 :: argumentBytes 0x20) ∧ 31 < (0x20#40).toNat % 256
          ∧ (0x1F#40).toNat % 256 ≤ 31 ∧ Ex.busy.ms.purgeRunning = false ∧ (Ex.purging 0).ms.purgeRunning = true)
      ∧ Ex.deckNode.config.isStrayNode = false ∧ Ex.busy.config.isStrayNode = true
      ∧ Ex.busy.su.ring.length ≤ 1
      ∧ Ex.busy.su.ring[0]? = some ⟨0, .inChute none, [100], some 1, some 400, [⟨14, 100, 7000, 7⟩], .running, .claimed⟩
      ∧ (Ex.busy.su.ring.map fun e => e.claims[0]?) = [some ⟨14, 100, 7000, 7⟩]
      ∧ Ex.busy.ms.map.length ≤ 31 ∧ Ex.busy.ms.map[0]? = some ⟨7000, 7099, 7, .clear⟩ := by
  unfold State.delivers
  decide +kernel

theorem witness_PayloadFieldsReadBack :
    ([9999999999, 0] : List Nat).length ≤ 2 ∧ (∀ x ∈ ([9999999999, 0] : List Nat), x ≤ 9999999999)
      ∧ readLost (lostPayload ⟨60, 7, 60, [9999999999]⟩) = ⟨60, 7, 60, [9999999999]⟩
      ∧ ([1, 2, 3, 20] : List Nat).length ≤ 4 ∧ (∀ d ∈ ([1, 2, 3, 20] : List Nat), d < 256) := by decide +kernel

theorem witness_LineTelegramReadBack :
    63 < 64 ∧ Ex.hello.destination < 64
      ∧ (∃ f, Ex.hello.body = .hello f) ∧ Ex.hello.body.payload.length ≤ 32
      ∧ (let q : List Byte := [0x50, 12, 6, 1, 0, 0, 0, 0, 0]
         decodeLine 0 (([6, 14] ++ q ++ bytes2 (checkValue q).toNat).flatMap frameByte ++ [true, false, false]) =
           some (.identity ⟨6, 14, 12, 0, checkValue q, true⟩ 0)) :=
  ⟨by decide, by decide, ⟨_, rfl⟩, by decide, by decide +kernel⟩

end Slice0Tests
end

section
/-! SUPPORT. The configuration image (11.5) and the checks of R3: what each check says, field by field, and which fault
the first that fails names. -/

open Sys2Proof

namespace Sys2Proof.Machine

/-! ## Bytes and words of the image -/

theorem inRange_iff {lo hi n : Nat} : inRange lo hi n = true ↔ lo ≤ n ∧ n ≤ hi := by
  simp [inRange]

/-- 11.5: a word stands most significant byte first. -/
theorem wordAt_eq (image : List Byte) (i : Nat) : wordAt image i = 256 * byteAt image i + byteAt image (i + 1) := by
  rw [wordAt, Nat.mul_comm]

/-- R187: the check value stored at the image's end is its last two bytes. -/
theorem storedCheck_eq (image : List Byte) : storedCheck image = image.getD 138 0 ++ image.getD 139 0 := by
  apply BitVec.eq_of_toNat_eq
  have hlow : (image.getD 139 0).toNat < 2 ^ 8 := (image.getD 139 0).isLt
  have hhigh : (image.getD 138 0).toNat < 2 ^ 8 := (image.getD 138 0).isLt
  rw [storedCheck, BitVec.toNat_ofNat, BitVec.toNat_append, Nat.shiftLeft_eq, Nat.mul_comm _ (2 ^ 8),
    ← Nat.two_pow_add_eq_or_of_lt hlow, wordAt, byteAt, byteAt, Nat.mul_comm]
  exact Nat.mod_eq_of_lt (by omega)

/-- R3, check 2. -/
theorem imageCheckOk_iff (image : List Byte) :
    imageCheckOk image = true ↔
      140 ≤ image.length ∧ checkValue (image.take 138) = image.getD 138 0 ++ image.getD 139 0 := by
  rw [imageCheckOk, Bool.and_eq_true, beq_iff_eq, storedCheck_eq, decide_eq_true_iff, Config.imageBytes]

/-! ## The outlets of a configuration (R3, checks 4 to 6) -/

theorem OutletNo.mem_all (k : OutletNo) : k ∈ OutletNo.all := by cases k <;> decide

theorem OutletNo.nodup_all : OutletNo.all.Nodup := by decide

theorem NodeConfig.mem_fittedOutlets {c : NodeConfig} {k : OutletNo} :
    k ∈ c.fittedOutlets ↔ (c.outlet k).fitted = true := by
  simp [NodeConfig.fittedOutlets, OutletNo.mem_all]

/-- At most one member of a list without repetitions meets a test exactly where any two that meet it are the same. -/
theorem countP_le_one_iff {α : Type} {l : List α} (h : l.Nodup) (p : α → Bool) :
    l.countP p ≤ 1 ↔ ∀ j ∈ l, ∀ k ∈ l, p j = true → p k = true → j = k := by
  classical
  rw [List.countP_eq_length_filter, ← List.toFinset_card_of_nodup (h.filter p), Finset.card_le_one]
  simp only [List.mem_toFinset, List.mem_filter]
  exact ⟨fun h j hj k hk pj pk => h j ⟨hj, pj⟩ k ⟨hk, pk⟩, fun h j hj k hk => h j hj.1 k hk.1 hj.2 hk.2⟩

theorem strayOutletsOk_iff (c : NodeConfig) :
    strayOutletsOk c = true ↔
      ∀ j k, (c.outlet j).fitted = true → (c.outlet k).fitted = true → (c.outlet j).role = .stray →
        (c.outlet k).role = .stray → j = k := by
  have hnodup : c.fittedOutlets.Nodup := OutletNo.nodup_all.filter _
  rw [strayOutletsOk, decide_eq_true_iff, countP_le_one_iff hnodup]
  simp only [NodeConfig.mem_fittedOutlets, beq_iff_eq]
  exact ⟨fun h j k fj fk rj rk => h j fj k fk rj rk, fun h j fj k fk rj rk => h j k fj fk rj rk⟩

theorem OutletConfig.deckServed_eq_some {o : OutletConfig} {d : Nat} :
    o.deckServed = some d ↔ o.fitted = true ∧ o.role = .deck d := by
  unfold OutletConfig.deckServed
  cases o.fitted <;> cases o.role <;> simp

theorem NodeConfig.mem_servedDecks {c : NodeConfig} {d : Nat} :
    d ∈ c.servedDecks ↔ ∃ k, (c.outlet k).deckServed = some d := by
  simp [NodeConfig.servedDecks, OutletNo.mem_all]

/-- R3, check 5: no deck is served twice exactly where any two outlets that serve it are the same. -/
theorem NodeConfig.servedDecks_nodup_iff (c : NodeConfig) :
    c.servedDecks.Nodup ↔
      ∀ j k d, (c.outlet j).deckServed = some d → (c.outlet k).deckServed = some d → j = k := by
  rw [NodeConfig.servedDecks, List.Nodup, List.pairwise_filterMap]
  constructor
  · intro h j k d hj hk
    by_contra hne
    have hsymm : Std.Symm fun a b =>
        ∀ x, (c.outlet a).deckServed = some x → ∀ y, (c.outlet b).deckServed = some y → x ≠ y :=
      ⟨fun _ _ h x hx y hy => (h y hy x hx).symm⟩
    exact h.forall (OutletNo.mem_all j) (OutletNo.mem_all k) hne d hj d hk rfl
  · intro h
    refine OutletNo.nodup_all.imp fun {j k} hne a ha b hb hab => hne ?_
    subst hab
    exact h j k a ha hb

theorem decksDistinct_iff (c : NodeConfig) :
    decksDistinct c = true ↔
      ∀ j k d, (c.outlet j).fitted = true → (c.outlet k).fitted = true → (c.outlet j).role = .deck d →
        (c.outlet k).role = .deck d → j = k := by
  rw [decksDistinct, decide_eq_true_iff, NodeConfig.servedDecks_nodup_iff]
  simp only [OutletConfig.deckServed_eq_some]
  exact ⟨fun h j k d fj fk rj rk => h j k d ⟨fj, rj⟩ ⟨fk, rk⟩, fun h j k d hj hk => h j k d hj.1 hk.1 hj.2 hk.2⟩

theorem placementOk_iff (c : NodeConfig) :
    placementOk c = true ↔ ∀ k, (c.outlet k).fitted = true →
      (c.outlet k).centre + (c.outlet k).maxLength / 2 + (c.outlet k).confirm + c.tolerance < c.handoff := by
  simp [placementOk, NodeConfig.mem_fittedOutlets]

theorem spanOk_iff (c : NodeConfig) :
    spanOk c = true ↔ c.handoff + c.tolerance + c.mergeLimit < 32768 := by simp [spanOk]

/-! ## The first check that fails (R3) -/

/-- R3: the seven checks, in order. -/
def startChecks (straps : BitVec 6) (image : List Byte) : List Bool :=
  [decide (1 ≤ straps.toNat ∧ straps.toNat ≤ 60), imageCheckOk image, imageRangesOk straps image,
    strayOutletsOk (configOf straps image), decksDistinct (configOf straps image), placementOk (configOf straps image),
    spanOk (configOf straps image)]

theorem startFault_eq (straps : BitVec 6) (image : List Byte) :
    startFault straps image = ((startChecks straps image).findIdx? fun ok => ok == false).map (· + 1) := by
  have haddress : (strapAddress straps = 0 ∨ Config.maxNode < strapAddress straps)
      ↔ decide (1 ≤ straps.toNat ∧ straps.toNat ≤ 60) = false := by
    rw [decide_eq_false_iff_not, strapAddress, Config.maxNode]
    omega
  simp only [startFault, haddress, startChecks, List.findIdx?_cons, List.findIdx?_nil, beq_iff_eq]
  repeat' split
  all_goals rfl

/-! ## The range checks (R3, check 3) -/

/-- 11.5: the range check of the outlet block at an offset. -/
theorem outletRangesOk_iff (image : List Byte) (k : OutletNo) {o : Nat} (ho : outletOffset k = o) :
    outletRangesOk image k = true ↔
      byteAt image o = 0 ∨ byteAt image o = 1 ∧ byteAt image (o + 1) ≤ 20
        ∧ (100 ≤ wordAt image (o + 2) ∧ wordAt image (o + 2) ≤ 20000)
        ∧ (20 ≤ wordAt image (o + 4) ∧ wordAt image (o + 4) ≤ 2000 ∧ wordAt image (o + 4) < wordAt image (o + 2))
        ∧ wordAt image (o + 6) ≤ 500 ∧ (20 ≤ wordAt image (o + 8) ∧ wordAt image (o + 8) ≤ 1000)
        ∧ (100 ≤ wordAt image (o + 10) ∧ wordAt image (o + 10) ≤ 1500) ∧ byteAt image (o + 12) ≤ 1
        ∧ (20 ≤ wordAt image (o + 13) ∧ wordAt image (o + 13) ≤ 1000) ∧ byteAt image (o + 17) < byteAt image (o + 16)
        ∧ byteAt image (o + 16) ≤ byteAt image (o + 15) := by
  by_cases h0 : byteAt image o = 0
  · simp [outletRangesOk, ho, h0]
  by_cases h1 : byteAt image o = 1
  · simp only [outletRangesOk, ho, h1, imageOutlet, Bool.and_eq_true, inRange_iff, decide_eq_true_eq, Config.maxDeck,
      Nat.zero_le, true_and, false_or, Nat.one_ne_zero, ne_eq, not_true_eq_false, if_false, and_assoc]
  · simp [outletRangesOk, ho, h0, h1]

/-- 11.5: the offsets of the four outlet blocks, in order of outlet number. -/
theorem forall_outletOffset (p : Nat → Prop) : (∀ k, p (outletOffset k)) ↔ ∀ o ∈ [26, 44, 62, 80], p o := by
  constructor
  · intro h o ho
    fin_cases ho
    exacts [h .o1, h .o2, h .o3, h .o4]
  · intro h k
    cases k <;> exact h _ (by decide)

theorem exists_outletOffset (p : Nat → Prop) : (∃ k, p (outletOffset k)) ↔ ∃ o ∈ [26, 44, 62, 80], p o := by
  have := not_congr (forall_outletOffset fun o => ¬ p o)
  simpa only [not_forall, not_not, exists_prop] using this

theorem imageRangesOk_iff (straps : BitVec 6) (image : List Byte) (b w : Nat → Nat) (hb : byteAt image = b)
    (hw : wordAt image = w) :
    imageRangesOk straps image = true ↔
      (1 ≤ b 0 ∧ b 0 ≤ 3) ∧ b 1 ≤ 1 ∧ (1 ≤ b 2 ∧ b 2 ≤ 6) ∧ (1 ≤ b 3 ∧ b 3 ≤ 60) ∧ b 3 ≠ straps.toNat
        ∧ b 4 ≤ 1 ∧ (1 ≤ b 5 ∧ b 5 ≤ 7) ∧ (200 ≤ w 6 ∧ w 6 ≤ 30000) ∧ w 8 ≤ 8000 ∧ w 10 ≤ 2000
        ∧ (100 ≤ w 12 ∧ w 12 ≤ 4000) ∧ (10 ≤ w 14 ∧ w 14 ≤ 400) ∧ (10 ≤ w 16 ∧ w 16 ≤ 200)
        ∧ (200 ≤ w 18 ∧ w 18 ≤ 4000) ∧ (b 20 = 1 ∨ b 20 = 4 ∨ b 20 = 16) ∧ b 21 ≤ 1 ∧ (1 ≤ b 22 ∧ b 22 ≤ 10)
        ∧ (1 ≤ b 23 ∧ b 23 ≤ 30) ∧ (500 ≤ w 24 ∧ w 24 ≤ 10000)
        ∧ (∀ o ∈ [26, 44, 62, 80], b o = 0 ∨ b o = 1 ∧ b (o + 1) ≤ 20 ∧ (100 ≤ w (o + 2) ∧ w (o + 2) ≤ 20000)
            ∧ (20 ≤ w (o + 4) ∧ w (o + 4) ≤ 2000 ∧ w (o + 4) < w (o + 2)) ∧ w (o + 6) ≤ 500
            ∧ (20 ≤ w (o + 8) ∧ w (o + 8) ≤ 1000) ∧ (100 ≤ w (o + 10) ∧ w (o + 10) ≤ 1500) ∧ b (o + 12) ≤ 1
            ∧ (20 ≤ w (o + 13) ∧ w (o + 13) ≤ 1000) ∧ b (o + 17) < b (o + 16) ∧ b (o + 16) ≤ b (o + 15))
        ∧ (∃ o ∈ [26, 44, 62, 80], b o = 1) ∧ ∀ n, n < 8 → b (98 + 5 * n + 4) ≤ 1 := by
  subst hb hw
  rw [← forall_outletOffset fun o => byteAt image o = 0 ∨ _, ← exists_outletOffset fun o => byteAt image o = 1]
  simp only [← outletRangesOk_iff image _ rfl]
  simp only [imageRangesOk, Bool.and_eq_true, Bool.or_eq_true, inRange_iff, bne_iff_ne, beq_iff_eq, List.all_eq_true,
    List.any_eq_true, List.mem_range, OutletNo.mem_all, forall_const, true_and, Nat.zero_le, Config.maxNode, strapAddress,
    and_assoc, or_assoc]

/-! ## The fields of the configuration (R1, R2, R45, R187) -/

theorem configOf_outlet (straps : BitVec 6) (image : List Byte) (k : OutletNo) :
    (configOf straps image).outlet k = imageOutlet image k := by
  cases k <;> rfl

theorem configOf_slot (straps : BitVec 6) (image : List Byte) {n : Nat} (h : n < 8) :
    (configOf straps image).slots[n]? = some (imageSlot image n) := by
  simp [configOf, h]

end Sys2Proof.Machine

open Sys2Proof.Machine

/-- Settles O22: each check is what its lemma says, and the configuration's fields are those of the image by definition. -/
theorem firstFailingCheckNamed : Obligations.FirstFailingCheckNamed := by
  unfold Obligations.FirstFailingCheckNamed
  refine ⟨startFault_eq, placementOk_iff, spanOk_iff, strayOutletsOk_iff, decksDistinct_iff, ?_⟩
  intro straps image b w c hb hw hc
  have hbyte : byteAt image = b := funext fun i => (hb i).symm
  have hword : wordAt image = w := funext fun i => by rw [wordAt_eq, hbyte, hw]
  refine ⟨imageCheckOk_iff image, imageRangesOk_iff straps image b w hbyte hword, ?_⟩
  subst hbyte hword hc
  refine ⟨rfl, storedCheck_eq image, ?_, beq_iff_eq, ?_, rfl, beq_iff_eq, rfl, rfl, rfl, rfl, rfl, rfl, rfl, rfl, rfl,
    ?_, ?_, rfl, rfl, rfl, ?_, by simp [configOf], ?_⟩
  · intro code rate hmem hcode
    fin_cases hmem <;> simp [configOf, hcode, lineRateOfByte]
  · intro code rate hmem hcode
    fin_cases hmem <;> simp [configOf, hcode, rateOfByte]
  · intro h
    simp [configOf, h]
  · intro h
    simp [configOf, h]
  · intro k o hmem
    rw [configOf_outlet]
    fin_cases hmem <;> rfl
  · exact fun n hn => configOf_slot straps image hn

end

section
/-! SUPPORT. What the operations leave alone: the waiting commands, the configuration, the filters of the inputs, and what
the reader line has brought. One lemma per operation, and one for every command that takes no samples of these inputs. -/

open Sys2Proof

namespace Sys2Proof.Machine

/-- The parts of a node that only power, START, the samples of an input and the events of the reader line change. -/
structure ReadFrame where
  pending     : List Instr
  config      : NodeConfig
  inputs      : InputFilters
  receiver    : Receiver
  measurement : Measurement
  counters    : TrpCounters

def State.readFrame (s : State) : ReadFrame :=
  ⟨s.pending, s.config, s.inputs, s.trp.receiver, s.trp.measurement, s.trp.counters⟩

theorem State.config_of_readFrame {s t : State} (h : t.readFrame = s.readFrame) : t.config = s.config :=
  congrArg ReadFrame.config h

theorem State.inputs_of_readFrame {s t : State} (h : t.readFrame = s.readFrame) : t.inputs = s.inputs :=
  congrArg ReadFrame.inputs h

/-- What each step of a fold leaves alone, the fold does. -/
theorem foldl_keeps {σ α β : Type} {g : σ → β} {f : σ → α → σ} (h : ∀ s a, g (f s a) = g s) (l : List α) (s : σ) :
    g (l.foldl f s) = g s := by
  induction l generalizing s with
  | nil => rfl
  | cons a l ih => rw [List.foldl_cons, ih, h]

/-! ## One block at a time -/

section
variable (s : State)

@[simp] theorem State.onSt_readFrame (f) : (s.onSt f).readFrame = s.readFrame := rfl
@[simp] theorem State.onMs_readFrame (f) : (s.onMs f).readFrame = s.readFrame := rfl
@[simp] theorem State.onDc_readFrame (f) : (s.onDc f).readFrame = s.readFrame := rfl
@[simp] theorem State.onOm_readFrame (f) : (s.onOm f).readFrame = s.readFrame := rfl
@[simp] theorem State.onSu_readFrame (f) : (s.onSu f).readFrame = s.readFrame := rfl
@[simp] theorem State.onHlc_readFrame (f) : (s.onHlc f).readFrame = s.readFrame := rfl
@[simp] theorem State.onNc_readFrame (f) : (s.onNc f).readFrame = s.readFrame := rfl
@[simp] theorem State.putWatch_readFrame (w) : (State.putWatch w s).readFrame = s.readFrame := rfl

end

/-! ## The shared operations -/

section
variable (s : State)

@[simp] theorem State.send_readFrame (d b) : (s.send d b).readFrame = s.readFrame := rfl
@[simp] theorem State.markLog_readFrame : s.markLog.readFrame = s.readFrame := rfl
@[simp] theorem State.markMap_readFrame : s.markMap.readFrame = s.readFrame := rfl
@[simp] theorem State.logReport_readFrame (k ts l) : (s.logReport k ts l).readFrame = s.readFrame := rfl
@[simp] theorem State.startPass_readFrame : s.startPass.readFrame = s.readFrame := rfl
@[simp] theorem State.queueHello_readFrame : s.queueHello.readFrame = s.readFrame := rfl
@[simp] theorem State.enterStandby_readFrame : s.enterStandby.readFrame = s.readFrame := rfl
@[simp] theorem State.enterJoining_readFrame : s.enterJoining.readFrame = s.readFrame := rfl
@[simp] theorem State.takeTelegram_readFrame (rx) : (s.takeTelegram rx).readFrame = s.readFrame := rfl
@[simp] theorem State.takeInFault_readFrame (rx) : (s.takeInFault rx).readFrame = s.readFrame := rfl
@[simp] theorem State.closeWindow_readFrame (n x) : (s.closeWindow n x).readFrame = s.readFrame := rfl
@[simp] theorem State.closeWindowByTags_readFrame (n) : (s.closeWindowByTags n).readFrame = s.readFrame := rfl

@[simp] theorem State.clearLog_readFrame : s.clearLog.readFrame = s.readFrame := by
  unfold State.clearLog; split <;> rfl

@[simp] theorem State.reportLost_readFrame (r) : (s.reportLost r).readFrame = s.readFrame := by
  rw [State.reportLost_eq]; rfl

@[simp] theorem State.reportMisplaced_readFrame (r) : (s.reportMisplaced r).readFrame = s.readFrame := by
  unfold State.reportMisplaced; split <;> rfl

@[simp] theorem State.endRecord_readFrame (n) : (s.endRecord n).readFrame = s.readFrame := by
  unfold State.endRecord; split <;> rfl

@[simp] theorem State.dropArmed_readFrame (k) : (s.dropArmed k).readFrame = s.readFrame := by
  exact (foldl_keeps (fun u _ => u.onSt_readFrame _) _ _).trans rfl

@[simp] theorem State.queueOutletState_readFrame (k) : (s.queueOutletState k).readFrame = s.readFrame := by
  unfold State.queueOutletState; split <;> rfl

@[simp] theorem State.summarise_readFrame (k first) : (s.summarise k first).readFrame = s.readFrame := by
  rw [State.summarise_eq]; split <;> rfl

@[simp] theorem State.rederive_readFrame (k first) : (s.rederive k first).readFrame = s.readFrame := by
  simp only [State.rederive, State.summarise_readFrame]
  split
  · rfl
  · split <;> simp

@[simp] theorem State.rederiveDecks_readFrame (ds) : (s.rederiveDecks ds).readFrame = s.readFrame := by
  refine foldl_keeps (g := State.readFrame) (fun s k => ?_) _ s
  split
  · split <;> simp
  · rfl

@[simp] theorem State.queueOutletStates_readFrame : s.queueOutletStates.readFrame = s.readFrame := by
  rw [State.queueOutletStates_eq]; rfl

@[simp] theorem State.clearClosedDecks_readFrame : s.clearClosedDecks.readFrame = s.readFrame := by
  simp [State.clearClosedDecks]

@[simp] theorem State.standbyTest_readFrame : s.standbyTest.readFrame = s.readFrame := by
  unfold State.standbyTest; split <;> simp

@[simp] theorem State.wakeUp_readFrame : s.wakeUp.readFrame = s.readFrame := by
  unfold State.wakeUp; split <;> simp

@[simp] theorem State.wakeIfAddressed_readFrame (rx) : (s.wakeIfAddressed rx).readFrame = s.readFrame := by
  unfold State.wakeIfAddressed; split <;> simp

@[simp] theorem State.discard_readFrame (j) : (s.discard j).readFrame = s.readFrame := by
  cases j <;> rfl

/-- R182, R183: a telegram leaves alone what its owner's rule does. -/
theorem State.receive_readFrame {owner : State → State} (h : ∀ u, (owner u).readFrame = u.readFrame) (cls rx p) :
    (s.receive cls rx p owner).readFrame = s.readFrame := by
  unfold State.receive
  split
  · rfl
  · rfl
  · split <;> simp [h]

end

/-! ## The Outlet Monitor and the Stray Unit -/

section
variable (s : State)

@[simp] theorem State.takeConversions_readFrame (k cs) : (s.takeConversions k cs).readFrame = s.readFrame := by
  simp [State.takeConversions]

@[simp] theorem State.followFault_readFrame (k a) : (s.followFault k a).readFrame = s.readFrame := by
  simp [State.followFault]

@[simp] theorem State.reportMiss_readFrame (k) : (s.reportMiss k).readFrame = s.readFrame := by
  unfold State.reportMiss; dsimp only; split <;> simp

@[simp] theorem State.reportConfirmation_readFrame (k) : (s.reportConfirmation k).readFrame = s.readFrame := rfl

@[simp] theorem State.takeRestore_readFrame (rx n) : (s.takeRestore rx n).readFrame = s.readFrame := by
  unfold State.takeRestore; split <;> simp

@[simp] theorem State.takeDeckClose_readFrame (d) : (s.takeDeckClose d).readFrame = s.readFrame := by
  unfold State.takeDeckClose; split <;> simp

@[simp] theorem State.takeDeckOpen_readFrame (d) : (s.takeDeckOpen d).readFrame = s.readFrame := by
  unfold State.takeDeckOpen; split <;> simp

@[simp] theorem State.logStray_readFrame (ts r l n) : (s.logStray ts r l n).readFrame = s.readFrame := by
  unfold State.logStray; split <;> rfl

@[simp] theorem State.takeLost_readFrame (r) : (s.takeLost r).readFrame = s.readFrame := by
  unfold State.takeLost; repeat' split
  all_goals rfl

@[simp] theorem State.takeMisplaced_readFrame (n r) : (s.takeMisplaced n r).readFrame = s.readFrame := by
  unfold State.takeMisplaced; repeat' split
  all_goals rfl

@[simp] theorem State.takeCall_readFrame (n q ts) : (s.takeCall n q ts).readFrame = s.readFrame := by
  unfold State.takeCall
  split
  · rfl
  · rw [foldl_keeps (g := State.readFrame)]
    · rfl
    · intro u tag
      unfold State.answerCall
      split <;> rfl

@[simp] theorem State.takeClaim_readFrame (rx q f) : (s.takeClaim rx q f).readFrame = s.readFrame := by
  unfold State.takeClaim; dsimp only; split <;> rfl

end

/-! ## The Section Tracker and the Divert Controller -/

section
variable (s : State)

@[simp] theorem State.takeClosePoint_readFrame (n) : (s.takeClosePoint n).readFrame = s.readFrame := by
  unfold State.takeClosePoint; repeat' split
  all_goals rfl

@[simp] theorem State.registerClosePoint_readFrame (n x l) : (s.registerClosePoint n x l).readFrame = s.readFrame := by
  rw [State.registerClosePoint, State.takeClosePoint_readFrame]; rfl

@[simp] theorem State.arrive_readFrame : s.arrive.readFrame = s.readFrame := rfl

@[simp] theorem State.inductionBlocked_readFrame : s.inductionBlocked.readFrame = s.readFrame := by
  unfold State.inductionBlocked; dsimp only; split <;> simp

@[simp] theorem State.bindAtTrailing_readFrame (n l) : (s.bindAtTrailing n l).readFrame = s.readFrame := by
  unfold State.bindAtTrailing; repeat' split
  all_goals simp

@[simp] theorem State.withdraw_readFrame (n) : (s.withdraw n).readFrame = s.readFrame := by
  simp [State.withdraw]

@[simp] theorem State.bindIfAwaiting_readFrame (n l) : (s.bindIfAwaiting n l).readFrame = s.readFrame := by
  unfold State.bindIfAwaiting; repeat' split
  all_goals simp

@[simp] theorem State.trailingEdge_readFrame (n x) : (s.trailingEdge n x).readFrame = s.readFrame := by
  unfold State.trailingEdge; dsimp only; repeat' split
  all_goals simp

@[simp] theorem State.inductionCleared_readFrame : s.inductionCleared.readFrame = s.readFrame := by
  unfold State.inductionCleared; dsimp only; repeat' split
  all_goals simp

@[simp] theorem State.handOff_readFrame (r) : (s.handOff r).readFrame = s.readFrame := by
  simp [State.handOff]

@[simp] theorem State.handoffBlocked_readFrame : s.handoffBlocked.readFrame = s.readFrame := by
  unfold State.handoffBlocked; repeat' split
  all_goals simp

@[simp] theorem State.takeSpanPoint_readFrame (n) : (s.takeSpanPoint n).readFrame = s.readFrame := by
  unfold State.takeSpanPoint; repeat' split
  all_goals rfl

@[simp] theorem State.takeWindowEnd_readFrame (n) : (s.takeWindowEnd n).readFrame = s.readFrame := by
  unfold State.takeWindowEnd; repeat' split
  all_goals simp

@[simp] theorem State.takeExpiry_readFrame (x n) : (s.takeExpiry x n).readFrame = s.readFrame := by
  unfold State.takeExpiry; repeat' split
  all_goals simp

@[simp] theorem State.missPush_readFrame (c) : (s.missPush c).readFrame = s.readFrame := by
  simp [State.missPush]

@[simp] theorem State.takeDeadline_readFrame (n) : (s.takeDeadline n).readFrame = s.readFrame := by
  unfold State.takeDeadline; repeat' split
  all_goals simp

@[simp] theorem State.firePusher_readFrame (c) : (s.firePusher c).readFrame = s.readFrame := by
  simp [State.firePusher]

@[simp] theorem State.dropBusy_readFrame (c) : (s.dropBusy c).readFrame = s.readFrame := by
  simp [State.dropBusy]

@[simp] theorem State.takeFirePoint_readFrame (n) : (s.takeFirePoint n).readFrame = s.readFrame := by
  unfold State.takeFirePoint; repeat' split
  all_goals simp

@[simp] theorem State.commit_readFrame (k r x) : (s.commit k r x).readFrame = s.readFrame := by
  simp [State.commit]

@[simp] theorem State.evaluate_readFrame (k r) : (s.evaluate k r).readFrame = s.readFrame := by
  unfold State.evaluate
  cases decideRoute s k r <;> simp [State.carryOut]

@[simp] theorem State.takeArmPoint_readFrame (n k) : (s.takeArmPoint n k).readFrame = s.readFrame := by
  unfold State.takeArmPoint; dsimp only; repeat' split
  all_goals simp

@[simp] theorem State.deliverPush_readFrame (k r) : (s.deliverPush k r).readFrame = s.readFrame := by
  simp [State.deliverPush]

@[simp] theorem State.followDelivery_readFrame (k r x) : (s.followDelivery k r x).readFrame = s.readFrame := by
  cases x <;> simp [State.followDelivery]

@[simp] theorem State.exitBlocked_readFrame (k) : (s.exitBlocked k).readFrame = s.readFrame := by
  unfold State.exitBlocked; split <;> simp

@[simp] theorem State.takePoint_readFrame (p) : (s.takePoint p).readFrame = s.readFrame := by
  cases p <;> simp [State.takePoint]

@[simp] theorem State.settlePoints_readFrame : s.settlePoints.readFrame = s.readFrame :=
  foldl_keeps State.takePoint_readFrame _ s

end

/-! ## The Hall Line Controller and Node Control -/

section
variable (s : State)

@[simp] theorem State.startAttempt_readFrame : s.startAttempt.readFrame = s.readFrame := by
  unfold State.startAttempt; split <;> rfl

@[simp] theorem State.endAttempt_readFrame (e) : (State.endAttempt e s).readFrame = s.readFrame := by
  unfold State.endAttempt; split <;> simp

@[simp] theorem State.takeFault_readFrame : s.takeFault.readFrame = s.readFrame := rfl

@[simp] theorem State.rejoin_readFrame : s.rejoin.readFrame = s.readFrame := by
  unfold State.rejoin; dsimp only; split <;> simp

@[simp] theorem State.takeIdleGap_readFrame : s.takeIdleGap.readFrame = s.readFrame := by
  unfold State.takeIdleGap State.detach; repeat' split
  all_goals simp

/-- R182, R183: a telegram that no block is given is only counted. -/
@[simp] theorem State.takeDiscarded_readFrame (cls rx p) : (s.takeDiscarded cls rx p).readFrame = s.readFrame := by
  unfold State.takeDiscarded; repeat' split
  all_goals simp

@[simp] theorem State.abandon_readFrame : s.abandon.readFrame = s.readFrame := by
  unfold State.abandon
  rw [foldl_keeps (g := State.readFrame) fun _ _ => State.endRecord_readFrame _ _]
  rfl

@[simp] theorem State.takeReset_readFrame : s.takeReset.readFrame = s.readFrame := by
  unfold State.takeReset; dsimp only; split <;> simp [State.rejoinHall, State.resetBlocks]

@[simp] theorem State.takeStandby_readFrame : s.takeStandby.readFrame = s.readFrame := by
  unfold State.takeStandby; split <;> simp [State.ignoreCommand]

@[simp] theorem State.takeWake_readFrame : s.takeWake.readFrame = s.readFrame := by
  unfold State.takeWake; split <;> simp [State.ignoreCommand]

@[simp] theorem State.takeHello_readFrame (n) : (s.takeHello n).readFrame = s.readFrame := rfl

@[simp] theorem State.takeQuery_readFrame (rx k b) : (s.takeQuery rx k b).readFrame = s.readFrame := by
  unfold State.takeQuery; split <;> simp [State.discardQuery, State.reply]

@[simp] theorem State.takeLogQuery_readFrame (rx c p) : (s.takeLogQuery rx c p).readFrame = s.readFrame := by
  unfold State.takeLogQuery; dsimp only; split <;> simp

@[simp] theorem State.takeMapQuery_readFrame (rx c) : (s.takeMapQuery rx c).readFrame = s.readFrame := by
  unfold State.takeMapQuery; dsimp only; split <;> simp

@[simp] theorem State.takeUnknownKind_readFrame (rx k a) : (s.takeUnknownKind rx k a).readFrame = s.readFrame := by
  unfold State.takeUnknownKind
  split
  · rfl
  · exact State.receive_readFrame s (fun _ => State.takeQuery_readFrame ..) ..

end

/-! ## The Manifest Store and power -/

section
variable (s : State)

@[simp] theorem State.commitStores_readFrame (x) : (s.commitStores x).readFrame = s.readFrame := by
  unfold State.commitStores
  rw [foldl_keeps State.reportMisplaced_readFrame]
  rfl

@[simp] theorem State.applyHeld_readFrame (t) : (s.applyHeld t).readFrame = s.readFrame := by
  cases t with
  | manifest f => exact State.commitStores_readFrame ..
  | withdraw tag => exact State.commitStores_readFrame ..
  | deckMap f =>
    unfold State.applyHeld State.applyDeckMap; repeat' split
    all_goals simp

@[simp] theorem State.takeManifestTelegram_readFrame (t) : (s.takeManifestTelegram t).readFrame = s.readFrame := by
  unfold State.takeManifestTelegram; split <;> simp

@[simp] theorem State.examineNext_readFrame (n) : (s.examineNext n).readFrame = s.readFrame := by
  unfold State.examineNext; split <;> simp

@[simp] theorem State.takePurge_readFrame : s.takePurge.readFrame = s.readFrame := by
  simp [State.takePurge]

@[simp] theorem State.completePurge_readFrame : s.completePurge.readFrame = s.readFrame := by
  unfold State.completePurge
  rw [foldl_keeps State.applyHeld_readFrame]
  rfl

/-- R87, R88, R165: the stages of START that the end of it does not wait for speak of the stores and the log alone. -/
@[simp] theorem State.startStages_readFrame :
    s.checkRetention.finishPendingPurge.endStaleWindows.readFrame = s.readFrame := by
  unfold State.finishPendingPurge; split <;> rfl

end

/-! ## The commands -/

/-- The commands that neither end or begin the running of the node nor carry samples of an eye, a fault input or the reader
line. -/
def unsampled : Instr → Bool
  | .startComplete _ _ | .powerLoss => false
  | .inductionBlockedEdge _ | .inductionClearedEdge _ | .handoffEyeBlockedEdge _ | .exitEyeBlockedEdge _ _
  | .actuatorFaultChange _ _ => false
  | .framingError _ | .readerBreak _ | .report _ | .rateMeasurement _ | .rateOverflow _ | .characterReceived _ => false
  | _ => true

/-- The outcome of a command that leaves the frame of `s` alone. -/
def keepsFrame (s : State) (o : Host.Outcome State Fault Refusal) : Prop :=
  ∃ t, o = .next t ∧ t.readFrame = s.readFrame

theorem keepsFrame_next {s t : State} (h : t.readFrame = s.readFrame) : keepsFrame s (.next t) := ⟨t, rfl, h⟩

/-- A command with a guard, which off its guard changes nothing. -/
theorem keepsFrame_ite {s t : State} {p : Prop} [Decidable p] (h : t.readFrame = s.readFrame) :
    keepsFrame s (.next (if p then t else s)) :=
  keepsFrame_next (by split <;> simp [h])

/-- A telegram given to its owner. -/
theorem keepsFrame_receive {s : State} {cls : Byte} {rx : Rx} {p : List Byte} {owner : State → State}
    (h : ∀ u, (owner u).readFrame = u.readFrame) : keepsFrame s (.next (s.receive cls rx p owner)) :=
  keepsFrame_next (s.receive_readFrame h cls rx p)

/-- The bits of a command of the hall line, and the effect of their event. -/
theorem keepsFrame_heard {s : State} {r : Option (LineWatch × Option HallEvent)} {act : HallEvent → State → State}
    {p : Prop} [Decidable p] (h : ∀ e u, (act e u).readFrame = u.readFrame) :
    keepsFrame s (.next (if p then s.heard r State.putWatch act else s)) := by
  refine keepsFrame_ite ?_
  rcases s.heard_cases r State.putWatch act with ⟨-, he⟩ | ⟨w, -, he⟩ | ⟨w, e, -, he⟩ <;> rw [he] <;> simp [h]

theorem exec_unsampled (c : Instr) (s : State) (hc : unsampled c = true) : keepsFrame s (exec c s) := by
  cases c with
  | startComplete | powerLoss | inductionBlockedEdge | inductionClearedEdge | handoffEyeBlockedEdge | exitEyeBlockedEdge
  | actuatorFaultChange | framingError | readerBreak | report | rateMeasurement | rateOverflow | characterReceived =>
    exact absurd hc Bool.false_ne_true
  | powerOn => exact keepsFrame_next (by split <;> simp)
  | retentionLow => exact keepsFrame_next (by split <;> simp)
  | encoderPulse => exact keepsFrame_ite (by simp)
  | speedWindowEnd => exact keepsFrame_ite rfl
  | spanPoint n => exact keepsFrame_ite (s.takeSpanPoint_readFrame n)
  | windowEndPoint n => exact keepsFrame_ite (s.takeWindowEnd_readFrame n)
  | expiryPoint node bag => exact keepsFrame_ite (s.takeExpiry_readFrame node bag)
  | closePoint n => exact keepsFrame_ite (s.takeClosePoint_readFrame n)
  | armPoint n k => exact keepsFrame_ite (s.takeArmPoint_readFrame n k)
  | firePoint n => exact keepsFrame_ite (s.takeFirePoint_readFrame n)
  | deadlinePoint n => exact keepsFrame_ite (s.takeDeadline_readFrame n)
  | strokeTimerExpiry k => exact keepsFrame_ite (by simp)
  | gaugeConversionEnd codes =>
    refine keepsFrame_next ?_
    split
    · split <;> simp
    · rfl
  | gaugePassStart => exact keepsFrame_ite s.startPass_readFrame
  | refreshTimerExpiry => exact keepsFrame_ite s.queueOutletStates_readFrame
  | viewExpiry peer deck time => exact keepsFrame_ite rfl
  | claimWindowEnd sequence => exact keepsFrame_ite (by dsimp only; split <;> rfl)
  | joinTimerExpiry => exact keepsFrame_ite rfl
  | sweepExamination =>
    refine keepsFrame_next ?_
    split
    · split <;> simp
    · rfl
  | purgeComplete => exact keepsFrame_ite s.completePurge_readFrame
  | attemptStart line => exact keepsFrame_ite (by split <;> simp)
  | attemptEnd line => exact keepsFrame_heard fun e u => u.endAttempt_readFrame e
  | receiveError line => exact keepsFrame_heard fun _ u => u.takeFault_readFrame
  | detachment line => exact keepsFrame_heard fun _ u => u.takeIdleGap_readFrame
  | rejoin line => exact keepsFrame_heard fun _ u => u.takeIdleGap_readFrame
  | idleGap line => exact keepsFrame_heard fun _ u => u.takeIdleGap_readFrame
  | telegramDiscarded cls rx p => exact keepsFrame_next (s.takeDiscarded_readFrame cls rx p)
  | handoff rx p => exact keepsFrame_receive fun u => by simp
  | manifest rx p => exact keepsFrame_receive fun u => u.takeManifestTelegram_readFrame _
  | manifestWithdraw rx p => exact keepsFrame_receive fun u => u.takeManifestTelegram_readFrame _
  | deckMap rx p => exact keepsFrame_receive fun u => u.takeManifestTelegram_readFrame _
  | delivered rx p => exact keepsFrame_receive fun _ => rfl
  | purge rx p => exact keepsFrame_receive State.takePurge_readFrame
  | outletState rx p => exact keepsFrame_receive fun _ => rfl
  | deckClose rx p => exact keepsFrame_receive fun u => u.takeDeckClose_readFrame _
  | deckOpen rx p => exact keepsFrame_receive fun u => u.takeDeckOpen_readFrame _
  | outletRestore rx p => exact keepsFrame_receive fun u => by simp
  | strayCall rx p => exact keepsFrame_receive fun u => u.takeCall_readFrame ..
  | claim rx p => exact keepsFrame_receive fun u => by simp
  | lost rx p => exact keepsFrame_receive fun u => u.takeLost_readFrame _
  | misplaced rx p => exact keepsFrame_receive fun u => u.takeMisplaced_readFrame ..
  | reset rx p => exact keepsFrame_receive State.takeReset_readFrame
  | standby rx p => exact keepsFrame_receive State.takeStandby_readFrame
  | wake rx p => exact keepsFrame_receive State.takeWake_readFrame
  | hello rx p => exact keepsFrame_receive fun _ => rfl
  | identity rx a => exact keepsFrame_receive fun u => u.takeQuery_readFrame ..
  | outlet rx a => exact keepsFrame_receive fun u => u.takeQuery_readFrame ..
  | tag rx a => exact keepsFrame_receive fun u => u.takeQuery_readFrame ..
  | cabin rx a => exact keepsFrame_receive fun u => u.takeQuery_readFrame ..
  | counters rx a => exact keepsFrame_receive fun u => u.takeQuery_readFrame ..
  | strayLog rx a => exact keepsFrame_receive fun u => u.takeLogQuery_readFrame ..
  | map rx a => exact keepsFrame_receive fun u => u.takeMapQuery_readFrame ..
  | queryKindUnknown rx kind a => exact keepsFrame_next (s.takeUnknownKind_readFrame rx kind a)

end Sys2Proof.Machine
end

section
/-! SUPPORT. The commands that carry samples of an eye, a fault input or the reader line: what they keep of the read
accounting and of the samplers. -/

open Sys2Proof

namespace Sys2Proof.Machine

/-! ## The configuration (R1) -/

section
variable (s : State)

@[simp] theorem State.bindRead_config (tag) : (s.bindRead tag).config = s.config := by
  unfold State.bindRead; split <;> rfl

@[simp] theorem State.bindBreak_config : s.bindBreak.config = s.config := by
  unfold State.bindBreak; split <;> rfl

@[simp] theorem State.judgeReport_config (cs) : (s.judgeReport cs).config = s.config := by
  unfold State.judgeReport; dsimp only; split <;> simp

@[simp] theorem State.assemble_config (ch) : (s.assemble ch).config = s.config := by
  unfold State.assemble; repeat' split
  all_goals simp

@[simp] theorem State.takeCharacter_config (e) : (State.takeCharacter e s).config = s.config := by
  cases e with
  | character ch => unfold State.takeCharacter State.receiveCharacter; dsimp only; split <;> simp
  | framingError | brokenLine => rfl

@[simp] theorem State.takeFramingError_config : s.takeFramingError.config = s.config := rfl

@[simp] theorem State.takeBreak_config : s.takeBreak.config = s.config := by
  unfold State.takeBreak; split <;> simp

@[simp] theorem State.takeRate_config (e) : (State.takeRate e s).config = s.config := by
  cases e <;> rfl

end

/-- The outcome of a command that leaves the configuration of `s` alone. -/
def keepsConfig (s : State) (o : Host.Outcome State Fault Refusal) : Prop := ∃ t, o = .next t ∧ t.config = s.config

/-- The samples of a command, and the effect of their event. -/
theorem keepsConfig_heard {σ ε : Type} {s : State} {r : Option (σ × Option ε)} {store : σ → State → State}
    {act : ε → State → State} {p : Prop} [Decidable p] (hstore : ∀ f, (store f s).config = s.config)
    (hact : ∀ e u, (act e u).config = u.config) :
    keepsConfig s (.next (if p then s.heard r store act else s)) := by
  refine ⟨_, rfl, ?_⟩
  split
  · rcases s.heard_cases r store act with ⟨-, he⟩ | ⟨f, -, he⟩ | ⟨f, e, -, he⟩ <;> rw [he] <;> simp [hstore, hact]
  · rfl

theorem exec_config (c : Instr) (s : State) (hrun : s.running = true) (hc : c ≠ .powerLoss) :
    keepsConfig s (exec c s) := by
  by_cases hs : unsampled c = true
  · obtain ⟨t, ht, hframe⟩ := exec_unsampled c s hs
    exact ⟨t, ht, State.config_of_readFrame hframe⟩
  cases c with
  | powerLoss => exact absurd rfl hc
  | startComplete straps image =>
    obtain ⟨hstart, -⟩ := s.running_iff.mp hrun
    exact ⟨_, rfl, by rw [if_neg fun h => hstart h.2]⟩
  | inductionBlockedEdge samples =>
    exact keepsConfig_heard (fun _ => rfl) fun _ u => State.config_of_readFrame u.inductionBlocked_readFrame
  | inductionClearedEdge samples =>
    exact keepsConfig_heard (fun _ => rfl) fun _ u => State.config_of_readFrame u.inductionCleared_readFrame
  | handoffEyeBlockedEdge samples =>
    exact keepsConfig_heard (fun _ => rfl) fun _ u => State.config_of_readFrame u.handoffBlocked_readFrame
  | exitEyeBlockedEdge k samples =>
    exact keepsConfig_heard (fun _ => rfl) fun _ u => State.config_of_readFrame (u.exitBlocked_readFrame k)
  | actuatorFaultChange k samples =>
    exact keepsConfig_heard (fun _ => rfl) fun e u => State.config_of_readFrame (u.followFault_readFrame k e.level)
  | framingError line => exact keepsConfig_heard (fun _ => rfl) fun _ u => u.takeFramingError_config
  | readerBreak line => exact keepsConfig_heard (fun _ => rfl) fun _ u => u.takeBreak_config
  | report line => exact keepsConfig_heard (fun _ => rfl) fun e u => u.takeCharacter_config e
  | characterReceived line => exact keepsConfig_heard (fun _ => rfl) fun e u => u.takeCharacter_config e
  | rateMeasurement line => exact keepsConfig_heard (fun _ => rfl) fun e u => u.takeRate_config e
  | rateOverflow line => exact keepsConfig_heard (fun _ => rfl) fun e u => u.takeRate_config e
  | _ => exact absurd rfl hs

/-! ## The samplers (R12, R13, R15, R47 to R50) -/

theorem InputFilter.sample_ok {hold : Nat} (hpos : 0 < hold) (b : Bool) (f : InputFilter) (h : f.ok hold) :
    (f.sample hold b).1.ok hold := by
  cases f with
  | adopting seen =>
    simp only [InputFilter.sample]
    split
    · simpa [InputFilter.ok] using ‹_›
    · exact hpos
  | following level run =>
    simp only [InputFilter.sample]
    repeat' split
    · exact hpos
    · assumption
    · exact hpos

theorem receiveLine_ok {b : Bool} {line : List Bool} (hpos : 1 ≤ line.length) (hhead : line.head? = some false) :
    (receiveLine b line).1.ok := by
  unfold receiveLine
  repeat' split
  all_goals trivial

theorem Receiver.sample_ok (b : Bool) (r : Receiver) (h : r.ok) : (r.sample b).1.ok := by
  cases r with
  | hunting seenHigh =>
    simp only [Receiver.sample]
    repeat' split
    · trivial
    · exact ⟨by decide, by decide, rfl⟩
    · trivial
  | receiving line =>
    obtain ⟨hpos, -, hhead⟩ := h
    exact receiveLine_ok (by simp) (by rw [List.head?_append, hhead]; rfl)
  | afterBreak =>
    simp only [Receiver.sample]
    split <;> trivial

theorem Measurement.idle_ok : Measurement.idle.ok := fun _ h => by cases h

theorem Measurement.sample_ok (b : Bool) (m : Measurement) (h : m.ok) : (m.sample b).1.ok := by
  obtain ⟨last, _ | t⟩ := m
  · intro u hu
    simp only [Measurement.sample] at hu ⊢
    split at hu
    · cases hu
      exact ⟨rfl, by decide, by decide, by decide⟩
    · cases hu
  · obtain ⟨-, hticks, hone, hfour⟩ := h t rfl
    simp only [Measurement.sample]
    split
    · exact fun _ hu => by cases hu
    · rename_i hmax
      split
      · exact Measurement.idle_ok
      · rename_i hfalls
        intro u hu
        cases hu
        refine ⟨rfl, Nat.le_of_not_lt hmax, ?_⟩
        simp only [Timing.tick]
        split
        · rename_i hfell
          have : t.falls ≠ 4 := fun h4 => hfalls ⟨hfell, h4⟩
          omega
        · exact ⟨hone, hfour⟩

/-! ## What a command keeps -/

/-- The reader port's part of what every step keeps. -/
def TagReadPort.keepsReading (t u : TagReadPort) : Prop :=
  (t.balanced → u.balanced) ∧ (t.receiver.ok → u.receiver.ok) ∧ (t.measurement.ok → u.measurement.ok)

/-- R60: the counts of the balance. -/
def TrpCounters.reads (c : TrpCounters) : List Counter :=
  [c.validReports, c.boundReads, c.orphanReads, c.breaks, c.boundBreaks, c.orphanBreaks]

theorem TagReadPort.balanced_of_reads {t u : TagReadPort} (h : u.counters.reads = t.counters.reads) :
    t.balanced → u.balanced := by
  simp only [TrpCounters.reads, List.cons.injEq, and_true] at h
  obtain ⟨h1, h2, h3, h4, h5, h6⟩ := h
  unfold TagReadPort.balanced
  rw [h1, h2, h3, h4, h5, h6]
  exact id

/-- What every step keeps of the read accounting and of the samplers. -/
def State.keepsReading (s t : State) : Prop :=
  (s.trp.balanced → t.trp.balanced) ∧ (s.samplersOk → t.samplersOk)

theorem State.keepsReading_refl (s : State) : s.keepsReading s := ⟨id, id⟩

theorem State.keepsReading.trans {s t u : State} : s.keepsReading t → t.keepsReading u → s.keepsReading u
  | ⟨hbalance, hsamplers⟩, ⟨hbalance', hsamplers'⟩ => ⟨hbalance' ∘ hbalance, hsamplers' ∘ hsamplers⟩

theorem State.keepsReading_of_trp {s t : State} (hinputs : t.inputs = s.inputs) (h : s.trp.keepsReading t.trp) :
    s.keepsReading t := by
  obtain ⟨hbalance, hreceiver, hmeasurement⟩ := h
  exact ⟨hbalance, fun ⟨hi, hr, hm⟩ => ⟨hinputs ▸ hi, hreceiver hr, hmeasurement hm⟩⟩

theorem State.keepsReading_of_readFrame {s t : State} (h : t.readFrame = s.readFrame) : s.keepsReading t := by
  have hcounters : t.trp.counters = s.trp.counters := congrArg ReadFrame.counters h
  have hreceiver : t.trp.receiver = s.trp.receiver := congrArg ReadFrame.receiver h
  have hmeasurement : t.trp.measurement = s.trp.measurement := congrArg ReadFrame.measurement h
  refine State.keepsReading_of_trp (State.inputs_of_readFrame h) ⟨?_, ?_, ?_⟩
  · exact TagReadPort.balanced_of_reads (congrArg TrpCounters.reads hcounters)
  · rw [hreceiver]; exact id
  · rw [hmeasurement]; exact id

/-- The outcome of a command that keeps the read accounting and the samplers of `s`. -/
def outcomeKeepsReading (s : State) (o : Host.Outcome State Fault Refusal) : Prop := ∃ t, o = .next t ∧ s.keepsReading t

theorem keepsReading_heard {σ ε : Type} {s : State} {r : Option (σ × Option ε)} {store : σ → State → State}
    {act : ε → State → State} {p : Prop} [Decidable p] (hstore : ∀ f e, r = some (f, e) → s.keepsReading (store f s))
    (hact : ∀ e (u : State), u.keepsReading (act e u)) :
    outcomeKeepsReading s (.next (if p then s.heard r store act else s)) := by
  refine ⟨_, rfl, ?_⟩
  split
  · rcases s.heard_cases r store act with ⟨-, he⟩ | ⟨f, hr, he⟩ | ⟨f, e, hr, he⟩ <;> rw [he]
    · exact s.keepsReading_refl
    · exact hstore f none hr
    · exact (hstore f (some e) hr).trans (hact e _)
  · exact s.keepsReading_refl

/-! ## The samples of each input -/

section
variable {s : State} {samples : List Bool} {f : InputFilter}

theorem InputFilter.hear_ok {hold : Nat} (hpos : 0 < hold) {tells row : FilterEvent → Bool} {g : InputFilter}
    {e : Option FilterEvent} (h : hear (InputFilter.sample hold) tells row samples f = some (g, e)) (hf : f.ok hold) :
    g.ok hold := hear_keeps (InputFilter.sample_ok hpos) hf h

theorem keepsReading_putInduction {blocked : Bool} {e : Option FilterEvent}
    (h : hearInduction blocked samples s.inputs.induction = some (f, e)) : s.keepsReading (State.putInduction f s) :=
  ⟨id, fun ⟨⟨hi, hrest⟩, htrp⟩ => ⟨⟨InputFilter.hear_ok (by decide) h hi, hrest⟩, htrp⟩⟩

theorem keepsReading_putHandoff {e : Option FilterEvent} (h : hearEye samples s.inputs.handoff = some (f, e)) :
    s.keepsReading (State.putHandoff f s) :=
  ⟨id, fun ⟨⟨hi, hh, hrest⟩, htrp⟩ => ⟨⟨hi, InputFilter.hear_ok (by decide) h hh, hrest⟩, htrp⟩⟩

/-- One outlet position's value replaced by one that meets what every position's meets. -/
theorem PerOutlet.forall_get_set {α : Type} {p : PerOutlet α} {k : OutletNo} {a : α} {P : α → Prop}
    (hp : ∀ j, P (p.get j)) (ha : P a) (j : OutletNo) : P ((p.set k a).get j) := by
  by_cases hj : j = k
  · subst hj; rwa [PerOutlet.get_set_self]
  · rw [PerOutlet.get_set_other _ _ hj]; exact hp j

theorem keepsReading_putExit {k : OutletNo} {e : Option FilterEvent}
    (h : hearEye samples (s.inputs.exits.get k) = some (f, e)) : s.keepsReading (State.putExit k f s) :=
  ⟨id, fun ⟨⟨hi, hh, hk⟩, htrp⟩ => ⟨⟨hi, hh, fun j =>
    ⟨PerOutlet.forall_get_set (fun j => (hk j).1) (InputFilter.hear_ok (by decide) h (hk k).1) j, (hk j).2⟩⟩, htrp⟩⟩

theorem keepsReading_putFault {k : OutletNo} {e : Option FilterEvent}
    (h : hearFault samples (s.inputs.faults.get k) = some (f, e)) : s.keepsReading (State.putFault k f s) :=
  ⟨id, fun ⟨⟨hi, hh, hk⟩, htrp⟩ => ⟨⟨hi, hh, fun j =>
    ⟨(hk j).1, PerOutlet.forall_get_set (fun j => (hk j).2) (InputFilter.hear_ok (by decide) h (hk k).2) j⟩⟩, htrp⟩⟩

theorem keepsReading_putReceiver {row : LineEvent → Bool} {r : Receiver} {e : Option LineEvent}
    (h : hearLine row samples s.trp.receiver = some (r, e)) : s.keepsReading (State.putReceiver r s) :=
  ⟨id, fun ⟨hi, hr, hm⟩ => ⟨hi, hear_keeps Receiver.sample_ok hr h, hm⟩⟩

theorem keepsReading_putMeasurement {row : RateEvent → Bool} {m : Measurement} {e : Option RateEvent}
    (h : hearTicks row samples s.trp.measurement = some (m, e)) : s.keepsReading (State.putMeasurement m s) :=
  ⟨id, fun ⟨hi, hr, hm⟩ => ⟨hi, hr, hear_keeps Measurement.sample_ok hm h⟩⟩

end

/-! ## The reader port (R47 to R57) -/

/-- R55, R60: a valid report counted and then bound, or found an orphan, restores the balance. -/
theorem State.bindRead_balances (s : State) (tag : Nat)
    (hreports : s.trp.counters.validReports = s.trp.counters.boundReads + s.trp.counters.orphanReads + 1)
    (hbreaks : s.trp.counters.breaks = s.trp.counters.boundBreaks + s.trp.counters.orphanBreaks) :
    (s.bindRead tag).trp.balanced := by
  unfold State.bindRead
  split
  · exact ⟨by simp only [State.onTrp, TagReadPort.tally, hreports]; bv_omega, hbreaks⟩
  · exact ⟨by simp only [State.onTrp, State.onSt, TagReadPort.tally, hreports]; bv_omega, hbreaks⟩

/-- R57, R60: a break counted and then bound, or found an orphan, restores the balance. -/
theorem State.bindBreak_balances (s : State)
    (hreports : s.trp.counters.validReports = s.trp.counters.boundReads + s.trp.counters.orphanReads)
    (hbreaks : s.trp.counters.breaks = s.trp.counters.boundBreaks + s.trp.counters.orphanBreaks + 1) :
    s.bindBreak.trp.balanced := by
  unfold State.bindBreak
  split
  · exact ⟨hreports, by simp only [State.closeWindow, State.onTrp, State.onSt, TagReadPort.tally, hbreaks]; bv_omega⟩
  · exact ⟨hreports, by simp only [State.onTrp, TagReadPort.tally, hbreaks]; bv_omega⟩

theorem State.bindBreak_frame (s : State) :
    s.bindBreak.trp.receiver = s.trp.receiver ∧ s.bindBreak.trp.measurement = s.trp.measurement
      ∧ s.bindBreak.inputs = s.inputs := by
  unfold State.bindBreak
  split <;> exact ⟨rfl, rfl, rfl⟩

theorem State.bindRead_frame (s : State) (tag : Nat) :
    (s.bindRead tag).trp.receiver = s.trp.receiver ∧ (s.bindRead tag).trp.measurement = s.trp.measurement
      ∧ (s.bindRead tag).inputs = s.inputs := by
  unfold State.bindRead
  split <;> exact ⟨rfl, rfl, rfl⟩

/-- R53: an invalid report counts a read error and nothing else. -/
theorem TagReadPort.invalidate_frame (t : TagReadPort) :
    t.invalidate.receiver = t.receiver ∧ t.invalidate.measurement = t.measurement
      ∧ t.invalidate.counters.reads = t.counters.reads := by
  unfold TagReadPort.invalidate
  split <;> exact ⟨rfl, rfl, rfl⟩

/-- Counts outside the balance, and a measurement begun anew, change none of it. -/
theorem TagReadPort.keepsReading_of_frame {t u : TagReadPort} (hr : u.receiver = t.receiver)
    (hm : u.measurement = t.measurement ∨ u.measurement = .idle) (hc : u.counters.reads = t.counters.reads) :
    t.keepsReading u := by
  refine ⟨TagReadPort.balanced_of_reads hc, (congrArg Receiver.ok hr).mpr, fun h => ?_⟩
  rcases hm with hm | hm <;> rw [hm]
  · exact h
  · exact Measurement.idle_ok

theorem TagReadPort.invalidate_keepsReading (t : TagReadPort) : t.keepsReading t.invalidate := by
  obtain ⟨hr, hm, hc⟩ := t.invalidate_frame
  exact TagReadPort.keepsReading_of_frame hr (.inl hm) hc

theorem TagReadPort.framingError_keepsReading (auto : Bool) (t : TagReadPort) : t.keepsReading (t.framingError auto) := by
  obtain ⟨hr, hm, hc⟩ := t.invalidate_frame
  unfold TagReadPort.framingError
  dsimp only
  split
  · exact TagReadPort.keepsReading_of_frame hr (.inr rfl) hc
  · exact TagReadPort.keepsReading_of_frame hr (.inl hm) hc

theorem State.judgeReport_keepsReading (s : State) (cs : List Byte) : s.keepsReading (s.judgeReport cs) := by
  unfold State.judgeReport
  dsimp only
  split
  · obtain ⟨hr, hm, hi⟩ := State.bindRead_frame (s.onTrp fun t =>
      { t with assembly := none }.tally fun c => { c with validReports := c.validReports + 1 })
        (tagOfDigits (cs.map digitOf))
    refine State.keepsReading_of_trp hi ⟨fun ⟨hreports, hbreaks⟩ => ?_, (congrArg Receiver.ok hr).mpr,
      (congrArg Measurement.ok hm).mpr⟩
    exact State.bindRead_balances _ _ (congrArg (· + 1) hreports) hbreaks
  · exact State.keepsReading_of_trp rfl s.trp.invalidate_keepsReading

theorem State.assemble_keepsReading (s : State) (ch : Byte) : s.keepsReading (s.assemble ch) := by
  unfold State.assemble
  repeat' split
  · exact ⟨id, id⟩
  · exact s.keepsReading_refl
  · exact State.keepsReading_of_trp rfl s.trp.invalidate_keepsReading
  · exact ⟨id, id⟩
  · exact State.keepsReading_of_trp rfl s.trp.invalidate_keepsReading
  · exact s.judgeReport_keepsReading _
  · exact State.keepsReading_of_trp rfl s.trp.invalidate_keepsReading

theorem State.takeCharacter_keepsReading (e : LineEvent) (s : State) : s.keepsReading (State.takeCharacter e s) := by
  cases e with
  | framingError | brokenLine => exact s.keepsReading_refl
  | character ch =>
    unfold State.takeCharacter State.receiveCharacter
    dsimp only
    split
    · exact ⟨id, id⟩
    · exact State.keepsReading.trans (t := s.onTrp fun t => { t with framingRun := 0 }) ⟨id, id⟩
        (State.assemble_keepsReading _ ch)

theorem State.takeBreak_keepsReading (s : State) : s.keepsReading s.takeBreak := by
  unfold State.takeBreak
  split
  · exact s.keepsReading_refl
  · obtain ⟨hr, hm, hc⟩ := s.trp.invalidate_frame
    simp only [TrpCounters.reads, List.cons.injEq, and_true] at hc
    obtain ⟨hvalid, hbound, horphan, hbreak, hboundBreak, horphanBreak⟩ := hc
    obtain ⟨hr', hm', hi'⟩ := State.bindBreak_frame
      (s.onTrp fun t => t.invalidate.tally fun c => { c with breaks := c.breaks + 1 })
    refine State.keepsReading_of_trp hi' ⟨fun ⟨hreports, hbreaks⟩ => ?_, (congrArg Receiver.ok (hr'.trans hr)).mpr,
      (congrArg Measurement.ok (hm'.trans hm)).mpr⟩
    refine State.bindBreak_balances _ ?_ ?_
    · simp only [State.onTrp, TagReadPort.tally, hvalid, hbound, horphan, hreports]
    · simp only [State.onTrp, TagReadPort.tally, hbreak, hboundBreak, horphanBreak, hbreaks]

theorem State.takeRate_keepsReading (e : RateEvent) (s : State) : s.keepsReading (State.takeRate e s) := by
  cases e with
  | measured ticks => exact ⟨id, fun ⟨hi, _, hm⟩ => ⟨hi, trivial, hm⟩⟩
  | overflows => exact ⟨id, id⟩

/-! ## Power and START -/

theorem InputFilters.begin_ok : InputFilters.begin.ok := by
  have heye : (InputFilter.adopting []).ok 20 := by unfold InputFilter.ok; decide
  have hfault : (InputFilter.adopting []).ok 200 := by unfold InputFilter.ok; decide
  refine ⟨heye, heye, fun k => ?_⟩
  cases k <;> exact ⟨heye, hfault⟩

theorem TagReadPort.start_frame (c : NodeConfig) (t : TagReadPort) :
    (t.start c).receiver = .hunting false ∧ (t.start c).measurement = .idle ∧ (t.start c).counters = t.counters := by
  unfold TagReadPort.start
  repeat' split
  all_goals exact ⟨rfl, rfl, rfl⟩

theorem State.startBlocks_keepsReading (s : State) (c : NodeConfig) : s.keepsReading (s.startBlocks c) := by
  obtain ⟨hr, hm, hc⟩ := s.trp.start_frame c
  refine ⟨fun h => ?_, fun _ => ⟨InputFilters.begin_ok, ?_, ?_⟩⟩
  · exact TagReadPort.balanced_of_reads (congrArg TrpCounters.reads hc) h
  · exact (congrArg Receiver.ok hr).mpr trivial
  · exact (congrArg Measurement.ok hm).mpr Measurement.idle_ok

theorem execStartComplete_keepsReading (straps : BitVec 6) (image : List Byte) (s : State) :
    outcomeKeepsReading s (execStartComplete straps image s) := by
  refine ⟨_, rfl, ?_⟩
  repeat' split
  · exact State.keepsReading_of_readFrame rfl
  · exact (s.startBlocks_keepsReading _).trans (State.keepsReading_of_readFrame rfl)
  · exact s.keepsReading_refl

theorem execPowerLoss_keepsReading (s : State) : outcomeKeepsReading s (execPowerLoss s) := by
  refine ⟨_, rfl, ?_⟩
  split
  · exact ⟨fun _ => ⟨rfl, rfl⟩, fun _ => ⟨InputFilters.begin_ok, trivial, Measurement.idle_ok⟩⟩
  · exact s.keepsReading_refl

/-! ## Every command -/

theorem exec_keepsReading (c : Instr) (s : State) : outcomeKeepsReading s (exec c s) := by
  by_cases hs : unsampled c = true
  · obtain ⟨t, ht, hframe⟩ := exec_unsampled c s hs
    exact ⟨t, ht, State.keepsReading_of_readFrame hframe⟩
  cases c with
  | powerLoss => exact execPowerLoss_keepsReading s
  | startComplete straps image => exact execStartComplete_keepsReading straps image s
  | inductionBlockedEdge samples =>
    exact keepsReading_heard (fun _ _ => keepsReading_putInduction)
      fun _ u => State.keepsReading_of_readFrame u.inductionBlocked_readFrame
  | inductionClearedEdge samples =>
    exact keepsReading_heard (fun _ _ => keepsReading_putInduction)
      fun _ u => State.keepsReading_of_readFrame u.inductionCleared_readFrame
  | handoffEyeBlockedEdge samples =>
    exact keepsReading_heard (fun _ _ => keepsReading_putHandoff)
      fun _ u => State.keepsReading_of_readFrame u.handoffBlocked_readFrame
  | exitEyeBlockedEdge k samples =>
    exact keepsReading_heard (fun _ _ => keepsReading_putExit)
      fun _ u => State.keepsReading_of_readFrame (u.exitBlocked_readFrame k)
  | actuatorFaultChange k samples =>
    exact keepsReading_heard (fun _ _ => keepsReading_putFault)
      fun e u => State.keepsReading_of_readFrame (u.followFault_readFrame k e.level)
  | framingError line =>
    exact keepsReading_heard (fun _ _ => keepsReading_putReceiver)
      fun _ u => State.keepsReading_of_trp rfl (u.trp.framingError_keepsReading _)
  | readerBreak line =>
    exact keepsReading_heard (fun _ _ => keepsReading_putReceiver) fun _ u => u.takeBreak_keepsReading
  | report line =>
    exact keepsReading_heard (fun _ _ => keepsReading_putReceiver) fun e u => u.takeCharacter_keepsReading e
  | characterReceived line =>
    exact keepsReading_heard (fun _ _ => keepsReading_putReceiver) fun e u => u.takeCharacter_keepsReading e
  | rateMeasurement line =>
    exact keepsReading_heard (fun _ _ => keepsReading_putMeasurement) fun e u => u.takeRate_keepsReading e
  | rateOverflow line =>
    exact keepsReading_heard (fun _ _ => keepsReading_putMeasurement) fun e u => u.takeRate_keepsReading e
  | _ => exact absurd rfl hs

/-- What every command keeps, where it does not speak of the commands that wait, every step keeps. -/
theorem step_of_exec {P : State → State → Prop} (hrefl : ∀ s, P s s)
    (h : ∀ c cs (s : State), ∃ t, exec c { s with pending := cs } = .next t ∧ P s t) {s t : State}
    (hstep : step s = .next t) : P s t := by
  unfold step at hstep
  split at hstep
  · cases hstep; exact hrefl s
  · rename_i c cs _
    obtain ⟨u, hu, hP⟩ := h c cs s
    rw [hu] at hstep
    cases hstep
    exact hP

end Sys2Proof.Machine

open Sys2Proof.Machine

/-- Settles O3: of the commands that take samples none but START's end and the loss of power reaches the configuration, and
START's end finds no START to end while the node runs. -/
theorem configurationFrozen : Obligations.ConfigurationFrozen := by
  unfold Obligations.ConfigurationFrozen
  exact exec_config

/-- Settles O11: command by command, the sampled ones by what each sampler's step keeps. -/
theorem readBalanceKept : Obligations.ReadBalanceKept := by
  unfold Obligations.ReadBalanceKept
  exact fun s t => step_of_exec State.keepsReading_refl fun c cs s => exec_keepsReading c { s with pending := cs }

end

section
/-! SUPPORT. The belt (chapter 1): what the taking of a point leaves alone, and which points are due. -/

open Sys2Proof

namespace Sys2Proof.Machine

/-! ## What a notice or the ending of a record leaves of the Section Tracker -/

/-- The parts of the Section Tracker that only the encoder, the speed window, the induction eye and a RESET change. -/
structure BeltFrame where
  encoderCount : Count
  windowCount  : Nat
  speed        : Nat
  overrange    : Bool
  passage      : Passage
  nextNumber   : Count
  arrivals     : Counter

def SectionTracker.beltFrame (t : SectionTracker) : BeltFrame :=
  ⟨t.encoderCount, t.windowCount, t.speed, t.overrange, t.passage, t.nextNumber, t.counters.arrivals⟩

@[simp] theorem SectionTracker.notice_beltFrame (t : SectionTracker) (n f) : (t.notice n f).beltFrame = t.beltFrame := by
  unfold SectionTracker.notice; split <;> rfl

/-! ## What the taking of a point leaves alone (R7) -/

/-- The parts of a node that no point changes, besides those of its frame. -/
def State.pointFrame (s : State) : ManifestStore × List ViewEntry × BeltFrame := (s.ms, s.om.view, s.st.beltFrame)

section
variable (s : State)

@[simp] theorem State.onSt_notice_pointFrame (n f) :
    (s.onSt (SectionTracker.notice n f)).pointFrame = s.pointFrame := by
  simp [State.pointFrame]

@[simp] theorem State.onTrp_pointFrame (f) : (s.onTrp f).pointFrame = s.pointFrame := rfl
@[simp] theorem State.onDc_pointFrame (f) : (s.onDc f).pointFrame = s.pointFrame := rfl
@[simp] theorem State.onSu_pointFrame (f) : (s.onSu f).pointFrame = s.pointFrame := rfl
@[simp] theorem State.onHlc_pointFrame (f) : (s.onHlc f).pointFrame = s.pointFrame := rfl
@[simp] theorem State.onNc_pointFrame (f) : (s.onNc f).pointFrame = s.pointFrame := rfl

@[simp] theorem State.closeWindow_pointFrame (n x) : (s.closeWindow n x).pointFrame = s.pointFrame := by
  simp [State.closeWindow]

@[simp] theorem State.closeWindowByTags_pointFrame (n) : (s.closeWindowByTags n).pointFrame = s.pointFrame := by
  simp [State.closeWindowByTags]

@[simp] theorem State.endRecord_pointFrame (n) : (s.endRecord n).pointFrame = s.pointFrame := by
  unfold State.endRecord; split <;> simp

@[simp] theorem State.reportLost_pointFrame (r) : (s.reportLost r).pointFrame = s.pointFrame := by
  rw [State.reportLost_eq]; rfl

@[simp] theorem State.standbyTest_pointFrame : s.standbyTest.pointFrame = s.pointFrame := by
  unfold State.standbyTest; split <;> rfl

@[simp] theorem State.dropArmed_pointFrame (k) : (s.dropArmed k).pointFrame = s.pointFrame := by
  exact (foldl_keeps (fun u _ => u.onSt_notice_pointFrame ..) _ _).trans rfl

@[simp] theorem State.summarise_pointFrame (k first) : (s.summarise k first).pointFrame = s.pointFrame := by
  rw [State.summarise_eq]; split <;> rfl

@[simp] theorem State.rederive_pointFrame (k first) : (s.rederive k first).pointFrame = s.pointFrame := by
  simp only [State.rederive, State.summarise_pointFrame]
  repeat' split
  · rfl
  · rw [State.dropArmed_pointFrame]; rfl
  · rfl

@[simp] theorem State.reportMiss_pointFrame (k) : (s.reportMiss k).pointFrame = s.pointFrame := by
  unfold State.reportMiss
  dsimp only
  split
  · rw [State.rederive_pointFrame]; rfl
  · rfl

@[simp] theorem State.takeSpanPoint_pointFrame (n) : (s.takeSpanPoint n).pointFrame = s.pointFrame := by
  unfold State.takeSpanPoint; repeat' split
  all_goals rfl

@[simp] theorem State.takeWindowEnd_pointFrame (n) : (s.takeWindowEnd n).pointFrame = s.pointFrame := by
  unfold State.takeWindowEnd
  repeat' split
  · simp only [State.standbyTest_pointFrame, State.endRecord_pointFrame, State.reportLost_pointFrame]; rfl
  · rfl
  · rfl

@[simp] theorem State.takeExpiry_pointFrame (x n) : (s.takeExpiry x n).pointFrame = s.pointFrame := by
  unfold State.takeExpiry
  repeat' split
  · simp only [State.standbyTest_pointFrame, State.reportLost_pointFrame]; rfl
  · rfl
  · rfl

@[simp] theorem State.takeClosePoint_pointFrame (n) : (s.takeClosePoint n).pointFrame = s.pointFrame := by
  unfold State.takeClosePoint; repeat' split
  all_goals simp

@[simp] theorem State.takeDeadline_pointFrame (n) : (s.takeDeadline n).pointFrame = s.pointFrame := by
  unfold State.takeDeadline State.missPush; repeat' split
  all_goals simp

@[simp] theorem State.takeFirePoint_pointFrame (n) : (s.takeFirePoint n).pointFrame = s.pointFrame := by
  unfold State.takeFirePoint State.firePusher State.dropBusy; repeat' split
  all_goals simp

@[simp] theorem State.evaluate_pointFrame (k r) : (s.evaluate k r).pointFrame = s.pointFrame := by
  unfold State.evaluate
  cases decideRoute s k r <;> simp [State.carryOut, State.commit]

@[simp] theorem State.takeArmPoint_pointFrame (n k) : (s.takeArmPoint n k).pointFrame = s.pointFrame := by
  unfold State.takeArmPoint; dsimp only; repeat' split
  all_goals simp

@[simp] theorem State.takePoint_pointFrame (p) : (s.takePoint p).pointFrame = s.pointFrame := by
  cases p <;> simp [State.takePoint]

@[simp] theorem State.settlePoints_pointFrame : s.settlePoints.pointFrame = s.pointFrame :=
  foldl_keeps State.takePoint_pointFrame _ s

end

/-! ## The points that are due (R7) -/

/-- R7: what is registered for a point, with the count that has reached it. -/
def State.isDue (s : State) : Point → Prop
  | .span n => ∃ r ∈ s.st.records, r.number = n ∧ r.binding = .awaiting
      ∧ hasReached s.st.encoderCount (spanPointOf s.config r.leading) = true
  | .windowEnd n => ∃ r ∈ s.st.records, r.number = n
      ∧ hasReached s.st.encoderCount (windowEndOf s.config r.leading) = true
  | .expiry node bag => ∃ e ∈ s.st.expectations, e.node = node ∧ e.bag = bag
      ∧ hasReached s.st.encoderCount (expiryPointOf s.config e.receipt) = true
  | .close n => ∃ w ∈ s.trp.windows, w.record = n ∧ ∃ x, w.close = some x ∧ hasReached s.st.encoderCount x = true
  | .arm n k => ∃ p ∈ s.dc.armPoints, p.record = n ∧ p.outlet = k ∧ hasReached s.st.encoderCount p.count = true
  | .fire n => ∃ c ∈ s.dc.commitments, c.record = n ∧ c.phase = .armed ∧ hasReached s.st.encoderCount c.fire = true
  | .deadline n => ∃ c ∈ s.dc.commitments, c.record = n ∧ c.phase = .fired
      ∧ hasReached s.st.encoderCount c.deadline = true

section
variable {s : State}

/-- A push is due at its fire point while ARMED and at its deadline once FIRED. -/
theorem State.mem_duePushes {p : Point} :
    p ∈ s.duePushes ↔ ∃ c ∈ s.dc.commitments,
      (c.phase = .armed ∧ hasReached s.st.encoderCount c.fire = true ∧ .fire c.record = p)
        ∨ (c.phase = .fired ∧ hasReached s.st.encoderCount c.deadline = true ∧ .deadline c.record = p) := by
  simp only [State.duePushes, List.mem_map, List.mem_filter, and_assoc]
  refine exists_congr fun c => and_congr_right fun _ => ?_
  cases c.phase <;> simp

theorem State.mem_dueCloses {p : Point} :
    p ∈ s.dueCloses ↔ ∃ w ∈ s.trp.windows,
      (∃ x, w.close = some x ∧ hasReached s.st.encoderCount x = true) ∧ .close w.record = p := by
  simp only [State.dueCloses, List.mem_map, List.mem_filter, and_assoc]
  refine exists_congr fun w => and_congr_right fun _ => ?_
  cases w.close <;> simp

/-- Each kind of point stands in one of the six lists alone. -/
theorem State.mem_duePoints {p : Point} : p ∈ s.duePoints ↔ s.isDue p := by
  simp only [State.duePoints, List.mem_append, State.mem_dueCloses, State.mem_duePushes, State.dueSpans, State.dueArms,
    State.dueWindowEnds, State.dueExpiries, List.mem_map, List.mem_filter, Bool.and_eq_true, beq_iff_eq]
  cases p <;>
    simp only [reduceCtorEq, and_false, or_false, false_or, exists_false, Point.span.injEq, Point.windowEnd.injEq,
      Point.expiry.injEq, Point.close.injEq, Point.arm.injEq, Point.fire.injEq, Point.deadline.injEq] <;>
    exact exists_congr fun _ => by tauto

end

/-! ## Points and their commands -/

/-- R7: the command that names a point takes it. -/
theorem exec_command {s : State} (hrun : s.running = true) (p : Point) : exec p.command s = .next (s.takePoint p) := by
  cases p <;> exact congrArg Host.Outcome.next (if_pos hrun)

theorem exec_encoderPulse {s : State} (hrun : s.running = true) :
    exec .encoderPulse s = .next (s.onSt SectionTracker.advance).settlePoints :=
  congrArg Host.Outcome.next (if_pos hrun)

/-- What no point changes. -/
theorem State.settlePoints_frame (s : State) :
    s.settlePoints.config = s.config ∧ s.settlePoints.inputs = s.inputs ∧ s.settlePoints.ms = s.ms
      ∧ s.settlePoints.om.view = s.om.view ∧ s.settlePoints.st.beltFrame = s.st.beltFrame := by
  have hpoint := s.settlePoints_pointFrame
  simp only [State.pointFrame, Prod.mk.injEq] at hpoint
  have hread := s.settlePoints_readFrame
  exact ⟨State.config_of_readFrame hread, State.inputs_of_readFrame hread, hpoint⟩

theorem SectionTracker.endWindow_below {t : SectionTracker} (h : t.windowCount < 4095) :
    t.endWindow = { t with windowCount := 0, speed := 4 * t.windowCount, overrange := false } := by
  have hne : t.windowCount ≠ Config.maxWindowCount := Nat.ne_of_lt h
  simp [SectionTracker.endWindow, SectionTracker.tally, hne]

theorem SectionTracker.endWindow_full {t : SectionTracker} (h : t.windowCount = 4095) :
    t.endWindow = { t with
      windowCount := 0, speed := 16380, overrange := true,
      counters := { t.counters with speedOverrange := t.counters.speedOverrange + 1 } } := by
  simp [SectionTracker.endWindow, SectionTracker.tally, h, Config.maxWindowCount]

end Sys2Proof.Machine

open Sys2Proof.Machine

/-- Settles O26: by the count at which the window ends; the two counters of the reply are read off the group. -/
theorem speedWindowSaturates : Obligations.SpeedWindowSaturates := by
  unfold Obligations.SpeedWindowSaturates
  intro s hrun
  have hexec : exec .speedWindowEnd s = .next (s.onSt SectionTracker.endWindow) :=
    congrArg Host.Outcome.next (if_pos hrun)
  refine ⟨fun h => ?_, fun h => ?_, _, rfl, rfl, rfl⟩
  · rw [hexec, State.onSt, SectionTracker.endWindow_below h]
  · rw [hexec, State.onSt, SectionTracker.endWindow_full h]

/-- Settles O25: the advance is the state `u`, each point is taken by its command, and no point reaches what the pulse itself
changes. -/
theorem encoderPulseAdvances : Obligations.EncoderPulseAdvances := by
  unfold Obligations.EncoderPulseAdvances
  refine ⟨?_, fun s p hrun => exec_command hrun p, ?_⟩
  · rintro s u hrun rfl
    obtain ⟨hconfig, hinputs, hms, hview, hbelt⟩ := State.settlePoints_frame (s.onSt SectionTracker.advance)
    refine ⟨_, exec_encoderPulse hrun, rfl, fun hnone => ?_, congrArg BeltFrame.encoderCount hbelt,
      congrArg BeltFrame.windowCount hbelt, congrArg BeltFrame.speed hbelt, congrArg BeltFrame.overrange hbelt,
      congrArg BeltFrame.passage hbelt, congrArg BeltFrame.nextNumber hbelt, hconfig, hinputs,
      congrArg BeltFrame.arrivals hbelt, hview, hms⟩
    exact congrArg (List.foldl State.takePoint _) hnone
  · exact fun s => ⟨fun _ => State.mem_duePoints, fun _ => State.mem_duePoints, fun _ _ => State.mem_duePoints,
      fun _ => State.mem_duePoints, fun _ _ => State.mem_duePoints, fun _ => State.mem_duePoints,
      fun _ => State.mem_duePoints⟩

end

section
/-! SUPPORT. The filters of the eyes and fault inputs, sample by sample (R12, R13, R15), and the induction and handoff eyes
(R14, R17 to R21, R33 to R35). -/

open Sys2Proof

namespace Sys2Proof.Machine

/-! ## One sample of a filter -/

section
variable {hold run : Nat} {level : Bool}

theorem InputFilter.sample_same : InputFilter.sample hold level (.following level run) = (.following level 0, none) := by
  simp [InputFilter.sample]

theorem InputFilter.sample_opposite (h : run + 1 < hold) :
    InputFilter.sample hold (!level) (.following level run) = (.following level (run + 1), none) := by
  simp [InputFilter.sample, h]

theorem InputFilter.sample_changes (h : run + 1 = hold) :
    InputFilter.sample hold (!level) (.following level run) = (.following (!level) 0, some (.changes (!level))) := by
  simp [InputFilter.sample, h]

theorem InputFilter.sample_seen (h : run + 1 < hold) :
    InputFilter.sample hold level (.adopting (List.replicate run level)) =
      (.adopting (List.replicate (run + 1) level), none) := by
  simp [InputFilter.sample, h, List.replicate_succ']

/-- R13: samples that are all alike give their level. -/
theorem initialLevel_replicate (n : Nat) (level : Bool) : initialLevel (List.replicate (n + 1) level) = level := by
  cases level <;> simp [initialLevel, List.replicate_succ]

theorem InputFilter.sample_adopts (h : run + 1 = hold) :
    InputFilter.sample hold level (.adopting (List.replicate run level)) =
      (.following level 0, some (.adopts level)) := by
  subst h
  simp [InputFilter.sample, ← List.replicate_succ', initialLevel_replicate]

end

/-! ## A run of samples -/

/-- The command's own event, at its last sample. -/
theorem hear_last {σ ε : Type} {sample : Bool → σ → σ × Option ε} {tells row : ε → Bool} {b : Bool} {f g : σ} {e : ε}
    (h : sample b f = (g, some e)) (htells : tells e = true) (hrow : row e = true) :
    hear sample tells row [b] f = some (g, some e) := by
  simp [hear, h, htells, hrow]

/-- An event that no block is told of passes by. -/
theorem hear_untold {σ ε : Type} {sample : Bool → σ → σ × Option ε} {tells row : ε → Bool} {b : Bool} {f g : σ} {e : ε}
    (h : sample b f = (g, some e)) (htells : tells e = false) : hear sample tells row [b] f = some (g, none) := by
  simp [hear, h, htells]

section
variable {hold run n : Nat} {level : Bool} {tells row : FilterEvent → Bool}

/-- R12: a run of opposite samples shorter than the hold only counts. -/
theorem hear_opposite (h : run + n < hold) :
    hear (InputFilter.sample hold) tells row (List.replicate n (!level)) (.following level run) =
      some (.following level (run + n), none) := by
  induction n generalizing run with
  | zero => rfl
  | succ n ih =>
    rw [List.replicate_succ, hear_cons_none (InputFilter.sample_opposite (by omega)), ih (by omega),
      Nat.add_right_comm, Nat.add_assoc]

/-- R12: one sample of the filtered level ends the run. -/
theorem hear_opposite_then_same (h : run + n < hold) :
    hear (InputFilter.sample hold) tells row (List.replicate n (!level) ++ [level]) (.following level run) =
      some (.following level 0, none) := by
  rw [hear_append (hear_opposite h), hear_cons_none InputFilter.sample_same, hear]

/-- R12: the last sample of a full run changes the filtered level. -/
theorem hear_full_run (hrun : run < hold) (h : run + n = hold) (htells : tells (.changes (!level)) = true)
    (hrow : row (.changes (!level)) = true) :
    hear (InputFilter.sample hold) tells row (List.replicate n (!level)) (.following level run) =
      some (.following (!level) 0, some (.changes (!level))) := by
  obtain ⟨m, rfl⟩ := Nat.exists_eq_succ_of_ne_zero (show n ≠ 0 by omega)
  rw [List.replicate_succ', hear_append (hear_opposite (by omega)),
    hear_last (InputFilter.sample_changes (by omega)) htells hrow]

/-- R13: alike samples before the full number are only seen. -/
theorem hear_seen (h : run + n < hold) :
    hear (InputFilter.sample hold) tells row (List.replicate n level) (.adopting (List.replicate run level)) =
      some (.adopting (List.replicate (run + n) level), none) := by
  induction n generalizing run with
  | zero => rfl
  | succ n ih =>
    rw [List.replicate_succ, hear_cons_none (InputFilter.sample_seen (by omega)), ih (by omega),
      Nat.add_right_comm, Nat.add_assoc]

/-- R13: the last of the full number of alike samples adopts their level. -/
theorem hear_adopts (hrun : run < hold) (h : run + n = hold) (htells : tells (.adopts level) = false) :
    hear (InputFilter.sample hold) tells row (List.replicate n level) (.adopting (List.replicate run level)) =
      some (.following level 0, none) := by
  obtain ⟨m, rfl⟩ := Nat.exists_eq_succ_of_ne_zero (show n ≠ 0 by omega)
  rw [List.replicate_succ', hear_append (hear_seen (by omega)),
    hear_untold (InputFilter.sample_adopts (by omega)) htells]

/-- R15: an adoption that is told is the event of the last sample. -/
theorem hear_adopts_told (hrun : run < hold) (h : run + n = hold) (htells : tells (.adopts level) = true)
    (hrow : row (.adopts level) = true) :
    hear (InputFilter.sample hold) tells row (List.replicate n level) (.adopting (List.replicate run level)) =
      some (.following level 0, some (.adopts level)) := by
  obtain ⟨m, rfl⟩ := Nat.exists_eq_succ_of_ne_zero (show n ≠ 0 by omega)
  rw [List.replicate_succ', hear_append (hear_seen (by omega)),
    hear_last (InputFilter.sample_adopts (by omega)) htells hrow]

end

/-! ## The first free number (R17) -/

/-- The search ends at the first number not in use, or has found as many in use as it may look at. -/
theorem freeNumber_spec (used : List Count) (fuel : Nat) (c : Count) :
    ∃ i, freeNumber used fuel c = c + BitVec.ofNat 16 i ∧ (∀ j, j < i → c + BitVec.ofNat 16 j ∈ used)
      ∧ (c + BitVec.ofNat 16 i ∉ used ∨ i = fuel) := by
  induction fuel generalizing c with
  | zero => exact ⟨0, by simp [freeNumber], by simp, .inr rfl⟩
  | succ fuel ih =>
    unfold freeNumber
    split
    · rename_i hc
      obtain ⟨i, heq, hused, hend⟩ := ih (c + 1)
      have hshift : ∀ j, c + BitVec.ofNat 16 (j + 1) = c + 1 + BitVec.ofNat 16 j := fun j => by
        rw [BitVec.ofNat_add, BitVec.add_assoc, BitVec.add_comm (BitVec.ofNat 16 j)]
        rfl
      refine ⟨i + 1, by rw [heq, hshift], fun j hj => ?_, ?_⟩
      · cases j with
        | zero => simpa using hc
        | succ j => rw [hshift]; exact hused j (by omega)
      · rw [hshift]
        exact hend.imp id (congrArg (· + 1))
    · rename_i hc
      exact ⟨0, by simp, by simp, .inl (by simpa using hc)⟩

/-- Numbers from one count on, fewer than all, are as many as they seem. -/
theorem length_le_of_numbers_mem {used : List Count} {c : Count} {n : Nat} (hn : n ≤ 65536)
    (h : ∀ j, j < n → c + BitVec.ofNat 16 j ∈ used) : n ≤ used.length := by
  have hnodup : ((List.range n).map fun j => c + BitVec.ofNat 16 j).Nodup := by
    rw [List.nodup_map_iff_inj_on List.nodup_range]
    intro i hi j hj hij
    rw [List.mem_range] at hi hj
    have := congrArg BitVec.toNat ((BitVec.add_right_inj c).mp hij)
    simp only [BitVec.toNat_ofNat] at this
    omega
  have hsubset : ((List.range n).map fun j => c + BitVec.ofNat 16 j) ⊆ used := by
    intro x hx
    obtain ⟨j, hj, rfl⟩ := List.mem_map.mp hx
    exact h j (List.mem_range.mp hj)
  simpa using (hnodup.subperm hsubset).length_le

/-- R17: the ST gives the first free number from its counter on. -/
theorem SectionTracker.newNumber_spec {t : SectionTracker} (h : t.records.length < 24) :
    ∃ i, t.newNumber = t.nextNumber + BitVec.ofNat 16 i ∧ t.newNumber ∉ t.records.map BagRecord.number
      ∧ ∀ j, j < i → t.nextNumber + BitVec.ofNat 16 j ∈ t.records.map BagRecord.number := by
  obtain ⟨i, heq, hused, hend⟩ :=
    freeNumber_spec (t.records.map BagRecord.number) (t.records.length + 1) t.nextNumber
  refine ⟨i, heq, ?_, hused⟩
  rw [SectionTracker.newNumber, heq]
  rcases hend with hfree | rfl
  · exact hfree
  · have := length_le_of_numbers_mem (by omega) hused
    rw [List.length_map] at this
    omega

/-! ## The induction eye (R14, R19 to R21) -/

theorem State.wakeUp_eq (s : State) : s.wakeUp = if s.nc.state = .standby then s.woken else s := by
  split
  · exact State.wakeUp_standby ‹_›
  · exact State.wakeUp_other ‹_›

/-- R194: a wake is no concern of the ST, the TRP, the DC or the configuration. -/
theorem State.wakeUp_frame (s : State) :
    s.wakeUp.st = s.st ∧ s.wakeUp.trp = s.trp ∧ s.wakeUp.dc = s.dc ∧ s.wakeUp.config = s.config := by
  rw [State.wakeUp_eq]
  split <;> exact ⟨rfl, rfl, rfl, rfl⟩

/-- R19, R21, R54, R93: an arrival. -/
theorem State.arrive_eq (s : State) :
    s.arrive = { s with
      st := { s.st with
        records := s.st.records ++
          [{ number := s.st.newNumber, leading := s.st.encoderCount, length := none, binding := .awaiting, tags := [],
             readState := .windowOpen, lap := 0, deferred := false, missed := false, reason := none,
             commitment := none }]
        passage := .ofRecord s.st.newNumber
        nextNumber := s.st.newNumber + 1
        feedHold := if 21 ≤ s.st.records.length then true else s.st.feedHold
        counters := { s.st.counters with arrivals := s.st.counters.arrivals + 1 } }
      trp := { s.trp with windows := s.trp.windows ++ [⟨s.st.newNumber, none⟩] }
      dc := { s.dc with armPoints := s.dc.armPoints ++ s.config.fittedOutlets.map fun k =>
        { record := s.st.newNumber, outlet := k,
          count := s.st.encoderCount + BitVec.ofNat 16 (s.config.outlet k).centre
            - BitVec.ofNat 16 (s.config.outlet k).arm } } } := by
  have hhold : feedHoldAfterAdd (s.st.records.length + 1) s.st.feedHold
      = if 21 ≤ s.st.records.length then true else s.st.feedHold := by
    simp only [feedHoldAfterAdd, Config.feedHoldAt, Nat.reduceLeDiff]
  rw [← hhold]
  rfl

theorem State.inductionBlocked_of_room {s : State} (h : s.st.records.length < 24) :
    s.inductionBlocked = s.wakeUp.arrive := by
  obtain ⟨hst, -⟩ := s.wakeUp_frame
  have hroom : s.wakeUp.st.records.length < Config.maxRecords := hst ▸ h
  exact if_pos hroom

theorem State.inductionBlocked_of_full {s : State} (h : 24 ≤ s.st.records.length) :
    s.inductionBlocked = s.wakeUp.onSt SectionTracker.overflow := by
  obtain ⟨hst, -⟩ := s.wakeUp_frame
  have hfull : ¬ s.wakeUp.st.records.length < Config.maxRecords := hst ▸ Nat.not_lt.mpr h
  exact if_neg hfull

theorem exec_inductionBlockedEdge {s : State} (hrun : s.running = true) (samples : List Bool) :
    exec (.inductionBlockedEdge samples) s =
      .next (s.heard (hearInduction true samples s.inputs.induction) State.putInduction fun _ t => t.inductionBlocked) :=
  congrArg Host.Outcome.next (if_pos hrun)

theorem exec_inductionClearedEdge {s : State} (hrun : s.running = true) (samples : List Bool) :
    exec (.inductionClearedEdge samples) s =
      .next (s.heard (hearInduction false samples s.inputs.induction) State.putInduction fun _ t => t.inductionCleared) :=
  congrArg Host.Outcome.next (if_pos hrun)

/-! ## The handoff eye (R33 to R35) -/

theorem exec_handoffEyeBlockedEdge {s : State} (hrun : s.running = true) (samples : List Bool) :
    exec (.handoffEyeBlockedEdge samples) s =
      .next (s.heard (hearEye samples s.inputs.handoff) State.putHandoff fun _ t => t.handoffBlocked) :=
  congrArg Host.Outcome.next (if_pos hrun)

/-- R33: the candidate is the first record not in phase FIRED. -/
theorem SectionTracker.candidate_of_split {t : SectionTracker} {older younger : List BagRecord} {r : BagRecord}
    (hrecords : t.records = older ++ r :: younger) (holder : ∀ x ∈ older, x.isFired = true) (hr : r.isFired = false) :
    t.candidate = some r := by
  have hnone : older.find? (fun x => !x.isFired) = none :=
    List.find?_eq_none.mpr fun x hx => by simp [holder x hx]
  simp [SectionTracker.candidate, hrecords, List.find?_append, hnone, hr]

/-- R58: the read state a window closes with. -/
theorem readStateOf_eq (fitted : Bool) (tags : List Nat) :
    readStateOf fitted tags = if tags = [] then (if fitted then .noRead else .notRead) else .read := by
  simp [readStateOf]

/-- R34, R35: what a blocked edge at the handoff eye does with its candidate. -/
theorem State.handoffBlocked_of_candidate {s : State} {r : BagRecord} (hr : s.st.candidate = some r)
    (hwindow : hasReached s.st.encoderCount (windowStartOf s.config r.leading) = true) :
    s.handoffBlocked = s.handOff r := by
  simp only [State.handoffBlocked, hr, hwindow, if_true]

/-- R35: an edge with no candidate, or before its window, is untracked. -/
theorem State.handoffBlocked_untracked {s : State}
    (h : ∀ r, s.st.candidate = some r → hasReached s.st.encoderCount (windowStartOf s.config r.leading) = false) :
    s.handoffBlocked = { s with st := { s.st with
      counters := { s.st.counters with untracked := s.st.counters.untracked + 1 } } } := by
  unfold State.handoffBlocked
  split
  · rename_i r hr
    rw [if_neg (by simp [h r hr])]
    rfl
  · rfl

/-- R34: the node once a record has left the list and its HANDOFF has been queued. -/
def State.handedOver (s : State) (r : BagRecord) : State :=
  (s.onSt fun t => (t.remove r.number).tally fun c => { c with handedOff := c.handedOff + 1 }).send
    s.config.downstream (.handoff (r.handoffFields s.config))

theorem State.handOff_eq (s : State) (r : BagRecord) :
    s.handOff r = ((s.handedOver r).endRecord r.number).standbyTest := rfl

theorem State.handedOver_record (s : State) (r : BagRecord) : (s.handedOver r).st.record r.number = none :=
  SectionTracker.remove_record s.st r.number

/-- R34, R39: the hand-off of a record, block by block. -/
theorem State.handOff_spec (s : State) (r : BagRecord) :
    (s.handOff r).st = { s.trackerWithout r.number with
        counters := { (s.trackerWithout r.number).counters with handedOff := s.st.counters.handedOff + 1 } }
      ∧ (s.handOff r).hlc = s.hlc.enqueue ⟨s.config.downstream, .handoff (r.handoffFields s.config)⟩
      ∧ (s.handOff r).trp.windows = s.trp.windows.filter (fun w => w.record != r.number)
      ∧ (s.handOff r).trp.counters = s.trp.counters ∧ (s.handOff r).dc = s.dc.forget r.number
      ∧ (s.handOff r).ms = s.ms ∧ (s.handOff r).su = s.su
      ∧ (s.nc.state ≠ .standbyPending →
          (s.handOff r).nc = s.nc ∧ (s.handOff r).om = s.om ∧ (s.handOff r).trp.assembly = s.trp.assembly) := by
  obtain ⟨hms, hom, hsu, hhlc, hnc, -⟩ := (s.handedOver r).endRecord_frame r.number
  have htrp := (s.handedOver r).endRecord_trp r.number
  simp only [State.handOff_eq, State.standbyTest_st, State.standbyTest_hlc, State.standbyTest_windows,
    State.standbyTest_trp_counters, State.standbyTest_dc, State.standbyTest_ms, State.standbyTest_su,
    State.endRecord_st (s.handedOver_record r), State.endRecord_dc, hms, hsu, hhlc, htrp]
  refine ⟨rfl, rfl, rfl, rfl, rfl, rfl, rfl, fun hne => ?_⟩
  rw [State.standbyTest_of_ne (by rw [hnc]; exact hne), hnc, hom, htrp]
  exact ⟨rfl, rfl, rfl⟩

end Sys2Proof.Machine

open Sys2Proof.Machine

/-- Settles O27: the wake leaves the ST, the TRP and the DC as they were, so the arrival is that of the state before; the
filter's laws are those of a run of samples. -/
theorem inductionBlockedArrives : Obligations.InductionBlockedArrives := by
  unfold Obligations.InductionBlockedArrives
  refine ⟨?_, ?_, ?_⟩
  · intro s v u samples f hrun hheard hv hu
    have hwake : u = v.wakeUp := by rw [hu, State.wakeUp_eq, hv]
    obtain ⟨hst, htrp, hdc, hconfig⟩ := v.wakeUp_frame
    rw [← hwake] at hst htrp hdc hconfig
    have hvst : v.st = s.st := by rw [hv]
    have hvtrp : v.trp = s.trp := by rw [hv]
    have hvdc : v.dc = s.dc := by rw [hv]
    have hvconfig : v.config = s.config := by rw [hv]
    have hexec : exec (.inductionBlockedEdge samples) s = .next v.inductionBlocked := by
      rw [exec_inductionBlockedEdge hrun, hheard, State.heard_event, hv]
      rfl
    rw [hexec]
    refine ⟨fun hroom => ?_, fun hfull => ?_⟩
    · obtain ⟨i, hi, hfree, hused⟩ := SectionTracker.newNumber_spec hroom
      refine ⟨i, s.st.newNumber, hi, hfree, hused, ?_⟩
      rw [State.inductionBlocked_of_room (by rw [hvst]; exact hroom), ← hwake, State.arrive_eq, hst, htrp, hdc, hconfig,
        hvst, hvtrp, hvdc, hvconfig]
    · rw [State.inductionBlocked_of_full (by rw [hvst]; exact hfull), ← hwake, State.onSt, hst, hvst]
      rfl
  · rintro s samples blocked c hrun rfl
    cases blocked
    · simp only [Bool.false_eq_true, if_false, exec_inductionClearedEdge hrun]
      exact ⟨fun f h => by rw [h]; rfl, fun h => by rw [h]; rfl⟩
    · simp only [if_true, exec_inductionBlockedEdge hrun]
      exact ⟨fun f h => by rw [h]; rfl, fun h => by rw [h]; rfl⟩
  · exact fun hold tells row level run n hrun =>
      ⟨fun h => ⟨hear_opposite h, hear_opposite_then_same h⟩, fun h => hear_full_run hrun h, hear_seen,
        hear_adopts hrun⟩

/-- Settles O29: the candidate is the record `r`, whose read state is the one its window would close with. -/
theorem handoffEyeHandsOff : Obligations.HandoffEyeHandsOff := by
  unfold Obligations.HandoffEyeHandsOff
  refine ⟨?_, ?_, ?_⟩
  · intro s samples f older younger r hrun hheard hrecords holder hr hwindow
    have hcandidate : (State.putHandoff f s).st.candidate = some r :=
      SectionTracker.candidate_of_split hrecords holder hr
    have hframe : ((State.putHandoff f s).handOff r).readFrame = (State.putHandoff f s).readFrame :=
      State.handOff_readFrame ..
    obtain ⟨hst, hhlc, hwindows, hcounters, hdc, hms, hsu, hrest⟩ := State.handOff_spec (State.putHandoff f s) r
    have hconfig := State.config_of_readFrame hframe
    have hinputs := State.inputs_of_readFrame hframe
    refine ⟨_, ?_, hst, ?_, hwindows, hcounters, hdc, hms, hsu, hconfig, hinputs, hrest⟩
    · rw [exec_handoffEyeBlockedEdge hrun, hheard, State.heard_event,
        State.handoffBlocked_of_candidate hcandidate hwindow]
    · rw [hhlc, BagRecord.handoffFields, BagRecord.handoffReadState, readStateOf_eq]
      rfl
  · intro s samples f hrun hheard h
    have huntracked := State.handoffBlocked_untracked (s := State.putHandoff f s) h
    rw [exec_handoffEyeBlockedEdge hrun, hheard, State.heard_event, huntracked]
    rfl
  · intro s samples hrun
    rw [exec_handoffEyeBlockedEdge hrun]
    exact ⟨fun f h => by rw [h]; rfl, fun h => by rw [h]; rfl⟩

end

section
/-! SUPPORT. What follows a change of an outlet's record (R106, R131 to R133), and the commands of the Outlet Monitor that
make one (R126, R128, R129). -/

open Sys2Proof

namespace Sys2Proof.Machine

/-! ## The re-derivation of an outlet (R106, R131 to R133) -/

/-- R38, R93: every commitment is that of a record in the list. -/
def State.commitmentsHeld (s : State) : Prop :=
  ∀ c ∈ s.dc.commitments, c.record ∈ s.st.records.map BagRecord.number

theorem State.linked.commitmentsHeld {s : State} (h : s.linked) : s.commitmentsHeld := by
  obtain ⟨-, -, -, -, hheld, -⟩ := h
  exact hheld

/-- R106: the states that drop ARMED commitments. -/
theorem OutletState.drops_eq (x : OutletState) : x.drops = (x == .jammed || x == .fault || x == .closed) := by
  cases x <;> rfl

/-- R106, R131: the node once outlet k's record has become `o` and its state has been derived. -/
def State.stateSettled (s : State) (k : OutletNo) (o : OutletRecord) : State :=
  let state := outletStateOf (s.config.outlet k).role o s.om.closed
  let dropped := state != o.state && (state == .jammed || state == .fault || state == .closed)
  { s with
    om := { s.om with outlets := s.om.outlets.set k { o with state := state } }
    dc := if dropped then s.dc.withoutArmed k else s.dc
    st := if dropped then s.trackerWithoutArmed k else s.st }

/-- R106: what the OM holds is no concern of the dropping of commitments. -/
theorem State.dropArmed_onOm {s : State} (h : s.commitmentsHeld) (f : OutletMonitor → OutletMonitor) (k : OutletNo) :
    (s.onOm f).dropArmed k = { s with om := f s.om, dc := s.dc.withoutArmed k, st := s.trackerWithoutArmed k } :=
  State.dropArmed_eq (s := s.onOm f) h k

theorem State.rederive_eq_summarise {s : State} (h : s.commitmentsHeld) (k : OutletNo) (o : OutletRecord)
    (first : Bool) :
    (s.onOm (OutletMonitor.setOutlet k o)).rederive k first = (s.stateSettled k o).summarise k first := by
  have houtlet : (s.onOm (OutletMonitor.setOutlet k o)).om.outlet k = o := OutletMonitor.outlet_setOutlet k o s.om
  unfold State.rederive
  simp only [houtlet]
  congr 1
  simp only [State.stateSettled, ← OutletState.drops_eq]
  by_cases hsame : outletStateOf (s.config.outlet k).role o s.om.closed = o.state
  · simp [State.onOm, OutletMonitor.setOutlet, hsame]
  · by_cases hdrop : (outletStateOf (s.config.outlet k).role o s.om.closed).drops = true
    · have htwice : (s.onOm (OutletMonitor.setOutlet k o)).onOm (OutletMonitor.setOutlet k
            { o with state := outletStateOf (s.config.outlet k).role o s.om.closed }) =
          s.onOm (OutletMonitor.setOutlet k
            { o with state := outletStateOf (s.config.outlet k).role o s.om.closed }) := by
        simp only [State.onOm, OutletMonitor.setOutlet, PerOutlet.set_set]
      simp [htwice, hsame, hdrop, State.dropArmed_onOm h, OutletMonitor.setOutlet]
    · simp [hsame, hdrop, State.onOm, OutletMonitor.setOutlet, PerOutlet.set_set]

theorem State.summarise_stateSettled (s : State) (k : OutletNo) (o : OutletRecord) (first : Bool) :
    (s.stateSettled k o).summarise k first = s.outletSettled k o first := by
  have houtlet : (s.stateSettled k o).om.outlet k =
      { o with state := outletStateOf (s.config.outlet k).role o s.om.closed } :=
    OutletMonitor.outlet_setOutlet k _ s.om
  rw [State.summarise_eq]
  simp only [houtlet]
  unfold State.outletSettled
  have hconfig : (s.stateSettled k o).config = s.config := rfl
  rw [hconfig]
  cases hdeck : (s.config.outlet k).deckServed with
  | none => simp [State.stateSettled, hdeck]
  | some d => simp [State.stateSettled, hdeck, PerOutlet.set_set]

/-- R106, R131 to R133: an outlet's record changed and re-derived. -/
theorem State.rederive_setOutlet {s : State} (h : s.commitmentsHeld) (k : OutletNo) (o : OutletRecord) (first : Bool) :
    (s.onOm (OutletMonitor.setOutlet k o)).rederive k first = s.outletSettled k o first := by
  rw [State.rederive_eq_summarise h, State.summarise_stateSettled]

/-- R129: an outlet's record as it stands, re-derived. -/
theorem State.rederive_eq {s : State} (h : s.commitmentsHeld) (k : OutletNo) (first : Bool) :
    s.rederive k first = s.outletSettled k (s.om.outlet k) first := by
  rw [← State.rederive_setOutlet h]
  congr 1
  simp only [State.onOm, OutletMonitor.setOutlet, OutletMonitor.outlet, PerOutlet.set_get]

/-! ## The outlets of a deck (R129) -/

/-- R129, R130: one outlet's turn in the re-derivation of the outlets of some decks. -/
def State.rederiveAmong (ds : List Nat) (s : State) (k : OutletNo) : State :=
  match (s.config.outlet k).deckServed with
  | some d => if ds.contains d then s.rederive k false else s
  | none => s

theorem State.rederiveDecks_eq_foldl (s : State) (ds : List Nat) :
    s.rederiveDecks ds = OutletNo.all.foldl (State.rederiveAmong ds) s := rfl

theorem State.rederiveAmong_of_served {s : State} {ds : List Nat} {k : OutletNo} {d : Nat}
    (hk : (s.config.outlet k).deckServed = some d) (hd : d ∈ ds) : s.rederiveAmong ds k = s.rederive k false := by
  simp [State.rederiveAmong, hk, hd]

theorem State.rederiveAmong_of_unserved {s : State} {ds : List Nat} {k : OutletNo}
    (h : ∀ d, (s.config.outlet k).deckServed = some d → d ∉ ds) : s.rederiveAmong ds k = s := by
  unfold State.rederiveAmong
  split
  · rename_i d hd
    simp [h d hd]
  · rfl

theorem State.rederiveDecks_unserved {s : State} {ds : List Nat}
    (h : ∀ k d, (s.config.outlet k).deckServed = some d → d ∉ ds) : s.rederiveDecks ds = s :=
  List.foldl_fixed' (fun k => State.rederiveAmong_of_unserved (h k)) _

/-- R129: of the outlets of one deck that a single outlet serves, that outlet alone is re-derived. -/
theorem State.rederiveDecks_one {s : State} {d : Nat} {k : OutletNo} (hk : (s.config.outlet k).deckServed = some d)
    (honly : ∀ j, (s.config.outlet j).deckServed = some d → j = k) : s.rederiveDecks [d] = s.rederive k false := by
  have hturn : ∀ u : State, u.config = s.config → ∀ j,
      u.rederiveAmong [d] j = if j = k then u.rederive k false else u := by
    intro u hu j
    split
    · subst j
      exact State.rederiveAmong_of_served (hu ▸ hk) (List.mem_singleton_self d)
    · rename_i hj
      refine State.rederiveAmong_of_unserved fun e he hmem => hj (honly j ?_)
      rw [← hu, he, List.mem_singleton.mp hmem]
  have hconfig : (s.rederive k false).config = s.config := State.config_of_readFrame (s.rederive_readFrame k false)
  simp only [State.rederiveDecks_eq_foldl, OutletNo.all, List.foldl_cons, List.foldl_nil]
  cases k <;> simp [hturn, hconfig]

/-! ## An actuator's fault input (R15, R126) -/

theorem exec_actuatorFaultChange {s : State} {k : OutletNo} (hrun : s.running = true)
    (hfitted : (s.config.outlet k).fitted = true) (samples : List Bool) :
    exec (.actuatorFaultChange k samples) s =
      .next (s.heard (hearFault samples (s.inputs.faults.get k)) (State.putFault k) fun e t => t.followFault k e.level) :=
  congrArg Host.Outcome.next (if_pos (by rw [hrun, hfitted]; rfl))

theorem exec_actuatorFaultChange_unfitted {s : State} {k : OutletNo} (h : (s.config.outlet k).fitted = false)
    (samples : List Bool) : exec (.actuatorFaultChange k samples) s = .next s :=
  congrArg Host.Outcome.next (if_neg (by simp [h]))

/-- R15: 200 alike samples adopt their level, of which only ASSERTED is told. -/
theorem hearFault_adopts (level : Bool) :
    hearFault (List.replicate 200 level) (.adopting []) =
      some (.following level 0, if level then some (.adopts true) else none) := by
  cases level
  · exact hear_adopts (run := 0) (by decide) rfl rfl
  · exact hear_adopts_told (run := 0) (by decide) rfl rfl rfl

theorem hearFault_changes (level : Bool) :
    hearFault (List.replicate 200 (!level)) (.following level 0) =
      some (.following (!level) 0, some (.changes (!level))) :=
  hear_full_run (by decide) rfl rfl rfl

theorem hearFault_short {n : Nat} (h : n < 200) (level : Bool) :
    hearFault (List.replicate n (!level)) (.following level 0) = some (.following level n, none) := by
  have hshort : 0 + n < Config.faultHold := by rw [Nat.zero_add]; exact h
  rw [hearFault, hear_opposite hshort, Nat.zero_add]

/-! ## OUTLET-RESTORE (R128) -/

theorem OutletNo.ofNat_number (k : OutletNo) : OutletNo.ofNat? k.number = some k := by cases k <;> rfl

theorem OutletNo.number_of_ofNat {n : Nat} {k : OutletNo} (h : OutletNo.ofNat? n = some k) : k.number = n := by
  unfold OutletNo.ofNat? at h
  split at h <;> cases h <;> rfl

theorem NodeConfig.fittedNumber_eq_none {c : NodeConfig} {n : Nat}
    (h : ∀ k : OutletNo, k.number = n → (c.outlet k).fitted = false) : c.fittedNumber n = none := by
  rw [NodeConfig.fittedNumber, Option.filter_eq_none_iff]
  intro k hk
  rw [h k (OutletNo.number_of_ofNat hk)]
  exact Bool.false_ne_true

theorem NodeConfig.fittedNumber_number {c : NodeConfig} {k : OutletNo} (h : (c.outlet k).fitted = true) :
    c.fittedNumber k.number = some k := by
  simp [NodeConfig.fittedNumber, OutletNo.ofNat_number, h]

theorem State.takeRestore_refused {s : State} {rx : Rx} {n : Nat}
    (h : broadcast rx = true ∨ ∀ k : OutletNo, k.number = n → (s.config.outlet k).fitted = false) :
    s.takeRestore rx n = { s with om := { s.om with
      counters := { s.om.counters with restoresRefused := s.om.counters.restoresRefused + 1 } } } := by
  have hnone : (if broadcast rx then none else s.config.fittedNumber n) = none := by
    rcases h with h | h
    · rw [if_pos h]
    · rw [NodeConfig.fittedNumber_eq_none h, ite_self]
  rw [State.takeRestore, hnone]
  rfl

theorem State.takeRestore_taken {s : State} {rx : Rx} {k : OutletNo} (hheld : s.commitmentsHeld)
    (hrx : broadcast rx = false) (hfitted : (s.config.outlet k).fitted = true) :
    s.takeRestore rx k.number =
      State.outletSettled { s with om := { s.om with
          counters := { s.om.counters with restores := s.om.counters.restores + 1 } } }
        k { s.om.outlet k with jam := false, misses := 0 } false := by
  have hsome : (if broadcast rx then none else s.config.fittedNumber k.number) = some k := by
    rw [if_neg (by simp [hrx]), NodeConfig.fittedNumber_number hfitted]
  rw [State.takeRestore, hsome, ← State.rederive_setOutlet]
  · rfl
  · exact hheld

/-- R194: an addressed telegram that wakes is no concern of the ST, the DC or the configuration. -/
theorem State.takenAwake_frame (s : State) (rx : Rx) :
    (s.takenAwake rx).st = s.st ∧ (s.takenAwake rx).dc = s.dc ∧ (s.takenAwake rx).config = s.config := by
  unfold State.takenAwake
  split <;> exact ⟨rfl, rfl, rfl⟩

theorem exec_outletRestore {s : State} {rx : Rx} {p : List Byte} (h : s.delivers classOutletRestore rx p) :
    exec (.outletRestore rx p) s = .next ((s.takenAwake rx).takeRestore rx (byteAt p 0)) := by
  rw [← State.takenAwake_eq]
  exact congrArg Host.Outcome.next (State.receive_of_delivers h _)

/-! ## DECK-CLOSE and DECK-OPEN (R129) -/

theorem mem_insertDeck {d x : Nat} {ds : List Nat} : x ∈ insertDeck d ds ↔ x = d ∨ x ∈ ds := by
  induction ds with
  | nil => simp [insertDeck]
  | cons y ys ih =>
    unfold insertDeck
    split
    · exact List.mem_cons
    · rw [List.mem_cons, ih, List.mem_cons]
      tauto

theorem NodeConfig.serves_eq_false {c : NodeConfig} {d : Nat} (h : c.serves d = false) (k : OutletNo) :
    (c.outlet k).deckServed ≠ some d := fun hk => by
  have : c.serves d = true := by
    rw [NodeConfig.serves, List.contains_iff_mem]
    exact NodeConfig.mem_servedDecks.mpr ⟨k, hk⟩
  rw [h] at this
  cases this

theorem State.rederiveDecks_nil (s : State) : s.rederiveDecks [] = s :=
  State.rederiveDecks_unserved fun _ _ _ => List.not_mem_nil

/-- R129: what follows a command that names deck `d`, where it changes nothing (`same`) or changes the closed-deck set: the
one outlet of that deck is re-derived, if there is one. -/
theorem State.rederiveDecks_changed {s : State} {d : Nat} (hheld : s.commitmentsHeld) (same : Prop) [Decidable same] :
    ((same ∨ s.config.serves d = false) → s.rederiveDecks (if same then [] else [d]) = s)
      ∧ ∀ k, ¬ same → (s.config.outlet k).deckServed = some d → s.config.servedDecks.Nodup →
          s.rederiveDecks (if same then [] else [d]) = s.outletSettled k (s.om.outlet k) false := by
  refine ⟨fun h => ?_, fun k hchanged hk hnodup => ?_⟩
  · by_cases hsame : same
    · rw [if_pos hsame, State.rederiveDecks_nil]
    · rw [if_neg hsame]
      refine State.rederiveDecks_unserved fun k e hk he => ?_
      rw [List.mem_singleton.mp he] at hk
      exact NodeConfig.serves_eq_false (h.resolve_left hsame) k hk
  · rw [if_neg hchanged,
      State.rederiveDecks_one hk fun j hj => (NodeConfig.servedDecks_nodup_iff _).mp hnodup j k d hj hk,
      State.rederive_eq hheld]

theorem deck_out_of_range {d : Nat} (h : d = 0 ∨ 20 < d) : inRange 1 Config.maxDeck d = false := by
  rw [Bool.eq_false_iff, ne_eq, inRange_iff, Config.maxDeck]
  omega

theorem deck_in_range {d : Nat} (h : 1 ≤ d) (h' : d ≤ 20) : inRange 1 Config.maxDeck d = true :=
  inRange_iff.mpr ⟨h, h'⟩

theorem State.takeDeckClose_refused {s : State} {d : Nat} (h : d = 0 ∨ 20 < d) :
    s.takeDeckClose d = { s with om := { s.om with
      counters := { s.om.counters with deckRefused := s.om.counters.deckRefused + 1 } } } :=
  if_neg (by simp [deck_out_of_range h])

theorem State.takeDeckOpen_refused {s : State} {d : Nat} (h : d = 0 ∨ 20 < d) :
    s.takeDeckOpen d = { s with om := { s.om with
      counters := { s.om.counters with deckRefused := s.om.counters.deckRefused + 1 } } } :=
  if_neg (by simp [deck_out_of_range h])

theorem State.takeDeckClose_taken {s : State} {d : Nat} (h : 1 ≤ d) (h' : d ≤ 20) :
    s.takeDeckClose d =
      State.rederiveDecks { s with om := { s.om with
          closed := if d ∈ s.om.closed then s.om.closed else insertDeck d s.om.closed
          counters := { s.om.counters with deckCloses := s.om.counters.deckCloses + 1 } } }
        (if d ∈ s.om.closed then [] else [d]) := by
  rw [State.takeDeckClose, if_pos (deck_in_range h h')]
  simp only [List.contains_iff_mem]
  rfl

theorem State.takeDeckOpen_taken {s : State} {d : Nat} (h : 1 ≤ d) (h' : d ≤ 20) :
    s.takeDeckOpen d =
      State.rederiveDecks { s with om := { s.om with
          closed := s.om.closed.filter fun x => x != d
          counters := { s.om.counters with deckOpens := s.om.counters.deckOpens + 1 } } }
        (if d ∉ s.om.closed then [] else [d]) := by
  rw [State.takeDeckOpen, if_pos (deck_in_range h h'), ite_not]
  simp only [List.contains_iff_mem]
  rfl

theorem exec_deckClose {s : State} {rx : Rx} {p : List Byte} (h : s.delivers classDeckClose rx p) :
    exec (.deckClose rx p) s = .next ((s.takeTelegram rx).takeDeckClose (byteAt p 0)) :=
  congrArg Host.Outcome.next (State.receive_of_delivers h _)

theorem exec_deckOpen {s : State} {rx : Rx} {p : List Byte} (h : s.delivers classDeckOpen rx p) :
    exec (.deckOpen rx p) s = .next ((s.takeTelegram rx).takeDeckOpen (byteAt p 0)) :=
  congrArg Host.Outcome.next (State.receive_of_delivers h _)

end Sys2Proof.Machine

open Sys2Proof.Machine

/-- Settles O40: each command makes a record or a closed-deck set, and what follows for the outlet is the re-derivation of
it; the links give that every dropped commitment's record is in the list. -/
theorem outletCommandsTaken : Obligations.OutletCommandsTaken := by
  unfold Obligations.OutletCommandsTaken
  refine ⟨?_, fun level n => ⟨hearFault_adopts level, hearFault_changes level, fun h => hearFault_short h level⟩, ?_, ?_,
    ?_⟩
  · intro s k samples hrun hlinked
    refine ⟨fun f e asserted hfitted hheard he => ?_, fun f hfitted hheard => ?_, ?_⟩
    · have hlevel : e.level = asserted := by rcases he with rfl | rfl <;> rfl
      have hsettled := State.rederive_setOutlet (s := State.putFault k f s) hlinked.commitmentsHeld k
        { s.om.outlet k with actuatorFault := asserted } false
      rw [exec_actuatorFaultChange hrun hfitted, hheard, State.heard_event, hlevel]
      exact congrArg Host.Outcome.next hsettled
    · rw [exec_actuatorFaultChange hrun hfitted, hheard]
      rfl
    · rintro (hunfitted | hother)
      · exact exec_actuatorFaultChange_unfitted hunfitted samples
      · by_cases hfitted : (s.config.outlet k).fitted = true
        · rw [exec_actuatorFaultChange hrun hfitted, hother]
          rfl
        · exact exec_actuatorFaultChange_unfitted (Bool.eq_false_iff.mpr hfitted) samples
  · rintro s u rx p hdelivers hlinked rfl
    obtain ⟨hst, hdc, hconfig⟩ := s.takenAwake_frame rx
    have hheld : (s.takenAwake rx).commitmentsHeld := by
      unfold State.commitmentsHeld
      rw [hst, hdc]
      exact hlinked.commitmentsHeld
    rw [exec_outletRestore hdelivers]
    refine ⟨fun h => ?_, fun k hrx hnumber hfitted => ?_⟩
    · rw [State.takeRestore_refused (hconfig ▸ h)]
    · rw [← hnumber, State.takeRestore_taken hheld hrx (hconfig ▸ hfitted)]
  · rintro s u rx p d hdelivers hlinked rfl rfl
    rw [exec_deckClose hdelivers]
    refine ⟨fun h => by rw [State.takeDeckClose_refused h], ?_⟩
    intro b hlow hhigh hb
    obtain ⟨hsame, hchanged⟩ := State.rederiveDecks_changed (s := b) (d := byteAt p 0)
      (by rw [hb]; exact hlinked.commitmentsHeld) (byteAt p 0 ∈ (s.takeTelegram rx).om.closed)
    rw [State.takeDeckClose_taken hlow hhigh]
    subst hb
    refine ⟨fun x => ?_, fun h => congrArg Host.Outcome.next (hsame h),
      fun k hopen hk hnodup => congrArg Host.Outcome.next (hchanged k hopen hk hnodup)⟩
    dsimp only
    split
    · rename_i hmem
      exact ⟨.inr, fun h => h.elim (fun hx => hx ▸ hmem) id⟩
    · exact mem_insertDeck
  · rintro s u rx p d hdelivers hlinked rfl rfl
    rw [exec_deckOpen hdelivers]
    refine ⟨fun h => by rw [State.takeDeckOpen_refused h], ?_⟩
    intro b hlow hhigh hb
    obtain ⟨hsame, hchanged⟩ := State.rederiveDecks_changed (s := b) (d := byteAt p 0)
      (by rw [hb]; exact hlinked.commitmentsHeld) (byteAt p 0 ∉ (s.takeTelegram rx).om.closed)
    rw [State.takeDeckOpen_taken hlow hhigh]
    subst hb
    exact ⟨fun h => congrArg Host.Outcome.next (hsame h), fun k hclosed hk hnodup =>
      congrArg Host.Outcome.next (hchanged k (not_not.mpr hclosed) hk hnodup)⟩

end

section
/-! SUPPORT. The exit eyes (R107 to R112): which commitment an edge confirms, what every confirmed push does, and what
follows by kind in the Manifest Store and the Stray Unit (R73, R75, R153, R157). -/

open Sys2Proof

namespace Sys2Proof.Machine

/-! ## The strayed marks (R75) -/

/-- R75: an entry once the SU has asked for its strayed mark. -/
def TagEntry.stray (e : TagEntry) : TagEntry := { e with strayed := true }

/-- A changed entry entered in a table in rising order of tag takes the place of the one with its tag. -/
theorem putEntry_stray {l : List TagEntry} {tag : Nat} {e : TagEntry} (hsorted : (l.map TagEntry.tag).Pairwise (· < ·))
    (he : l.find? (fun x => x.tag == tag) = some e) :
    putEntry e.stray l = l.map fun x => if x.tag = tag then x.stray else x := by
  induction l with
  | nil => cases he
  | cons x xs ih =>
    obtain ⟨hx, hxs⟩ := List.pairwise_cons.mp (List.map_cons ▸ hsorted)
    have habove : ∀ y ∈ xs, x.tag < y.tag := fun y hy => hx _ (List.mem_map_of_mem hy)
    by_cases htag : x.tag = tag
    · rw [List.find?_cons_of_pos (by simp [htag])] at he
      cases he
      have hrest : (xs.map fun y => if y.tag = tag then y.stray else y) = xs := by
        refine (List.map_congr_left fun y hy => if_neg ?_).trans (List.map_id _)
        have := habove y hy
        omega
      rw [putEntry, if_neg (show ¬ e.stray.tag < e.tag from lt_irrefl _), if_pos (show e.stray.tag = e.tag from rfl),
        List.map_cons, if_pos htag, hrest]
    · rw [List.find?_cons_of_neg (by simp [htag])] at he
      have hmem := habove e (List.mem_of_find?_eq_some he)
      have hlow : ¬ e.stray.tag < x.tag := Nat.not_lt.mpr hmem.le
      have hne : e.stray.tag ≠ x.tag := hmem.ne'
      rw [putEntry, if_neg hlow, if_neg hne, ih hxs he, List.map_cons, if_neg htag]

theorem ManifestStore.markStrayed_table {m : ManifestStore} (hsorted : (m.table.map TagEntry.tag).Pairwise (· < ·))
    (hpurge : m.purgeRunning = false) (tag : Nat) :
    (m.markStrayed tag).table = m.table.map fun x => if x.tag = tag then x.stray else x := by
  have hlookup : m.lookup tag = m.entry tag := if_neg (by simp [hpurge])
  unfold ManifestStore.markStrayed
  rw [hlookup]
  cases he : m.entry tag with
  | some e => exact putEntry_stray hsorted he
  | none =>
    refine ((List.map_congr_left fun x hx => if_neg ?_).trans (List.map_id _)).symm
    simpa using List.find?_eq_none.mp he x hx

/-- R75: a strayed mark is no concern of anything else in the store. -/
theorem ManifestStore.markStrayed_frame (m : ManifestStore) (tag : Nat) :
    (m.markStrayed tag).cabins = m.cabins ∧ (m.markStrayed tag).map = m.map
      ∧ (m.markStrayed tag).counters = m.counters ∧ (m.markStrayed tag).purgeRunning = m.purgeRunning := by
  unfold ManifestStore.markStrayed
  split <;> exact ⟨rfl, rfl, rfl, rfl⟩

theorem ManifestStore.markAllStrayed_frame (tags : List Nat) (m : ManifestStore) :
    (m.markAllStrayed tags).cabins = m.cabins ∧ (m.markAllStrayed tags).map = m.map
      ∧ (m.markAllStrayed tags).counters = m.counters := by
  have hone : ∀ (m : ManifestStore) (t : Nat),
      ((m.markStrayed t).cabins, (m.markStrayed t).map, (m.markStrayed t).counters) = (m.cabins, m.map, m.counters) := by
    intro m t
    obtain ⟨hcabins, hmap, hcounters, -⟩ := m.markStrayed_frame t
    rw [hcabins, hmap, hcounters]
  have hall := foldl_keeps (g := fun m : ManifestStore => (m.cabins, m.map, m.counters)) hone tags m
  simp only [Prod.mk.injEq] at hall
  exact hall

/-- R75: every entry with one of the tags bears the mark, and no other entry changes. -/
theorem ManifestStore.markAllStrayed_table {tags : List Nat} {m : ManifestStore}
    (hsorted : (m.table.map TagEntry.tag).Pairwise (· < ·)) (hpurge : m.purgeRunning = false) :
    (m.markAllStrayed tags).table = m.table.map fun e => if e.tag ∈ tags then e.stray else e := by
  induction tags generalizing m with
  | nil => simp [ManifestStore.markAllStrayed]
  | cons t ts ih =>
    have htable := ManifestStore.markStrayed_table hsorted hpurge t
    have htags : (m.markStrayed t).table.map TagEntry.tag = m.table.map TagEntry.tag := by
      rw [htable, List.map_map]
      refine List.map_congr_left fun x _ => ?_
      simp only [Function.comp]
      split <;> rfl
    have hpurge' : (m.markStrayed t).purgeRunning = false := by
      obtain ⟨-, -, -, h⟩ := m.markStrayed_frame t
      rw [h, hpurge]
    refine (ih (by rw [htags]; exact hsorted) hpurge').trans ?_
    rw [htable, List.map_map]
    refine List.map_congr_left fun x _ => ?_
    simp only [Function.comp, List.mem_cons]
    by_cases hx : x.tag = t
    · simp [hx, TagEntry.stray]
    · simp [hx]

/-! ## IN-CHUTE entries (R152, R153, R157) -/

/-- R152: the SU's new entry stands at the newest end, numbered next. -/
theorem StrayUnit.create_spec (u : StrayUnit) (kind : LogKind) (tags : List Nat) (lap length : Option Nat)
    (claims : List ClaimFields) (window : ClaimWindow) :
    (u.create kind tags lap length claims window).ring.getLast? =
        some ⟨u.nextSequence, kind, tags, lap, length, claims, window, claimStateOf claims window⟩
      ∧ (u.create kind tags lap length claims window).nextSequence = u.nextSequence + 1
      ∧ ∃ n, (u.create kind tags lap length claims window).counters = { u.counters with logOverwrites := n } := by
  unfold StrayUnit.create
  dsimp only
  split
  · exact ⟨rfl, rfl, _, rfl⟩
  · split
    · exact ⟨List.getLast?_concat .., rfl, _, rfl⟩
    · exact ⟨List.getLast?_concat .., rfl, _, rfl⟩

/-- R156: a claim reads the store and the address alone. -/
theorem State.claimFor_congr {s t : State} (hms : t.ms = s.ms) (hconfig : t.config = s.config) :
    t.claimFor = s.claimFor := by
  funext tag
  simp only [State.claimFor, hms, hconfig]

/-- R153: a stray without tags. -/
theorem State.logStray_tagless (s : State) (reason : Option StrayReason) (lap : Nat) (length : Option Nat) :
    s.logStray [] reason lap length = { s with
      su := s.su.logTagless reason lap length
      nc := { s.nc with logMark := true } } := rfl

/-- R153, R157, R160: a stray with tags. -/
theorem State.logStray_tagged {s : State} {tags : List Nat} (htags : tags ≠ []) (reason : Option StrayReason) (lap : Nat)
    (length : Option Nat) :
    s.logStray tags reason lap length = { s with
      su := s.su.logTagged reason tags lap length (tags.filterMap s.claimFor) s.config.claimMs
      ms := s.ms.markAllStrayed tags
      nc := { s.nc with logMark := true }
      hlc := s.hlc.enqueue ⟨0, .strayCall s.su.nextSequence tags⟩ } :=
  if_neg (by simpa using htags)

/-- R152, R153: either kind of stray takes the next number, is counted, and sets the log's mark. -/
theorem State.logStray_counts (s : State) (tags : List Nat) (reason : Option StrayReason) (lap : Nat)
    (length : Option Nat) :
    (s.logStray tags reason lap length).su.nextSequence = s.su.nextSequence + 1
      ∧ (s.logStray tags reason lap length).su.counters.strayEntries = s.su.counters.strayEntries + 1
      ∧ (s.logStray tags reason lap length).nc.logMark = true := by
  by_cases htags : tags = []
  · subst htags
    obtain ⟨-, hnext, n, hcounters⟩ := s.su.create_spec (.inChute reason) [] (some lap) length [] .none
    rw [State.logStray_tagless]
    exact ⟨hnext, by simp only [StrayUnit.logTagless, StrayUnit.tally, hcounters], rfl⟩
  · obtain ⟨-, hnext, n, hcounters⟩ := s.su.create_spec (.inChute reason) tags (some lap) length
      (tags.filterMap s.claimFor) .running
    rw [State.logStray_tagged htags]
    exact ⟨hnext, by simp only [StrayUnit.logTagged, StrayUnit.tally, hcounters], rfl⟩

/-- R153, R157, R160: the entry of a stray with tags, its window, and what is counted of it. -/
theorem StrayUnit.logTagged_spec (u : StrayUnit) (reason : Option StrayReason) (tags : List Nat) (lap : Nat)
    (length : Option Nat) (claims : List ClaimFields) (periodMs : Nat) :
    (u.logTagged reason tags lap length claims periodMs).ring.getLast? =
        some ⟨u.nextSequence, .inChute reason, tags, some lap, length, claims, .running, claimStateOf claims .running⟩
      ∧ ⟨u.nextSequence, periodMs⟩ ∈ (u.logTagged reason tags lap length claims periodMs).timers
      ∧ (u.logTagged reason tags lap length claims periodMs).counters.ownClaims =
          u.counters.ownClaims + BitVec.ofNat 32 claims.length
      ∧ (u.logTagged reason tags lap length claims periodMs).counters.callsQueued = u.counters.callsQueued + 1 := by
  obtain ⟨hlast, -, n, hcounters⟩ := u.create_spec (.inChute reason) tags (some lap) length claims .running
  exact ⟨hlast, List.mem_append_right _ (List.mem_singleton_self _),
    by simp only [StrayUnit.logTagged, StrayUnit.tally, hcounters],
    by simp only [StrayUnit.logTagged, StrayUnit.tally, hcounters]⟩

/-! ## The commitment that an edge confirms (R107) -/

/-- No FIRED commitment for outlet k is one of record x. -/
theorem find_fired_eq_none {cs : List Commitment} {x : BagRecord} {k : OutletNo}
    (h : ∀ y ∈ cs, ¬ (y.record = x.number ∧ y.outlet = k ∧ y.phase = .fired)) :
    cs.find? (fun y => y.record == x.number && y.firedFor k) = none := by
  refine List.find?_eq_none.mpr fun y hy => ?_
  simpa [Commitment.firedFor] using h y hy

/-- R107: of the records with a FIRED commitment for outlet k the oldest is confirmed. -/
theorem State.confirmed_of_split {s : State} {k : OutletNo} {older younger : List BagRecord} {r : BagRecord}
    {c : Commitment} (hrecords : s.st.records = older ++ r :: younger)
    (holder : ∀ x ∈ older, ∀ y ∈ s.dc.commitments, ¬ (y.record = x.number ∧ y.outlet = k ∧ y.phase = .fired))
    (hc : s.dc.commitments.find? (fun y => y.record == r.number && (y.outlet == k && y.phase == .fired)) = some c) :
    s.confirmed k = some (r, c) := by
  have hnone : older.findSome? (fun x =>
      (s.dc.commitments.find? fun y => y.record == x.number && y.firedFor k).map fun y => (x, y)) = none :=
    List.findSome?_eq_none_iff.mpr fun x hx => by rw [find_fired_eq_none (holder x hx)]; rfl
  have hfound : s.dc.commitments.find? (fun y => y.record == r.number && y.firedFor k) = some c := hc
  rw [State.confirmed, hrecords, List.findSome?_append, hnone, List.findSome?_cons, hfound]
  rfl

theorem State.confirmed_eq_none {s : State} {k : OutletNo}
    (h : ∀ x ∈ s.st.records, ∀ y ∈ s.dc.commitments, ¬ (y.record = x.number ∧ y.outlet = k ∧ y.phase = .fired)) :
    s.confirmed k = none :=
  List.findSome?_eq_none_iff.mpr fun x hx => by rw [find_fired_eq_none (h x hx)]; rfl

/-! ## A confirmed push (R108) -/

/-- R108: the node once a confirmed record has left the list and the delivery has been counted. -/
def State.pushed (s : State) (r : BagRecord) : State :=
  (s.onDc fun d => (d.release r.number).tally fun x => { x with deliveries := x.deliveries + 1 }).onSt
    fun t => (t.remove r.number).tally fun x => { x with diverted := x.diverted + 1 }

theorem State.deliverPush_eq (s : State) (k : OutletNo) (r : BagRecord) :
    s.deliverPush k r = ((s.pushed r).endRecord r.number).reportConfirmation k := rfl

theorem State.pushed_record (s : State) (r : BagRecord) : (s.pushed r).st.record r.number = none :=
  SectionTracker.remove_record s.st r.number

/-- R108, R39: what every confirmed push does, block by block. -/
theorem State.deliverPush_spec (s : State) (k : OutletNo) (r : BagRecord) :
    (s.deliverPush k r).st = { s.trackerWithout r.number with
        counters := { (s.trackerWithout r.number).counters with diverted := s.st.counters.diverted + 1 } }
      ∧ (s.deliverPush k r).trp = { s.trp with windows := s.trp.windows.filter fun w => w.record != r.number }
      ∧ (s.deliverPush k r).dc = { s.dc with
          commitments := s.dc.commitments.filter fun x => x.record != r.number
          armPoints := s.dc.armPoints.filter fun p => p.record != r.number
          counters := { s.dc.counters with deliveries := s.dc.counters.deliveries + 1 } }
      ∧ (s.deliverPush k r).om = s.om.setOutlet k { s.om.outlet k with misses := 0 }
      ∧ (s.deliverPush k r).ms = s.ms ∧ (s.deliverPush k r).su = s.su ∧ (s.deliverPush k r).hlc = s.hlc := by
  obtain ⟨hms, hom, hsu, hhlc, -⟩ := (s.pushed r).endRecord_frame r.number
  simp only [State.deliverPush_eq, State.reportConfirmation, State.onOm, State.endRecord_st (s.pushed_record r),
    State.endRecord_trp, State.endRecord_dc, hms, hom, hsu, hhlc]
  refine ⟨rfl, rfl, ?_, rfl, rfl, rfl, rfl⟩
  simp [State.pushed, DivertController.forget, DivertController.release, DivertController.tally]

theorem exec_exitEyeBlockedEdge {s : State} {k : OutletNo} (hrun : s.running = true)
    (hfitted : (s.config.outlet k).fitted = true) (samples : List Bool) :
    exec (.exitEyeBlockedEdge k samples) s =
      .next (s.heard (hearEye samples (s.inputs.exits.get k)) (State.putExit k) fun _ t => t.exitBlocked k) :=
  congrArg Host.Outcome.next (if_pos (by rw [hrun, hfitted]; rfl))

theorem exec_exitEyeBlockedEdge_unfitted {s : State} {k : OutletNo} (h : (s.config.outlet k).fitted = false)
    (samples : List Bool) : exec (.exitEyeBlockedEdge k samples) s = .next s :=
  congrArg Host.Outcome.next (if_neg (by simp [h]))

theorem State.exitBlocked_confirmed {s : State} {k : OutletNo} {r : BagRecord} {c : Commitment}
    (h : s.confirmed k = some (r, c)) :
    s.exitBlocked k = ((s.deliverPush k r).followDelivery k r c.kind).standbyTest := by
  rw [State.exitBlocked, h]

theorem State.exitBlocked_unsolicited {s : State} {k : OutletNo} (h : s.confirmed k = none) :
    s.exitBlocked k = { s with dc := { s.dc with
      counters := { s.dc.counters with unsolicited := s.dc.counters.unsolicited + 1 } } } := by
  rw [State.exitBlocked, h]
  rfl

/-! ## What follows by kind (R108, R109, R112) -/

/-- R109, R153: the stray's count is the DC's, and its entry the SU's. -/
theorem State.followDelivery_stray (s : State) (k : OutletNo) (r : BagRecord) :
    s.followDelivery k r .stray =
      State.logStray { s with dc := { s.dc with
        counters := { s.dc.counters with strayDeliveries := s.dc.counters.strayDeliveries + 1 } } }
        r.tags r.reason r.lap r.length := rfl

theorem State.logStray_frame (s : State) (tags : List Nat) (reason : Option StrayReason) (lap : Nat)
    (length : Option Nat) :
    (s.logStray tags reason lap length).st = s.st ∧ (s.logStray tags reason lap length).trp = s.trp
      ∧ (s.logStray tags reason lap length).dc = s.dc ∧ (s.logStray tags reason lap length).om = s.om := by
  unfold State.logStray
  split <;> exact ⟨rfl, rfl, rfl, rfl⟩

/-- What follows a delivery is no concern of the ST, the TRP and the OM, and of the DC only one count. -/
theorem State.followDelivery_frame (s : State) (k : OutletNo) (r : BagRecord) (kind : CommitmentKind) :
    (s.followDelivery k r kind).st = s.st ∧ (s.followDelivery k r kind).trp = s.trp
      ∧ (s.followDelivery k r kind).om = s.om
      ∧ ∃ n, (s.followDelivery k r kind).dc = { s.dc with counters := { s.dc.counters with strayDeliveries := n } } := by
  cases kind with
  | deck tag cabin deck => exact ⟨rfl, rfl, rfl, _, rfl⟩
  | stray =>
    rw [State.followDelivery_stray]
    obtain ⟨hst, htrp, hdc, hom⟩ := State.logStray_frame { s with dc := { s.dc with
      counters := { s.dc.counters with strayDeliveries := s.dc.counters.strayDeliveries + 1 } } } r.tags r.reason r.lap
      r.length
    exact ⟨hst, htrp, hom, _, hdc⟩

/-- R107, R108: what a confirmed push does whatever its kind. -/
theorem State.delivered_spec (s : State) (k : OutletNo) (r : BagRecord) (kind : CommitmentKind) :
    ∃ n, ((s.deliverPush k r).followDelivery k r kind).st = { s.trackerWithout r.number with
        counters := { (s.trackerWithout r.number).counters with diverted := s.st.counters.diverted + 1 } }
      ∧ ((s.deliverPush k r).followDelivery k r kind).trp =
          { s.trp with windows := s.trp.windows.filter fun w => w.record != r.number }
      ∧ ((s.deliverPush k r).followDelivery k r kind).om = s.om.setOutlet k { s.om.outlet k with misses := 0 }
      ∧ ((s.deliverPush k r).followDelivery k r kind).dc = { s.dc with
          commitments := s.dc.commitments.filter fun x => x.record != r.number
          armPoints := s.dc.armPoints.filter fun p => p.record != r.number
          counters := { s.dc.counters with deliveries := s.dc.counters.deliveries + 1, strayDeliveries := n } } := by
  obtain ⟨hst, htrp, hdc, hom, -⟩ := s.deliverPush_spec k r
  obtain ⟨hst', htrp', hom', n, hdc'⟩ := (s.deliverPush k r).followDelivery_frame k r kind
  exact ⟨n, hst'.trans hst, htrp'.trans htrp, hom'.trans hom, by rw [hdc', hdc]⟩

/-- R108, R112: what follows a confirmed push of kind DECK. -/
theorem State.delivered_deck (s : State) (k : OutletNo) (r : BagRecord) (tag cabin deck : Nat) :
    ((s.deliverPush k r).followDelivery k r (.deck tag cabin deck)).ms = s.ms.markSelf tag k deck
      ∧ ((s.deliverPush k r).followDelivery k r (.deck tag cabin deck)).hlc =
          s.hlc.enqueue ⟨0, .delivered ⟨tag, cabin, deck, s.config.address, k.number⟩⟩
      ∧ ((s.deliverPush k r).followDelivery k r (.deck tag cabin deck)).su = s.su
      ∧ ((s.deliverPush k r).followDelivery k r (.deck tag cabin deck)).dc.counters.strayDeliveries =
          s.dc.counters.strayDeliveries := by
  obtain ⟨-, -, hdc, -, hms, hsu, hhlc⟩ := s.deliverPush_spec k r
  have hconfig := State.config_of_readFrame (s.deliverPush_readFrame k r)
  refine ⟨congrArg (ManifestStore.markSelf tag k deck) hms, ?_, hsu, ?_⟩
  · rw [← hhlc, ← hconfig]
    rfl
  · exact congrArg (fun d => d.counters.strayDeliveries) hdc

/-- R109: the node that is given a stray, and all that it still holds of the node before the push. -/
theorem State.delivered_stray (s : State) (k : OutletNo) (r : BagRecord) :
    ∃ u : State, (s.deliverPush k r).followDelivery k r .stray = u.logStray r.tags r.reason r.lap r.length
      ∧ u.dc.counters.strayDeliveries = s.dc.counters.strayDeliveries + 1 ∧ u.ms = s.ms ∧ u.su = s.su ∧ u.hlc = s.hlc
      ∧ u.config = s.config := by
  obtain ⟨-, -, hdc, -, hms, hsu, hhlc⟩ := s.deliverPush_spec k r
  have hconfig := State.config_of_readFrame (s.deliverPush_readFrame k r)
  refine ⟨_, State.followDelivery_stray .., ?_, hms, hsu, hhlc, hconfig⟩
  exact congrArg (fun d => d.counters.strayDeliveries + 1) hdc

end Sys2Proof.Machine

open Sys2Proof.Machine

/-- Settles O38: the edge confirms the pair of `r` and `c`; what every push does is `delivered_spec`, and each kind's own
part its lemma, with the strayed marks those of a table in order. -/
theorem exitEyeConfirms : Obligations.ExitEyeConfirms := by
  unfold Obligations.ExitEyeConfirms
  refine ⟨?_, ?_, ?_⟩
  · intro s k samples f older younger r c hrun hfitted hheard hrecords holder hc
    have hconfirmed : (State.putExit k f s).confirmed k = some (r, c) :=
      State.confirmed_of_split (s := State.putExit k f s) hrecords holder hc
    have hframe := (State.putExit k f s).exitBlocked_readFrame k
    have hconfig : ((State.putExit k f s).exitBlocked k).config = s.config :=
      State.config_of_readFrame (s := State.putExit k f s) hframe
    have hinputs : ((State.putExit k f s).exitBlocked k).inputs = { s.inputs with exits := s.inputs.exits.set k f } :=
      State.inputs_of_readFrame (s := State.putExit k f s) hframe
    obtain ⟨n, hst, htrp, hom, hdc⟩ := (State.putExit k f s).delivered_spec k r c.kind
    rw [exec_exitEyeBlockedEdge hrun hfitted, hheard, State.heard_event]
    refine ⟨_, rfl, ?_⟩
    rw [State.exitBlocked_confirmed hconfirmed] at hconfig hinputs ⊢
    simp only [State.standbyTest_st, State.standbyTest_windows, State.standbyTest_trp_counters, State.standbyTest_dc,
      OutletMonitor.outlet, State.standbyTest_outlets, State.standbyTest_view, State.standbyTest_closed,
      State.standbyTest_ms, State.standbyTest_hlc, State.standbyTest_su, State.standbyTest_logMark, hst, htrp, hom, hdc]
    refine ⟨rfl, rfl, rfl, rfl, rfl, rfl, rfl, PerOutlet.get_set_self .., fun j hj => PerOutlet.get_set_other _ _ hj, rfl,
      rfl, hconfig, hinputs, ?_, ?_⟩
    · intro tag cabin deck hkind
      obtain ⟨hms, hhlc, hsu, hstray⟩ := (State.putExit k f s).delivered_deck k r tag cabin deck
      rw [hkind] at hdc ⊢
      rw [hdc] at hstray
      exact ⟨hms, hhlc, hsu, hstray⟩
    · intro hkind
      obtain ⟨u, hu, hstray, hms, hsu, hhlc, hconfig'⟩ := (State.putExit k f s).delivered_stray k r
      obtain ⟨hnext, hentries, hmark⟩ := u.logStray_counts r.tags r.reason r.lap r.length
      obtain ⟨-, -, hdcu, -⟩ := u.logStray_frame r.tags r.reason r.lap r.length
      rw [hkind, hu] at hdc ⊢
      rw [← hdcu, hdc] at hstray
      rw [hsu] at hnext hentries
      refine ⟨hstray, hnext, hentries, hmark, fun htags => ?_, fun htags => ?_⟩
      · obtain ⟨hlast, -⟩ := u.su.create_spec (.inChute r.reason) [] (some r.lap) r.length [] .none
        rw [htags, State.logStray_tagless]
        rw [hsu] at hlast
        exact ⟨hsu ▸ hlast, hhlc, hms⟩
      · have hclaim : u.claimFor = s.claimFor := State.claimFor_congr hms hconfig'
        obtain ⟨hlast, htimer, hown, hcalls⟩ :=
          u.su.logTagged_spec r.reason r.tags r.lap r.length (r.tags.filterMap s.claimFor) s.config.claimMs
        obtain ⟨hcabins, hmap, hcounters⟩ := ManifestStore.markAllStrayed_frame r.tags s.ms
        rw [State.logStray_tagged htags, hclaim, hconfig', hms, hhlc]
        rw [hsu] at hlast htimer hown hcalls ⊢
        refine ⟨_, rfl, hlast, htimer, hown, hcalls, rfl, hcabins, hmap, hcounters, fun hcapacities hpurge => ?_⟩
        obtain ⟨-, -, -, hsorted, -⟩ := hcapacities
        exact ManifestStore.markAllStrayed_table hsorted hpurge
  · intro s k samples f hrun hfitted hheard h
    have hunsolicited := State.exitBlocked_unsolicited (State.confirmed_eq_none (s := State.putExit k f s) h)
    rw [exec_exitEyeBlockedEdge hrun hfitted, hheard, State.heard_event, hunsolicited]
    rfl
  · intro s k samples hrun
    refine ⟨fun f hfitted hheard => ?_, ?_⟩
    · rw [exec_exitEyeBlockedEdge hrun hfitted, hheard]
      rfl
    · rintro (hunfitted | hother)
      · exact exec_exitEyeBlockedEdge_unfitted hunfitted samples
      · by_cases hfitted : (s.config.outlet k).fitted = true
        · rw [exec_exitEyeBlockedEdge hrun hfitted, hother]
          rfl
        · exact exec_exitEyeBlockedEdge_unfitted (Bool.eq_false_iff.mpr hfitted) samples

end

section
/-! SUPPORT. Bag tracking (chapter 2): the part of a node that tells which bags it holds, the changes that this part can
undergo, and for every operation and command that it makes no others. -/

open Sys2Proof

namespace Sys2Proof.Machine

/-! ## Notices -/

/-- R38: a notice changes the records of its number, or, where there is none, the count of orphaned notices. -/
theorem SectionTracker.notice_eq (t : SectionTracker) (n : Count) (f : BagRecord → BagRecord) :
    ∃ k, t.notice n f = { t with
      records := t.records.map fun r => if r.number = n then f r else r
      counters := { t.counters with orphanedNotices := k } } := by
  cases h : t.record n with
  | some r => exact ⟨_, SectionTracker.notice_of_record h f⟩
  | none =>
    have hsame : t.records.map (fun r => if r.number = n then f r else r) = t.records := by
      conv_rhs => rw [← List.map_id t.records]
      exact List.map_congr_left fun r hr => if_neg (by simpa using List.find?_eq_none.mp h r hr)
    exact ⟨_, by rw [SectionTracker.notice_of_none h, hsame]; rfl⟩

/-- The notices of several commitments dropped, in turn. -/
theorem foldl_uncommit_eq (gone : List Commitment) (s : State) :
    ∃ k, gone.foldl (fun s c => s.onSt (SectionTracker.notice c.record BagRecord.uncommit)) s = { s with
      st := { s.st.uncommitted gone with counters := { s.st.counters with orphanedNotices := k } } } := by
  induction gone generalizing s with
  | nil => exact ⟨_, by rw [SectionTracker.uncommitted_nil]; rfl⟩
  | cons c rest ih =>
    obtain ⟨j, hj⟩ := s.st.notice_eq c.record BagRecord.uncommit
    obtain ⟨k, hk⟩ := ih (s.onSt (SectionTracker.notice c.record BagRecord.uncommit))
    refine ⟨k, ?_⟩
    rw [List.foldl_cons, hk]
    simp only [State.onSt, hj, SectionTracker.uncommitted, List.map_map]
    congr 2
    refine List.map_congr_left fun r _ => ?_
    by_cases hr : r.number = c.record
    · simp [BagRecord.uncommit, hr]
    · simp [hr, Ne.symm hr]

/-- R106: every ARMED commitment for an outlet dropped, whether or not its record is in the list. -/
theorem State.dropArmed_all (s : State) (k : OutletNo) :
    ∃ n, s.dropArmed k = { s with
      dc := s.dc.withoutArmed k
      st := { s.trackerWithoutArmed k with counters := { s.st.counters with orphanedNotices := n } } } := by
  have hst : s.st.uncommitted (s.dc.commitments.filter (Commitment.armedFor k)) = s.trackerWithoutArmed k := by
    simp only [SectionTracker.uncommitted, State.trackerWithoutArmed, List.any_filter, Commitment.armedFor,
      Bool.and_comm]
  obtain ⟨n, hn⟩ := foldl_uncommit_eq (s.dc.commitments.filter (Commitment.armedFor k))
    (s.onDc fun d => { d with commitments := d.commitments.filter fun c => !c.armedFor k }.tally
      fun c => { c with
        dropped := c.dropped + BitVec.ofNat 32 (s.dc.commitments.filter (Commitment.armedFor k)).length })
  refine ⟨n, hn.trans ?_⟩
  rw [← hst, DivertController.withoutArmed, List.countP_eq_length_filter]
  rfl

/-! ## The tracked part of a node -/

/-- R41: the records that have left the list, by all five ways. -/
def StCounters.endings (c : StCounters) : Counter := c.diverted + c.handedOff + c.lost + c.abandoned + c.withdrawn

/-- What tells which bags a node holds: the records with their accounting and the feed hold, what the other blocks keep for a
record (its scan window, its arm points, its commitment), and whether the blocks run. -/
structure Tracking where
  records     : List BagRecord
  feedHold    : Bool
  arrivals    : Counter
  endings     : Counter
  windows     : List Count
  armPoints   : List Count
  commitments : List Commitment
  running     : Bool
  powered     : Bool

def State.tracking (s : State) : Tracking :=
  { records := s.st.records, feedHold := s.st.feedHold, arrivals := s.st.counters.arrivals,
    endings := s.st.counters.endings, windows := s.trp.windows.map ScanWindow.record,
    armPoints := s.dc.armPoints.map ArmPoint.record, commitments := s.dc.commitments, running := s.running,
    powered := s.nc.powered }

/-- The local numbers in use. -/
def Tracking.numbers (v : Tracking) : List Count := v.records.map BagRecord.number

/-- R103: a commitment becomes FIRED. -/
def Commitment.firedAt (n : Count) (c : Commitment) : Commitment :=
  if c.record = n then { c with phase := .fired } else c

theorem Commitment.firedAt_record (n : Count) (c : Commitment) : (c.firedAt n).record = c.record := by
  unfold Commitment.firedAt; split <;> rfl

/-- One change of the tracked part. -/
inductive Tracking.Change (v : Tracking) : Tracking → Prop
  /-- R38: the records of a number change, but for the number and the commitment. -/
  | edit (n : Count) (f : BagRecord → BagRecord)
      (hf : ∀ r, (f r).number = r.number ∧ (f r).commitment = r.commitment) :
      v.Change { v with records := v.records.map fun r => if r.number = n then f r else r }
  /-- R54, R93: windows close and arm points are spent. -/
  | expire (ws as : List Count) (hw : ws.Sublist v.windows) (ha : as.Sublist v.armPoints) :
      v.Change { v with windows := ws, armPoints := as }
  /-- R19: an arrival. -/
  | arrive (r : BagRecord) (as : List Count) (hrun : v.running = true) (hroom : v.records.length < 24)
      (hfree : r.number ∉ v.numbers) (hnew : r.commitment = none) (has : ∀ a ∈ as, a = r.number) :
      v.Change { v with
        records := v.records ++ [r], feedHold := feedHoldAfterAdd (v.records.length + 1) v.feedHold
        arrivals := v.arrivals + 1, windows := v.windows ++ [r.number], armPoints := v.armPoints ++ as }
  /-- R18, R39: a record leaves the list and ends. -/
  | leave (n : Count) (hn : n ∈ v.numbers) :
      v.Change { v with
        records := v.records.filter fun r => r.number != n
        feedHold := feedHoldAfterRemoval (v.records.filter fun r => r.number != n).length v.feedHold
        endings := v.endings + 1, windows := v.windows.filter (· != n), armPoints := v.armPoints.filter (· != n)
        commitments := v.commitments.filter fun c => c.record != n }
  /-- R100: a record without a commitment is given one. -/
  | commit (c : Commitment) (h : ∃ r ∈ v.records, r.number = c.record ∧ r.commitment = none) :
      v.Change { v with
        records := v.records.map fun r => if r.number = c.record then c.onRecord r else r
        commitments := v.commitments ++ [c] }
  /-- R103: a commitment becomes FIRED. -/
  | fire (n : Count) :
      v.Change { v with
        records := v.records.map fun r => if r.number = n then r.fire else r
        commitments := v.commitments.map (Commitment.firedAt n) }
  /-- R104, R106, R110: commitments are dropped, and their records show none. -/
  | drop (p : Commitment → Bool) (f : BagRecord → BagRecord) (hnumber : ∀ r, (f r).number = r.number)
      (hcommitment : ∀ r, (f r).commitment =
        if v.commitments.any (fun c => c.record == r.number && p c) then none else r.commitment) :
      v.Change { v with records := v.records.map f, commitments := v.commitments.filter fun c => !p c }
  /-- R43, R115: a RESET abandons every record. -/
  | abandon (hrun : v.running = true) :
      v.Change { v with
        records := [], feedHold := false, endings := v.endings + BitVec.ofNat 32 v.records.length
        windows := v.windows.filter fun n => !v.numbers.contains n, armPoints := [], commitments := [] }
  /-- R188: the blocks start. -/
  | start (hrun : v.running = false) (hpower : v.powered = true) :
      v.Change { v with feedHold := false, running := true }
  /-- R188: main power comes. -/
  | powerOn (hpower : v.powered = false) : v.Change { v with running := false, powered := true }
  /-- R196: main power is lost. -/
  | powerLoss : v.Change State.reset.tracking

/-- The tracked part of `t` comes from that of `s` by changes alone. -/
def State.Tracks (s t : State) : Prop := Relation.ReflTransGen Tracking.Change s.tracking t.tracking

section
variable {s t u : State}

theorem State.Tracks.refl (s : State) : s.Tracks s := Relation.ReflTransGen.refl

theorem State.Tracks.trans (h : s.Tracks t) (h' : t.Tracks u) : s.Tracks u := Relation.ReflTransGen.trans h h'

theorem State.Tracks.of_eq (h : t.tracking = s.tracking) : s.Tracks t := by
  rw [State.Tracks, h]

theorem State.Tracks.of_change {v : Tracking} (h : s.tracking.Change v) (ht : t.tracking = v) : s.Tracks t :=
  .single (ht.symm ▸ h)

/-- What tracks after a state of the same tracked part tracks after this one. -/
theorem State.Tracks.after (h : u.Tracks t) (heq : u.tracking = s.tracking) : s.Tracks t :=
  (State.Tracks.of_eq heq).trans h

theorem State.Tracks.ite {p : Prop} [Decidable p] (h : p → s.Tracks t) : s.Tracks (if p then t else s) := by
  split
  · exact h ‹_›
  · exact .refl s

/-- What every change keeps, every run of changes does. -/
theorem State.Tracks.keeps {P : Tracking → Prop} (hP : ∀ v w, P v → v.Change w → P w) (h : s.Tracks t) :
    P s.tracking → P t.tracking := fun hs => by
  unfold State.Tracks at h
  generalize t.tracking = w at h ⊢
  induction h with
  | refl => exact hs
  | tail _ hchange ih => exact hP _ _ ih hchange

/-- A fold of operations that each track. -/
theorem State.Tracks.foldl {α : Type} {f : State → α → State} (h : ∀ (u : State) a, u.Tracks (f u a)) (l : List α) (s : State) :
    s.Tracks (l.foldl f s) := by
  induction l generalizing s with
  | nil => exact .refl s
  | cons a l ih => exact (h s a).trans (ih _)

end

/-! ## Operations that leave the tracked part alone -/

section
variable (s : State)

@[simp] theorem State.onInputs_tracking (f) : (s.onInputs f).tracking = s.tracking := rfl
@[simp] theorem State.onMs_tracking (f) : (s.onMs f).tracking = s.tracking := rfl
@[simp] theorem State.onOm_tracking (f) : (s.onOm f).tracking = s.tracking := rfl
@[simp] theorem State.onSu_tracking (f) : (s.onSu f).tracking = s.tracking := rfl
@[simp] theorem State.onHlc_tracking (f) : (s.onHlc f).tracking = s.tracking := rfl
@[simp] theorem State.putWatch_tracking (w) : (State.putWatch w s).tracking = s.tracking := rfl
@[simp] theorem State.send_tracking (d b) : (s.send d b).tracking = s.tracking := rfl
@[simp] theorem State.markLog_tracking : s.markLog.tracking = s.tracking := rfl
@[simp] theorem State.markMap_tracking : s.markMap.tracking = s.tracking := rfl
@[simp] theorem State.logReport_tracking (k ts l) : (s.logReport k ts l).tracking = s.tracking := rfl
@[simp] theorem State.startPass_tracking : s.startPass.tracking = s.tracking := rfl
@[simp] theorem State.queueHello_tracking : s.queueHello.tracking = s.tracking := rfl
@[simp] theorem State.takeTelegram_tracking (rx) : (s.takeTelegram rx).tracking = s.tracking := rfl
@[simp] theorem State.takeInFault_tracking (rx) : (s.takeInFault rx).tracking = s.tracking := rfl
@[simp] theorem State.ignoreCommand_tracking : s.ignoreCommand.tracking = s.tracking := rfl

@[simp] theorem State.clearLog_tracking : s.clearLog.tracking = s.tracking := by
  unfold State.clearLog; split <;> rfl

@[simp] theorem State.reportLost_tracking (r) : (s.reportLost r).tracking = s.tracking := by
  rw [State.reportLost_eq]; rfl

@[simp] theorem State.reportMisplaced_tracking (r) : (s.reportMisplaced r).tracking = s.tracking := by
  unfold State.reportMisplaced; split <;> rfl

@[simp] theorem State.queueOutletStates_tracking : s.queueOutletStates.tracking = s.tracking := by
  rw [State.queueOutletStates_eq]; rfl

@[simp] theorem State.summarise_tracking (k first) : (s.summarise k first).tracking = s.tracking := by
  rw [State.summarise_eq]; split <;> rfl

/-- A node in a running state that moves to another is as it was. -/
theorem State.onNc_tracking {f : NodeControl → NodeControl} (hstate : (f s.nc).state.running = s.nc.state.running)
    (hpower : (f s.nc).powered = s.nc.powered) : (s.onNc f).tracking = s.tracking := by
  simp only [State.tracking, State.onNc, State.running, hstate, hpower]

@[simp] theorem State.standbyTest_tracking : s.standbyTest.tracking = s.tracking := by
  unfold State.standbyTest
  split
  · rename_i h
    exact s.onNc_tracking (f := fun n => { n with state := .standby }.tally fun c => { c with standbys := c.standbys + 1 })
      (by rw [h.1]; rfl) rfl
  · rfl

@[simp] theorem State.wakeUp_tracking : s.wakeUp.tracking = s.tracking := by
  unfold State.wakeUp
  split
  · rename_i h
    simp only [State.queueOutletStates_tracking, State.startPass_tracking, State.queueHello_tracking]
    exact s.onNc_tracking (by rw [h]; rfl) rfl
  · rfl

@[simp] theorem State.wakeIfAddressed_tracking (rx) : (s.wakeIfAddressed rx).tracking = s.tracking := by
  unfold State.wakeIfAddressed; split <;> simp

@[simp] theorem State.discard_tracking (j) : (s.discard j).tracking = s.tracking := by
  cases j <;> rfl

@[simp] theorem State.logStray_tracking (ts r l n) : (s.logStray ts r l n).tracking = s.tracking := by
  unfold State.logStray; split <;> rfl

@[simp] theorem State.takeLost_tracking (r) : (s.takeLost r).tracking = s.tracking := by
  unfold State.takeLost; repeat' split
  all_goals rfl

@[simp] theorem State.takeMisplaced_tracking (n r) : (s.takeMisplaced n r).tracking = s.tracking := by
  unfold State.takeMisplaced; repeat' split
  all_goals rfl

@[simp] theorem State.takeCall_tracking (n q ts) : (s.takeCall n q ts).tracking = s.tracking := by
  unfold State.takeCall
  split
  · rfl
  · rw [foldl_keeps (g := State.tracking)]
    · rfl
    · intro u tag
      unfold State.answerCall
      split <;> rfl

@[simp] theorem State.takeClaim_tracking (rx q f) : (s.takeClaim rx q f).tracking = s.tracking := by
  unfold State.takeClaim; dsimp only; split <;> rfl

/-! ### The Hall Line Controller, Node Control and the queries -/

@[simp] theorem State.startAttempt_tracking : s.startAttempt.tracking = s.tracking := by
  unfold State.startAttempt; split <;> rfl

@[simp] theorem State.endAttempt_tracking (e) : (State.endAttempt e s).tracking = s.tracking := by
  unfold State.endAttempt; split <;> simp

@[simp] theorem State.takeFault_tracking : s.takeFault.tracking = s.tracking := rfl

@[simp] theorem State.takeIdleGap_tracking : s.takeIdleGap.tracking = s.tracking := by
  unfold State.takeIdleGap State.detach State.rejoin; dsimp only; repeat' split
  all_goals simp

@[simp] theorem State.takeDiscarded_tracking (cls rx p) : (s.takeDiscarded cls rx p).tracking = s.tracking := by
  unfold State.takeDiscarded; repeat' split
  all_goals simp

@[simp] theorem State.takeStandby_tracking : s.takeStandby.tracking = s.tracking := by
  unfold State.takeStandby
  split
  · rename_i h
    rw [State.standbyTest_tracking]
    exact s.onNc_tracking (by rw [h]; rfl) rfl
  · rfl

@[simp] theorem State.takeWake_tracking : s.takeWake.tracking = s.tracking := by
  unfold State.takeWake
  split
  · rename_i h
    exact s.onNc_tracking (by rw [h]; rfl) rfl
  · exact s.wakeUp_tracking
  · rfl

@[simp] theorem State.takeQuery_tracking (rx k b) : (s.takeQuery rx k b).tracking = s.tracking := by
  unfold State.takeQuery
  split
  · rfl
  · exact s.wakeUp_tracking

@[simp] theorem State.takeLogQuery_tracking (rx c p) : (s.takeLogQuery rx c p).tracking = s.tracking := by
  unfold State.takeLogQuery; dsimp only; split
  · exact (State.onNc_tracking _ rfl rfl).trans (s.takeQuery_tracking ..)
  · exact s.takeQuery_tracking ..

@[simp] theorem State.takeMapQuery_tracking (rx c) : (s.takeMapQuery rx c).tracking = s.tracking := by
  unfold State.takeMapQuery; dsimp only; split
  · exact (State.onNc_tracking _ rfl rfl).trans (s.takeQuery_tracking ..)
  · exact s.takeQuery_tracking ..

/-! ### The Manifest Store -/

@[simp] theorem State.commitStores_tracking (x) : (s.commitStores x).tracking = s.tracking := by
  unfold State.commitStores
  rw [foldl_keeps State.reportMisplaced_tracking]
  rfl

@[simp] theorem State.applyHeld_tracking (t) : (s.applyHeld t).tracking = s.tracking := by
  cases t with
  | manifest f => exact State.commitStores_tracking ..
  | withdraw tag => exact State.commitStores_tracking ..
  | deckMap f =>
    unfold State.applyHeld State.applyDeckMap; repeat' split
    all_goals simp

@[simp] theorem State.takeManifestTelegram_tracking (t) : (s.takeManifestTelegram t).tracking = s.tracking := by
  unfold State.takeManifestTelegram; split <;> simp

@[simp] theorem State.examineNext_tracking (n) : (s.examineNext n).tracking = s.tracking := by
  unfold State.examineNext; split <;> simp

@[simp] theorem State.completePurge_tracking : s.completePurge.tracking = s.tracking := by
  unfold State.completePurge
  rw [foldl_keeps State.applyHeld_tracking]
  rfl

@[simp] theorem State.startStages_tracking :
    s.checkRetention.finishPendingPurge.endStaleWindows.tracking = s.tracking := by
  unfold State.finishPendingPurge; split <;> rfl

end

/-! ## Notices, windows and commitments dropped -/

section
variable {s t : State}

theorem State.Tracks.standbyTest (h : s.Tracks t) : s.Tracks t.standbyTest :=
  h.trans (.of_eq t.standbyTest_tracking)

/-- R38: a notice that leaves the commitment as it is. -/
theorem State.Tracks.notice (n : Count) {f : BagRecord → BagRecord}
    (hf : ∀ r, (f r).number = r.number ∧ (f r).commitment = r.commitment) :
    s.Tracks (s.onSt (SectionTracker.notice n f)) := by
  obtain ⟨k, hk⟩ := s.st.notice_eq n f
  refine .of_change (.edit n f hf) ?_
  simp only [State.tracking, State.onSt, hk]
  rfl

theorem State.Tracks.modify (n : Count) {f : BagRecord → BagRecord}
    (hf : ∀ r, (f r).number = r.number ∧ (f r).commitment = r.commitment) :
    s.Tracks (s.onSt (SectionTracker.modify n f)) := .of_change (.edit n f hf) rfl

/-- Windows that close, and close points registered. -/
theorem State.Tracks.windows {f : TagReadPort → TagReadPort}
    (h : ((f s.trp).windows.map ScanWindow.record).Sublist (s.trp.windows.map ScanWindow.record)) :
    s.Tracks (s.onTrp f) :=
  .of_change (.expire _ _ h (.refl _)) rfl

theorem State.Tracks.closeWindow (s : State) (n : Count) (x : ReadState) : s.Tracks (s.closeWindow n x) :=
  (State.Tracks.windows (List.filter_sublist.map _)).trans (.notice n fun _ => ⟨rfl, rfl⟩)

theorem State.Tracks.closeWindowByTags (s : State) (n : Count) : s.Tracks (s.closeWindowByTags n) := .closeWindow ..

theorem State.Tracks.takeClosePoint (s : State) (n : Count) : s.Tracks (s.takeClosePoint n) := by
  unfold State.takeClosePoint
  split
  · exact .ite fun _ => .closeWindowByTags s n
  · exact .refl s

theorem State.Tracks.registerClosePoint (s : State) (n leading : Count) (l : Nat) :
    s.Tracks (s.registerClosePoint n leading l) := by
  have hsame : (s.trp.windows.map fun w => if w.record = n then
      { w with close := some (closePointOf s.config leading l) } else w).map ScanWindow.record =
        s.trp.windows.map ScanWindow.record := by
    rw [List.map_map]
    refine List.map_congr_left fun w _ => ?_
    simp only [Function.comp]
    split <;> rfl
  exact .trans (.windows (hsame ▸ .refl _)) (.takeClosePoint _ n)

/-- R104, R110: the DC lets a record's commitment go, and the ST notes it. -/
theorem State.Tracks.release {c : Commitment} {f : BagRecord → BagRecord} {g : DcCounters → DcCounters}
    (hc : s.dc.commitmentOf c.record = some c) (hf : ∀ r, (f r).number = r.number ∧ (f r).commitment = none) :
    s.Tracks ((s.onDc fun d => (d.release c.record).tally g).onSt (SectionTracker.notice c.record f)) := by
  have hmem : c ∈ s.dc.commitments := List.mem_of_find?_eq_some hc
  obtain ⟨k, hk⟩ := s.st.notice_eq c.record f
  refine .of_change (.drop (fun x => x.record == c.record) (fun r => if r.number = c.record then f r else r)
    (fun r => ?_) (fun r => ?_)) ?_
  · split
    · exact (hf r).1
    · rfl
  · split
    · rename_i hr
      exact (hf r).2.trans (if_pos (List.any_eq_true.mpr ⟨c, hmem, by simp [hr]⟩)).symm
    · rename_i hr
      refine (if_neg fun hany => ?_).symm
      obtain ⟨x, -, hx⟩ := List.any_eq_true.mp hany
      rw [Bool.and_eq_true, beq_iff_eq, beq_iff_eq] at hx
      exact hr (hx.1.symm.trans hx.2)
  · simp only [State.tracking, State.onSt, State.onDc, hk]
    rfl

/-- R106: the ARMED commitments of an outlet dropped. -/
theorem State.Tracks.dropArmed (s : State) (k : OutletNo) : s.Tracks (s.dropArmed k) := by
  obtain ⟨n, hn⟩ := s.dropArmed_all k
  refine .of_change (.drop (Commitment.armedFor k) (fun r =>
    if s.dc.commitments.any fun c => c.record == r.number && c.armedFor k then { r with commitment := none } else r)
    (fun r => ?_) (fun r => ?_)) ?_
  · split <;> rfl
  · split
    · rename_i h; exact (if_pos h).symm
    · rename_i h; exact (if_neg h).symm
  · rw [hn]; rfl

theorem State.Tracks.rederive (s : State) (k : OutletNo) (first : Bool) : s.Tracks (s.rederive k first) := by
  unfold State.rederive
  dsimp only
  refine .trans ?_ (.of_eq (State.summarise_tracking ..))
  split
  · exact .refl s
  · split
    · exact .trans (.of_eq (State.onOm_tracking ..)) (.dropArmed _ k)
    · exact .of_eq (State.onOm_tracking ..)

theorem State.Tracks.rederiveDecks (s : State) (ds : List Nat) : s.Tracks (s.rederiveDecks ds) := by
  refine .foldl (fun u k => ?_) _ s
  split
  · exact .ite fun _ => .rederive u k false
  · exact .refl u

theorem State.Tracks.clearClosedDecks (s : State) : s.Tracks s.clearClosedDecks :=
  .after (.rederiveDecks ..) (s.onOm_tracking _)

/-! ## The Outlet Monitor -/

theorem State.Tracks.takeConversions (s : State) (k : OutletNo) (codes : List (BitVec 10)) :
    s.Tracks (s.takeConversions k codes) := .after (.rederive ..) (s.onOm_tracking _)

theorem State.Tracks.followFault (s : State) (k : OutletNo) (asserted : Bool) : s.Tracks (s.followFault k asserted) :=
  .after (.rederive ..) (s.onOm_tracking _)

theorem State.Tracks.reportMiss (s : State) (k : OutletNo) : s.Tracks (s.reportMiss k) := by
  unfold State.reportMiss
  dsimp only
  split
  · exact .after (.rederive ..) (s.onOm_tracking _)
  · exact .of_eq (s.onOm_tracking _)

theorem State.Tracks.takeRestore (s : State) (rx : Rx) (n : Nat) : s.Tracks (s.takeRestore rx n) := by
  unfold State.takeRestore
  split
  · exact .of_eq (s.onOm_tracking _)
  · exact .after (.rederive ..) (s.onOm_tracking _)

theorem State.Tracks.takeDeckClose (s : State) (d : Nat) : s.Tracks (s.takeDeckClose d) := by
  unfold State.takeDeckClose
  split
  · exact .after (.rederiveDecks ..) (s.onOm_tracking _)
  · exact .of_eq (s.onOm_tracking _)

theorem State.Tracks.takeDeckOpen (s : State) (d : Nat) : s.Tracks (s.takeDeckOpen d) := by
  unfold State.takeDeckOpen
  split
  · exact .after (.rederiveDecks ..) (s.onOm_tracking _)
  · exact .of_eq (s.onOm_tracking _)

theorem State.Tracks.takePurge (s : State) : s.Tracks s.takePurge :=
  .trans (.trans (.of_eq (by simp)) (.clearClosedDecks _)) (.of_eq (State.markMap_tracking _))

/-! ## The reader port (R55 to R57) -/

/-- R56: a tag read changes tags, a reason or a count. -/
theorem State.Tracks.tagRead (s : State) (n : Count) (tag : Nat) : s.Tracks (s.onSt (SectionTracker.tagRead n tag)) := by
  unfold State.onSt SectionTracker.tagRead
  repeat' split
  · exact .of_eq rfl
  · exact .of_eq rfl
  · exact .modify n fun _ => ⟨rfl, rfl⟩
  · refine .of_change (.edit n (BagRecord.giveReason .tagSurplus) fun r => ?_) rfl
    unfold BagRecord.giveReason
    split <;> exact ⟨rfl, rfl⟩

theorem State.Tracks.bindRead (s : State) (tag : Nat) : s.Tracks (s.bindRead tag) := by
  unfold State.bindRead
  split
  · exact .of_eq rfl
  · exact .after (.tagRead ..) rfl

theorem State.Tracks.bindBreak (s : State) : s.Tracks s.bindBreak := by
  unfold State.bindBreak
  split
  · exact .after (.closeWindow ..) rfl
  · exact .of_eq rfl

/-- The port's own records are no part of what is tracked, but for the window list. -/
theorem State.onTrp_tracking (s : State) {f : TagReadPort → TagReadPort} (h : (f s.trp).windows = s.trp.windows) :
    (s.onTrp f).tracking = s.tracking := by
  simp only [State.tracking, State.onTrp, h]
  rfl

theorem TagReadPort.invalidate_windows (t : TagReadPort) : t.invalidate.windows = t.windows := by
  unfold TagReadPort.invalidate; split <;> rfl

theorem State.Tracks.judgeReport (s : State) (cs : List Byte) : s.Tracks (s.judgeReport cs) := by
  unfold State.judgeReport
  dsimp only
  split
  · exact .after (.bindRead ..) rfl
  · exact .of_eq (s.onTrp_tracking (TagReadPort.invalidate_windows _))

theorem State.Tracks.assemble (s : State) (ch : Byte) : s.Tracks (s.assemble ch) := by
  have hinvalid : s.Tracks (s.onTrp TagReadPort.invalidate) := .of_eq (s.onTrp_tracking s.trp.invalidate_windows)
  unfold State.assemble
  repeat' split
  · exact .of_eq rfl
  · exact .refl s
  · exact .of_eq (s.onTrp_tracking s.trp.invalidate_windows)
  · exact .of_eq rfl
  · exact hinvalid
  · exact .judgeReport s _
  · exact hinvalid

theorem State.Tracks.takeCharacter (e : LineEvent) (s : State) : s.Tracks (State.takeCharacter e s) := by
  cases e with
  | framingError | brokenLine => exact .refl s
  | character ch =>
    unfold State.takeCharacter State.receiveCharacter
    dsimp only
    split
    · exact .of_eq rfl
    · exact .after (.assemble _ ch) rfl

theorem State.Tracks.takeFramingError (s : State) : s.Tracks s.takeFramingError := by
  refine .of_eq (s.onTrp_tracking ?_)
  unfold TagReadPort.framingError
  dsimp only
  split <;> exact s.trp.invalidate_windows

theorem State.Tracks.takeBreak (s : State) : s.Tracks s.takeBreak := by
  unfold State.takeBreak
  split
  · exact .refl s
  · exact .after (.bindBreak _) (s.onTrp_tracking s.trp.invalidate_windows)

theorem State.Tracks.takeRate (e : RateEvent) (s : State) : s.Tracks (State.takeRate e s) := by
  cases e <;> exact .of_eq rfl

/-! ## The ending of a record (R39) -/

/-- R39: the TRP and the DC are told of the end of a record that has left the list. -/
theorem State.endRecord_tracking {n : Count} (h : s.st.record n = none) :
    (s.endRecord n).tracking = { s.tracking with
      windows := s.tracking.windows.filter (· != n)
      armPoints := s.tracking.armPoints.filter (· != n)
      commitments := s.tracking.commitments.filter fun c => c.record != n } := by
  obtain ⟨-, -, -, -, hnc, -⟩ := s.endRecord_frame n
  simp only [State.tracking, State.running, hnc, State.endRecord_st h, State.endRecord_trp, State.endRecord_dc,
    DivertController.forget, List.filter_map]
  rfl

/-- R18, R39: a record leaves the list by one of the five ways, and ends; what comes between tracks nothing. -/
theorem State.Tracks.leave {u : State} {n : Count} (hn : n ∈ s.tracking.numbers)
    (hu : u.tracking = { s.tracking with
      records := s.tracking.records.filter fun r => r.number != n
      feedHold := feedHoldAfterRemoval (s.tracking.records.filter fun r => r.number != n).length s.tracking.feedHold
      endings := s.tracking.endings + 1 }) : s.Tracks (u.endRecord n) := by
  have hrecords : u.st.records = s.st.records.filter fun r => r.number != n := congrArg Tracking.records hu
  have hnone : u.st.record n = none := by simp [SectionTracker.record, hrecords]
  refine .of_change (.leave n hn) ?_
  rw [State.endRecord_tracking hnone, hu]

end

/-! ## The Section Tracker (chapter 2) -/

theorem BagRecord.giveReason_eq (x : StrayReason) (r : BagRecord) :
    r.giveReason x = { r with reason := r.reason.or (some x) } := by
  unfold BagRecord.giveReason
  cases h : r.reason with
  | none => rfl
  | some y => rw [if_neg (by simp), Option.some_or, ← h]

/-- R29: binding, upstream, tags and read state. -/
theorem BagRecord.join_eq (e : Expectation) (r : BagRecord) :
    r.join e = { r with
      binding := .bound e.node e.bag
      tags := (mergeTags r.tags e.tags).1
      readState := mergedReadState r (mergeTags r.tags e.tags).1
      reason := r.reason.or (if (mergeTags r.tags e.tags).2 then some .tagSurplus else none) } := by
  unfold BagRecord.join
  dsimp only
  split
  · rw [BagRecord.giveReason_eq]
  · rw [Option.or_none]

/-- R30, R31: lap, flags and reason. -/
theorem BagRecord.inherit_eq (c : NodeConfig) (e : Expectation) (r : BagRecord) :
    r.inherit c e = { r with
      lap := boundLap c e.lap
      deferred := if c.lapOrigin then r.deferred else r.deferred || e.deferred
      missed := r.missed || e.missed
      reason := (r.reason.or e.reason).or
        (if c.lapOrigin && boundLap c e.lap == c.lapLimit then some .lapLimit else none) } := by
  unfold BagRecord.inherit
  dsimp only
  split
  · rw [BagRecord.giveReason_eq]
    cases r.reason <;> rfl
  · rw [Option.or_none]
    cases r.reason <;> rfl

/-- R29 to R31: what a binding gives a record. -/
theorem BagRecord.bind_eq (c : NodeConfig) (e : Expectation) (r : BagRecord) :
    r.bind c e = { r with
      binding := .bound e.node e.bag
      tags := (mergeTags r.tags e.tags).1
      readState := mergedReadState r (mergeTags r.tags e.tags).1
      lap := boundLap c e.lap
      deferred := if c.lapOrigin then r.deferred else r.deferred || e.deferred
      missed := r.missed || e.missed
      reason := ((r.reason.or (if (mergeTags r.tags e.tags).2 then some .tagSurplus else none)).or e.reason).or
        (if c.lapOrigin && boundLap c e.lap == c.lapLimit then some .lapLimit else none) } := by
  rw [BagRecord.bind, BagRecord.inherit_eq, BagRecord.join_eq]

theorem BagRecord.giveReason_keeps (x : StrayReason) (r : BagRecord) :
    (r.giveReason x).number = r.number ∧ (r.giveReason x).commitment = r.commitment := by
  rw [BagRecord.giveReason_eq]; exact ⟨rfl, rfl⟩

theorem BagRecord.spanned_keeps (r : BagRecord) :
    r.spanned.number = r.number ∧ r.spanned.commitment = r.commitment := by
  unfold BagRecord.spanned; split <;> exact ⟨rfl, rfl⟩

theorem BagRecord.bind_keeps (c : NodeConfig) (e : Expectation) (r : BagRecord) :
    (r.bind c e).number = r.number ∧ (r.bind c e).commitment = r.commitment := by
  rw [BagRecord.bind_eq]; exact ⟨rfl, rfl⟩

/-- R40: the five ways count as one ending each. -/
theorem StCounters.endings_succ (c : StCounters) :
    { c with withdrawn := c.withdrawn + 1 }.endings = c.endings + 1
      ∧ { c with diverted := c.diverted + 1 }.endings = c.endings + 1
      ∧ { c with handedOff := c.handedOff + 1 }.endings = c.endings + 1
      ∧ { c with lost := c.lost + 1 }.endings = c.endings + 1 := by
  simp only [StCounters.endings]
  refine ⟨?_, ?_, ?_, ?_⟩ <;> bv_omega

section
variable {s : State}

/-- R19, R54, R93: an arrival where there is room. -/
theorem State.Tracks.arrive (hrun : s.running = true) (hroom : s.st.records.length < 24) : s.Tracks s.arrive := by
  obtain ⟨-, -, hfree, -⟩ := SectionTracker.newNumber_spec hroom
  refine .of_change (.arrive (BagRecord.create s.st.newNumber s.st.encoderCount)
    ((armPointsFor s.config s.st.newNumber s.st.encoderCount).map ArmPoint.record) hrun hroom hfree rfl ?_) ?_
  · simp [armPointsFor, BagRecord.create]
  · simp only [State.tracking, State.arrive, State.onDc, State.onTrp, State.onSt, List.map_append]
    rfl

theorem State.Tracks.inductionBlocked (hrun : s.running = true) : s.Tracks s.inductionBlocked := by
  have hwake := s.wakeUp_tracking
  unfold State.inductionBlocked
  dsimp only
  split
  · rename_i hroom
    exact .after (.arrive ((congrArg Tracking.running hwake).trans hrun) hroom) hwake
  · exact .of_eq hwake

theorem State.Tracks.bindAtTrailing (s : State) (n : Count) (l : Nat) : s.Tracks (s.bindAtTrailing n l) := by
  unfold State.bindAtTrailing
  repeat' split
  · exact .refl s
  · exact .after (.modify n (BagRecord.bind_keeps _ _)) rfl
  · exact .refl s
  · exact .refl s
  · exact .after (.modify n (BagRecord.bind_keeps _ _)) (State.reportLost_tracking _ _)
  · exact .refl s

/-- R18, R21: a record leaves the list and is counted as an ending. -/
theorem State.remove_tracking (s : State) (n : Count) {g : StCounters → StCounters}
    (harrivals : (g s.st.counters).arrivals = s.st.counters.arrivals)
    (hendings : (g s.st.counters).endings = s.st.counters.endings + 1) :
    (s.onSt fun t => (t.remove n).tally g).tracking = { s.tracking with
      records := s.tracking.records.filter fun r => r.number != n
      feedHold := feedHoldAfterRemoval (s.tracking.records.filter fun r => r.number != n).length s.tracking.feedHold
      endings := s.tracking.endings + 1 } := by
  rw [← show (g s.st.counters).endings = s.tracking.endings + 1 from hendings, State.tracking]
  simp only [State.onSt, SectionTracker.tally, SectionTracker.remove, harrivals]
  rfl

theorem SectionTracker.number_mem {t : SectionTracker} {n : Count} {r : BagRecord} (h : t.record n = some r) :
    n ∈ t.records.map BagRecord.number :=
  List.mem_map.mpr ⟨r, SectionTracker.record_mem h, SectionTracker.record_number h⟩

theorem State.Tracks.withdraw {n : Count} (hn : n ∈ s.tracking.numbers) : s.Tracks (s.withdraw n) := by
  obtain ⟨hcount, -⟩ := s.st.counters.endings_succ
  exact .standbyTest (.leave hn
    (s.remove_tracking n (g := fun c => { c with withdrawn := c.withdrawn + 1 }) rfl hcount))

theorem State.Tracks.bindIfAwaiting (s : State) (n : Count) (l : Nat) : s.Tracks (s.bindIfAwaiting n l) := by
  unfold State.bindIfAwaiting
  split
  · exact .ite fun _ => .bindAtTrailing s n l
  · exact .refl s

theorem SectionTracker.record_modify {t : SectionTracker} {n : Count} {f : BagRecord → BagRecord}
    (hf : ∀ r, (f r).number = r.number) (m : Count) :
    (t.modify n f).record m = (t.record m).map fun r => if r.number = n then f r else r := by
  simp only [SectionTracker.record, SectionTracker.modify, List.find?_map]
  congr 1
  refine congrArg (fun p => List.find? p t.records) (funext fun r => ?_)
  simp only [Function.comp]
  split
  · rw [hf]
  · rfl

theorem SectionTracker.notice_numbers (t : SectionTracker) (n : Count) {f : BagRecord → BagRecord}
    (hf : ∀ r, (f r).number = r.number) :
    (t.notice n f).records.map BagRecord.number = t.records.map BagRecord.number := by
  obtain ⟨k, hk⟩ := t.notice_eq n f
  rw [hk, List.map_map]
  refine List.map_congr_left fun r _ => ?_
  simp only [Function.comp]
  split
  · exact hf r
  · rfl

/-- R54: neither a close point nor the closing of a window is seen on the numbers in use. -/
theorem State.registerClosePoint_numbers (s : State) (n leading : Count) (l : Nat) :
    (s.registerClosePoint n leading l).st.records.map BagRecord.number = s.st.records.map BagRecord.number := by
  unfold State.registerClosePoint State.takeClosePoint
  split
  · split
    · exact SectionTracker.notice_numbers _ n fun _ => rfl
    · rfl
  · rfl

theorem State.Tracks.trailingEdge {n : Count} {r : BagRecord} (hr : s.st.record n = some r) (leading : Count) :
    s.Tracks (s.trailingEdge n leading) := by
  unfold State.trailingEdge
  dsimp only
  have hmeasured := (State.Tracks.modify (s := s) n
    (f := fun r => { r with length := some (s.st.encoderCount - leading).toNat }) fun _ => ⟨rfl, rfl⟩).trans
      (.registerClosePoint _ n leading (s.st.encoderCount - leading).toNat)
  refine hmeasured.trans ?_
  split
  · refine .withdraw ?_
    rw [Tracking.numbers, State.tracking, State.registerClosePoint_numbers]
    exact SectionTracker.number_mem ((SectionTracker.record_modify
      (f := fun r => { r with length := some (s.st.encoderCount - leading).toNat }) (fun _ => rfl) n).trans
        (congrArg (Option.map _) hr))
  · split
    · exact .trans (.modify n (BagRecord.giveReason_keeps _)) (.bindIfAwaiting ..)
    · exact .bindIfAwaiting ..

theorem State.Tracks.inductionCleared (s : State) : s.Tracks s.inductionCleared := by
  unfold State.inductionCleared
  dsimp only
  repeat' split
  · exact .of_eq rfl
  · exact .of_eq rfl
  · exact .of_eq rfl
  · exact .after (.trailingEdge ‹_› _) rfl

theorem State.Tracks.handOff {r : BagRecord} (hr : r ∈ s.st.records) : s.Tracks (s.handOff r) := by
  obtain ⟨-, -, hcount, -⟩ := s.st.counters.endings_succ
  exact .standbyTest (.leave (u := s.handedOver r) (List.mem_map_of_mem hr)
    (s.remove_tracking r.number (g := fun c => { c with handedOff := c.handedOff + 1 }) rfl hcount))

theorem State.Tracks.handoffBlocked (s : State) : s.Tracks s.handoffBlocked := by
  unfold State.handoffBlocked
  repeat' split
  · exact .handOff (List.mem_of_find?_eq_some ‹_›)
  · exact .of_eq rfl
  · exact .of_eq rfl

theorem State.Tracks.takeSpanPoint (s : State) (n : Count) : s.Tracks (s.takeSpanPoint n) := by
  unfold State.takeSpanPoint
  split
  · exact .ite fun _ => .modify n BagRecord.spanned_keeps
  · exact .refl s

theorem State.Tracks.takeWindowEnd (s : State) (n : Count) : s.Tracks (s.takeWindowEnd n) := by
  unfold State.takeWindowEnd
  split
  · rename_i r hr
    obtain ⟨-, -, -, hcount⟩ := s.st.counters.endings_succ
    refine .ite fun _ => .standbyTest (.leave (SectionTracker.number_mem hr) ?_)
    rw [State.reportLost_tracking]
    exact s.remove_tracking n (g := fun c => { c with lost := c.lost + 1 }) rfl hcount
  · exact .refl s

theorem State.Tracks.takeExpiry (s : State) (node : Nat) (bag : Count) : s.Tracks (s.takeExpiry node bag) := by
  unfold State.takeExpiry
  split
  · exact .ite fun _ => .of_eq (by rw [State.standbyTest_tracking, State.reportLost_tracking]; rfl)
  · exact .refl s

theorem State.Tracks.takeHandoff (s : State) (c : NodeConfig) (rx : Rx) (h : ReceivedHandoff) :
    s.Tracks (s.onSt (SectionTracker.takeHandoff c rx h)) := by
  unfold State.onSt SectionTracker.takeHandoff
  repeat' split
  · exact .of_eq rfl
  · exact .modify _ (BagRecord.bind_keeps _ _)
  · unfold SectionTracker.expect
    split <;> exact .of_eq rfl

/-! ## The Divert Controller (chapter 5) -/

theorem DivertController.commitmentOf_record {d : DivertController} {n : Count} {c : Commitment}
    (h : d.commitmentOf n = some c) : c.record = n := by
  simpa using List.find?_some h

theorem State.Tracks.missPush {c : Commitment} (hc : s.dc.commitmentOf c.record = some c) : s.Tracks (s.missPush c) :=
  .standbyTest (.trans (.release hc (f := BagRecord.miss) fun _ => ⟨rfl, rfl⟩) (.reportMiss _ _))

theorem State.Tracks.takeDeadline (s : State) (n : Count) : s.Tracks (s.takeDeadline n) := by
  unfold State.takeDeadline
  split
  · rename_i c hc
    obtain rfl := DivertController.commitmentOf_record hc
    exact .ite fun _ => .missPush hc
  · exact .refl s

theorem State.Tracks.firePusher (s : State) (c : Commitment) : s.Tracks (s.firePusher c) := by
  obtain ⟨k, hk⟩ := s.st.notice_eq c.record BagRecord.fire
  refine .trans (.of_change (.fire c.record) ?_) (.takeDeadline _ _)
  simp only [State.tracking, State.onSt, State.onDc, hk]
  rfl

theorem State.Tracks.dropBusy {c : Commitment} (hc : s.dc.commitmentOf c.record = some c) : s.Tracks (s.dropBusy c) :=
  .standbyTest (.release hc (f := BagRecord.uncommit) fun _ => ⟨rfl, rfl⟩)

theorem State.Tracks.takeFirePoint (s : State) (n : Count) : s.Tracks (s.takeFirePoint n) := by
  unfold State.takeFirePoint
  split
  · rename_i c hc
    obtain rfl := DivertController.commitmentOf_record hc
    refine .ite fun _ => ?_
    split
    · exact .firePusher s c
    · exact .dropBusy hc
  · exact .refl s

/-- R100: the DC makes a commitment, and the ST notes it. -/
theorem State.Tracks.commitment {c : Commitment} {g : DcCounters → DcCounters}
    (h : ∃ r ∈ s.st.records, r.number = c.record ∧ r.commitment = none) :
    s.Tracks ((s.onDc fun d => { d with commitments := d.commitments ++ [c] }.tally g).onSt
      (SectionTracker.notice c.record c.onRecord)) := by
  obtain ⟨n, hn⟩ := s.st.notice_eq c.record c.onRecord
  refine .of_change (.commit c h) ?_
  simp only [State.tracking, State.onSt, State.onDc, hn]
  rfl

theorem State.Tracks.commit {r : BagRecord} (hr : r ∈ s.st.records) (hnone : r.commitment = none) (k : OutletNo)
    (kind : CommitmentKind) : s.Tracks (s.commit k r kind) := by
  have hrecord : (commitmentFor s k r kind).record = r.number := rfl
  unfold State.commit
  dsimp only
  generalize commitmentFor s k r kind = c at hrecord ⊢
  rw [← hrecord]
  exact .trans (.commitment ⟨r, hr, hrecord.symm, hnone⟩) (.takeFirePoint _ _)

theorem State.Tracks.evaluate {r : BagRecord} (hr : r ∈ s.st.records) (hnone : r.commitment = none) (k : OutletNo) :
    s.Tracks (s.evaluate k r) := by
  have hcounted : s.Tracks (s.onDc fun d => d.tally fun x => { x with evaluations := x.evaluations + 1 }) := .of_eq rfl
  unfold State.evaluate
  cases decideRoute s k r with
  | pass => exact .of_eq rfl
  | passNoLength => exact .of_eq rfl
  | markStray reason => exact .after (.notice r.number (BagRecord.giveReason_keeps reason)) rfl
  | deferBag => exact .after (.notice r.number fun _ => ⟨rfl, rfl⟩) rfl
  | commitStray => exact hcounted.trans (.commit (s := s.onDc _) hr hnone k _)
  | commitDeck tag cabin deck => exact hcounted.trans (.commit (s := s.onDc _) hr hnone k _)

theorem State.Tracks.takeArmPoint (s : State) (n : Count) (k : OutletNo) : s.Tracks (s.takeArmPoint n k) := by
  have hspent : s.Tracks (s.onDc (DivertController.spend n k)) :=
    .of_change (.expire _ _ (.refl _) (List.filter_sublist.map _)) rfl
  unfold State.takeArmPoint
  split
  · refine .ite fun _ => ?_
    dsimp only
    split
    · rename_i r hr
      split
      · exact hspent
      · rename_i hfree
        refine hspent.trans (.evaluate (s := s.onDc (DivertController.spend n k)) (SectionTracker.record_mem hr) ?_ k)
        simpa using (not_or.mp hfree).2
    · exact hspent
  · exact .refl s

theorem State.confirmed_mem {k : OutletNo} {r : BagRecord} {c : Commitment} (h : s.confirmed k = some (r, c)) :
    r ∈ s.st.records := by
  obtain ⟨x, hx, hsome⟩ := List.exists_of_findSome?_eq_some h
  obtain ⟨_, -, hpair⟩ := Option.map_eq_some_iff.mp hsome
  cases hpair
  exact hx

theorem State.followDelivery_tracking (s : State) (k : OutletNo) (r : BagRecord) (kind : CommitmentKind) :
    (s.followDelivery k r kind).tracking = s.tracking := by
  cases kind with
  | deck tag cabin deck => rfl
  | stray => exact State.logStray_tracking ..

theorem State.Tracks.deliverPush {r : BagRecord} (hr : r ∈ s.st.records) (k : OutletNo) :
    s.Tracks (s.deliverPush k r) := by
  obtain ⟨-, hcount, -⟩ := s.st.counters.endings_succ
  have hleft := State.remove_tracking (s.onDc fun d => (d.release r.number).tally fun x =>
    { x with deliveries := x.deliveries + 1 }) r.number (g := fun c => { c with diverted := c.diverted + 1 }) rfl hcount
  refine .of_change (.leave r.number (List.mem_map_of_mem hr)) ?_
  rw [State.deliverPush_eq, State.reportConfirmation, State.onOm_tracking,
    State.endRecord_tracking (s.pushed_record r), State.pushed, hleft]
  simp [State.tracking, State.onDc, DivertController.release, DivertController.tally, State.running]

theorem State.Tracks.exitBlocked (s : State) (k : OutletNo) : s.Tracks (s.exitBlocked k) := by
  unfold State.exitBlocked
  split
  · rename_i r c hc
    exact .standbyTest (.trans (.deliverPush (State.confirmed_mem hc) k) (.of_eq (State.followDelivery_tracking ..)))
  · exact .of_eq rfl

/-! ## The belt (chapter 1) -/

theorem State.Tracks.takePoint (s : State) (p : Point) : s.Tracks (s.takePoint p) := by
  cases p with
  | span n => exact .takeSpanPoint s n
  | windowEnd n => exact .takeWindowEnd s n
  | expiry node bag => exact .takeExpiry s node bag
  | close n => exact .takeClosePoint s n
  | arm n k => exact .takeArmPoint s n k
  | fire n => exact .takeFirePoint s n
  | deadline n => exact .takeDeadline s n

theorem State.Tracks.settlePoints (s : State) : s.Tracks s.settlePoints := .foldl .takePoint _ s

/-! ## RESET (R195) -/

theorem foldl_endRecord_tracking (l : List BagRecord) {u : State} (hu : u.st.records = []) :
    (l.foldl (fun s r => s.endRecord r.number) u).tracking = { u.tracking with
      windows := u.tracking.windows.filter fun n => !(l.map BagRecord.number).contains n
      armPoints := u.tracking.armPoints.filter fun n => !(l.map BagRecord.number).contains n
      commitments := u.tracking.commitments.filter fun c => !(l.map BagRecord.number).contains c.record } := by
  induction l generalizing u with
  | nil => simp
  | cons r l ih =>
    have hnone : u.st.record r.number = none := by simp [SectionTracker.record, hu]
    have hrecords : (u.endRecord r.number).st.records = [] := by rw [State.endRecord_st hnone]; exact hu
    rw [List.foldl_cons, ih hrecords, State.endRecord_tracking hnone]
    simp only [List.filter_filter, List.map_cons, List.contains_cons, Bool.not_or, bne, Bool.and_comm]

end

/-! ## RESET and power (R188, R195, R196) -/

section
variable {s : State}

/-- R43: every record of the list is an ending. -/
theorem State.abandonAll_tracking (s : State) :
    (s.onSt SectionTracker.abandonAll).tracking = { s.tracking with
      records := [], feedHold := false
      endings := s.tracking.endings + BitVec.ofNat 32 s.tracking.records.length } := by
  have hcount : s.st.abandonAll.counters.endings = s.st.counters.endings + BitVec.ofNat 32 s.st.records.length := by
    simp only [StCounters.endings, SectionTracker.abandonAll, SectionTracker.tally]
    bv_omega
  simp only [State.tracking, State.onSt, hcount]
  rfl

/-- R43, R61, R113, R115: the ST, the TRP and the DC let go of every record. -/
theorem State.resetBlocks_tracking (s : State) :
    s.resetBlocks.tracking = { s.tracking with
      records := [], feedHold := false
      endings := s.tracking.endings + BitVec.ofNat 32 s.tracking.records.length
      windows := s.tracking.windows.filter fun n => !s.tracking.numbers.contains n, armPoints := []
      commitments := [] } := by
  have hcleared : ((s.abandon).onDc DivertController.clearAll).tracking =
      { s.abandon.tracking with armPoints := [], commitments := [] } := rfl
  rw [State.resetBlocks, State.onHlc_tracking, State.onOm_tracking, hcleared, State.abandon,
    foldl_endRecord_tracking s.st.records rfl, State.abandonAll_tracking]
  rfl

/-- R195: the blocks act on a RESET, and the node, which runs, joins anew. -/
theorem State.Tracks.takeReset (hrun : s.running = true) : s.Tracks s.takeReset := by
  have hjoined : s.resetBlocks.rejoinHall.tracking = { s.resetBlocks.tracking with running := true } := by
    rw [State.rejoinHall, State.queueOutletStates_tracking]
    rfl
  have hend : s.takeReset.tracking = s.resetBlocks.rejoinHall.tracking := by
    unfold State.takeReset
    dsimp only
    split <;> rfl
  refine .of_change (.abandon hrun) ?_
  rw [hend, hjoined, State.resetBlocks_tracking, ← hrun]
  rfl

/-- R188: the end of START. -/
theorem State.Tracks.startComplete (straps : BitVec 6) (image : List Byte) (hpower : s.nc.powered = true)
    (hstart : s.nc.state = .start) :
    s.Tracks (match startFault straps image with
      | some code => s.enterConfigFault code
      | none => ((s.startBlocks (configOf straps image)).onNc NodeControl.markBoth).enterJoining) := by
  have hrun : s.running = false := by rw [State.running, hstart]; rfl
  split
  · exact .of_eq (s.onNc_tracking (by rw [hstart]; rfl) rfl)
  · have hwindows : (s.trp.start (configOf straps image)).windows = s.trp.windows := by
      unfold TagReadPort.start
      repeat' split
      all_goals rfl
    refine .of_change (.start hrun hpower) ?_
    simp only [State.tracking, ← hwindows]
    rfl

theorem State.Tracks.powerOn (hpower : s.nc.powered = false) :
    s.Tracks (s.onNc fun n => { n with powered := true, state := .start }).checkRetention.finishPendingPurge.endStaleWindows := by
  refine .of_change (.powerOn hpower) ?_
  rw [State.startStages_tracking]
  rfl

theorem State.Tracks.powerLoss (s : State) :
    s.Tracks { State.reset with pending := s.pending, ms := s.ms.retained, su := s.su.retained } :=
  .of_change .powerLoss rfl

end

/-! ## The commands -/

section
variable {s : State}

/-- The outcome of a command that tracks from `s`. -/
def outcomeTracks (s : State) (o : Host.Outcome State Fault Refusal) : Prop := ∃ t, o = .next t ∧ s.Tracks t

theorem tracks_ite {t : State} {p : Prop} [Decidable p] (h : p → s.Tracks t) :
    outcomeTracks s (.next (if p then t else s)) := ⟨_, rfl, .ite h⟩

/-- R182, R183: a telegram of a running node is given to its owner; at any other it is at most counted. -/
theorem State.Tracks.receive {owner : State → State} (h : ∀ u : State, u.running = true → u.Tracks (owner u)) (cls : Byte)
    (rx : Rx) (p : List Byte) : s.Tracks (s.receive cls rx p owner) := by
  by_cases hrun : s.running = true
  · unfold State.receive
    split
    · exact .refl s
    · exact .of_eq (s.takeInFault_tracking rx)
    · split
      · exact .after (h _ hrun) (s.takeTelegram_tracking rx)
      · exact .of_eq (by simp)
  · rw [State.receive_not_running (Bool.eq_false_iff.mpr hrun)]
    split
    · exact .refl s
    · exact .of_eq (s.takeInFault_tracking rx)

theorem tracks_receive {owner : State → State} {cls : Byte} {rx : Rx} {p : List Byte}
    (h : ∀ u : State, u.running = true → u.Tracks (owner u)) : outcomeTracks s (.next (s.receive cls rx p owner)) :=
  ⟨_, rfl, .receive h cls rx p⟩

/-- The samples of a running node's command, and the effect of their event. -/
theorem tracks_heard {σ ε : Type} {r : Option (σ × Option ε)} {store : σ → State → State}
    {act : ε → State → State} {p : Prop} [Decidable p] (hstore : ∀ f, (store f s).tracking = s.tracking)
    (hact : p → ∀ e (u : State), u.tracking = s.tracking → u.Tracks (act e u)) :
    outcomeTracks s (.next (if p then s.heard r store act else s)) := by
  refine tracks_ite fun hp => ?_
  rcases s.heard_cases r store act with ⟨-, he⟩ | ⟨f, -, he⟩ | ⟨f, e, -, he⟩ <;> rw [he]
  · exact .refl s
  · exact .of_eq (hstore f)
  · exact .after (hact hp e _ (hstore f)) (hstore f)

theorem exec_tracks (c : Instr) (s : State) : outcomeTracks s (exec c s) := by
  cases c with
  | powerOn =>
    refine ⟨_, rfl, ?_⟩
    split
    · exact .refl s
    · exact .powerOn (Bool.eq_false_iff.mpr ‹_›)
  | startComplete straps image => exact tracks_ite fun ⟨hpower, hstart⟩ => .startComplete straps image hpower hstart
  | powerLoss => exact tracks_ite fun _ => .powerLoss s
  | retentionLow =>
    refine ⟨_, rfl, ?_⟩
    split
    · exact .refl s
    · exact .of_eq (s.onMs_tracking _)
  | encoderPulse => exact tracks_ite fun _ => .after (.settlePoints _) rfl
  | speedWindowEnd =>
    refine tracks_ite fun _ => .of_eq ?_
    unfold State.onSt SectionTracker.endWindow SectionTracker.tally
    dsimp only
    split <;> rfl
  | inductionBlockedEdge samples =>
    exact tracks_heard (fun _ => rfl) fun hrun _ u hu => .inductionBlocked ((congrArg Tracking.running hu).trans hrun)
  | inductionClearedEdge samples => exact tracks_heard (fun _ => rfl) fun _ _ u _ => .inductionCleared u
  | handoffEyeBlockedEdge samples => exact tracks_heard (fun _ => rfl) fun _ _ u _ => .handoffBlocked u
  | exitEyeBlockedEdge k samples => exact tracks_heard (fun _ => rfl) fun _ _ u _ => .exitBlocked u k
  | actuatorFaultChange k samples => exact tracks_heard (fun _ => rfl) fun _ e u _ => .followFault u k e.level
  | framingError line => exact tracks_heard (fun _ => rfl) fun _ _ u _ => .takeFramingError u
  | readerBreak line => exact tracks_heard (fun _ => rfl) fun _ _ u _ => .takeBreak u
  | report line => exact tracks_heard (fun _ => rfl) fun _ e u _ => .takeCharacter e u
  | characterReceived line => exact tracks_heard (fun _ => rfl) fun _ e u _ => .takeCharacter e u
  | rateMeasurement line => exact tracks_heard (fun _ => rfl) fun _ e u _ => .takeRate e u
  | rateOverflow line => exact tracks_heard (fun _ => rfl) fun _ e u _ => .takeRate e u
  | spanPoint n => exact tracks_ite fun _ => .takeSpanPoint s n
  | windowEndPoint n => exact tracks_ite fun _ => .takeWindowEnd s n
  | expiryPoint node bag => exact tracks_ite fun _ => .takeExpiry s node bag
  | closePoint n => exact tracks_ite fun _ => .takeClosePoint s n
  | armPoint n k => exact tracks_ite fun _ => .takeArmPoint s n k
  | firePoint n => exact tracks_ite fun _ => .takeFirePoint s n
  | deadlinePoint n => exact tracks_ite fun _ => .takeDeadline s n
  | strokeTimerExpiry k => exact tracks_ite fun _ => .standbyTest (.of_eq rfl)
  | gaugeConversionEnd codes =>
    refine ⟨_, rfl, ?_⟩
    split
    · exact .ite fun _ => .takeConversions s _ codes
    · exact .refl s
  | gaugePassStart => exact tracks_ite fun _ => .of_eq s.startPass_tracking
  | refreshTimerExpiry => exact tracks_ite fun _ => .of_eq s.queueOutletStates_tracking
  | viewExpiry peer deck time => exact tracks_ite fun _ => .of_eq rfl
  | claimWindowEnd sequence => exact tracks_ite fun _ => .of_eq (by dsimp only; split <;> rfl)
  | joinTimerExpiry =>
    exact tracks_ite fun ⟨hjoining, _⟩ => .of_eq (s.onNc_tracking (by rw [hjoining]; rfl) rfl)
  | sweepExamination =>
    refine ⟨_, rfl, ?_⟩
    split
    · exact .ite fun _ => .of_eq (s.examineNext_tracking _)
    · exact .refl s
  | purgeComplete => exact tracks_ite fun _ => .of_eq s.completePurge_tracking
  | attemptStart line =>
    refine tracks_ite fun _ => .of_eq ?_
    split <;> simp
  | attemptEnd line => exact tracks_heard (fun _ => rfl) fun _ e u _ => .of_eq (u.endAttempt_tracking e)
  | receiveError line => exact tracks_heard (fun _ => rfl) fun _ _ u _ => .of_eq u.takeFault_tracking
  | detachment line => exact tracks_heard (fun _ => rfl) fun _ _ u _ => .of_eq u.takeIdleGap_tracking
  | rejoin line => exact tracks_heard (fun _ => rfl) fun _ _ u _ => .of_eq u.takeIdleGap_tracking
  | idleGap line => exact tracks_heard (fun _ => rfl) fun _ _ u _ => .of_eq u.takeIdleGap_tracking
  | telegramDiscarded cls rx p => exact ⟨_, rfl, .of_eq (s.takeDiscarded_tracking cls rx p)⟩
  | handoff rx p => exact tracks_receive fun u _ => .after (.takeHandoff ..) (u.wakeIfAddressed_tracking rx)
  | manifest rx p => exact tracks_receive fun u _ => .of_eq (u.takeManifestTelegram_tracking _)
  | manifestWithdraw rx p => exact tracks_receive fun u _ => .of_eq (u.takeManifestTelegram_tracking _)
  | deckMap rx p => exact tracks_receive fun u _ => .of_eq (u.takeManifestTelegram_tracking _)
  | delivered rx p => exact tracks_receive fun _ _ => .of_eq rfl
  | purge rx p => exact tracks_receive fun u _ => .takePurge u
  | outletState rx p => exact tracks_receive fun _ _ => .of_eq rfl
  | deckClose rx p => exact tracks_receive fun u _ => .takeDeckClose u _
  | deckOpen rx p => exact tracks_receive fun u _ => .takeDeckOpen u _
  | outletRestore rx p => exact tracks_receive fun u _ => .after (.takeRestore ..) (u.wakeIfAddressed_tracking rx)
  | strayCall rx p => exact tracks_receive fun u _ => .of_eq (u.takeCall_tracking ..)
  | claim rx p => exact tracks_receive fun u _ => .of_eq (by simp)
  | lost rx p => exact tracks_receive fun u _ => .of_eq (u.takeLost_tracking _)
  | misplaced rx p => exact tracks_receive fun u _ => .of_eq (u.takeMisplaced_tracking ..)
  | reset rx p => exact tracks_receive fun u hrun => .takeReset hrun
  | standby rx p => exact tracks_receive fun u _ => .of_eq u.takeStandby_tracking
  | wake rx p => exact tracks_receive fun u _ => .of_eq u.takeWake_tracking
  | hello rx p => exact tracks_receive fun _ _ => .of_eq rfl
  | identity rx a => exact tracks_receive fun u _ => .of_eq (u.takeQuery_tracking ..)
  | outlet rx a => exact tracks_receive fun u _ => .of_eq (u.takeQuery_tracking ..)
  | tag rx a => exact tracks_receive fun u _ => .of_eq (u.takeQuery_tracking ..)
  | cabin rx a => exact tracks_receive fun u _ => .of_eq (u.takeQuery_tracking ..)
  | counters rx a => exact tracks_receive fun u _ => .of_eq (u.takeQuery_tracking ..)
  | strayLog rx a => exact tracks_receive fun u _ => .of_eq (u.takeLogQuery_tracking ..)
  | map rx a => exact tracks_receive fun u _ => .of_eq (u.takeMapQuery_tracking ..)
  | queryKindUnknown rx kind a =>
    refine ⟨_, rfl, ?_⟩
    unfold State.takeUnknownKind
    split
    · exact .refl s
    · exact .receive (fun u _ => .of_eq (u.takeQuery_tracking ..)) ..

/-- What every change keeps of the tracked part, every step does. -/
theorem step_keeps_tracking {P : Tracking → Prop} (hP : ∀ v w, P v → v.Change w → P w) {s t : State}
    (hstep : step s = .next t) (hs : P s.tracking) : P t.tracking :=
  step_of_exec (P := fun s t => P s.tracking → P t.tracking) (fun _ => id)
    (fun c cs s => by
      obtain ⟨t, ht, htracks⟩ := exec_tracks c { s with pending := cs }
      exact ⟨t, ht, htracks.keeps hP⟩) hstep hs

end


end Sys2Proof.Machine
end

section
/-! SUPPORT. The invariants of bag tracking, each stated of the tracked part and kept by every change of it: the list's
bounds and the bag accounting (R18, R41), the feed hold (R21), and the links between the blocks (R54, R91, R93). -/

open Sys2Proof

namespace Sys2Proof.Machine

/-! ## The invariants of the tracked part -/

/-- R18: at most 24 records, no two with one number. -/
def Tracking.listOk (v : Tracking) : Prop := v.records.length ≤ Config.maxRecords ∧ v.numbers.Nodup

/-- R41: every arrival is an ending or a record held. -/
def Tracking.balanced (v : Tracking) : Prop := v.arrivals = v.endings + BitVec.ofNat 32 v.records.length

/-- R21, R44: the feed hold agrees with the number of records. -/
def Tracking.feedHoldOk (v : Tracking) : Prop :=
  if v.running then
    (22 ≤ v.records.length → v.feedHold = true) ∧ (v.records.length ≤ 18 → v.feedHold = false)
  else v.records = [] ∧ v.feedHold = true

/-- R91: the commitment held for a record. -/
def Tracking.commitmentOf (v : Tracking) (n : Count) : Option Commitment := v.commitments.find? fun c => c.record == n

/-- R54, R91, R93: windows, arm points and commitments are those of records held, and each record shows its commitment. -/
def Tracking.linked (v : Tracking) : Prop :=
  v.windows.Nodup ∧ (v.commitments.map Commitment.record).Nodup ∧ (∀ n ∈ v.windows, n ∈ v.numbers)
    ∧ (∀ n ∈ v.armPoints, n ∈ v.numbers) ∧ (∀ c ∈ v.commitments, c.record ∈ v.numbers)
    ∧ ∀ r ∈ v.records, r.commitment = (v.commitmentOf r.number).map Commitment.shown

theorem State.linked_iff (s : State) : s.linked ↔ s.tracking.linked := by
  simp [State.linked, Tracking.linked, State.tracking, Tracking.numbers, Tracking.commitmentOf,
    DivertController.commitmentOf]

/-- R44: the tracked part of the node before its first power-on. -/
theorem State.reset_tracking : State.reset.tracking =
    { records := [], feedHold := true, arrivals := 0, endings := 0, windows := [], armPoints := [], commitments := [],
      running := false, powered := false } := rfl

section
variable {v w : Tracking}

/-- A change of records that keeps the number of each keeps the numbers in use. -/
theorem numbers_map {rs : List BagRecord} {g : BagRecord → BagRecord} (hg : ∀ r, (g r).number = r.number) :
    (rs.map g).map BagRecord.number = rs.map BagRecord.number := by
  rw [List.map_map]
  exact List.map_congr_left fun r _ => hg r

theorem number_ite {n : Count} {f : BagRecord → BagRecord} (hf : ∀ r, (f r).number = r.number) (r : BagRecord) :
    (if r.number = n then f r else r).number = r.number := by
  split
  · exact hf r
  · rfl

theorem numbers_filter (rs : List BagRecord) (n : Count) :
    (rs.filter fun r => r.number != n).map BagRecord.number = (rs.map BagRecord.number).filter (· != n) := by
  rw [List.filter_map]
  rfl

/-- All that a change does to the numbers in use. -/
theorem Tracking.Change.numbers_cases (h : v.Change w) :
    w.numbers = v.numbers ∨ (∃ n, w.numbers = v.numbers ++ [n] ∧ n ∉ v.numbers ∧ v.numbers.length < 24)
      ∨ (∃ n ∈ v.numbers, w.numbers = v.numbers.filter (· != n)) ∨ w.numbers = [] := by
  cases h with
  | edit n f hf => exact .inl (numbers_map (number_ite fun r => (hf r).1))
  | expire | start | powerOn => exact .inl rfl
  | arrive r as hrun hroom hfree =>
    exact .inr (.inl ⟨r.number, List.map_append, hfree, by rw [Tracking.numbers, List.length_map]; exact hroom⟩)
  | leave n hn => exact .inr (.inr (.inl ⟨n, hn, numbers_filter _ n⟩))
  | commit c hc => exact .inl (numbers_map (number_ite fun _ => rfl))
  | fire n => exact .inl (numbers_map (number_ite fun _ => rfl))
  | drop p f hnumber => exact .inl (numbers_map hnumber)
  | abandon | powerLoss => exact .inr (.inr (.inr rfl))

theorem Tracking.length_numbers (v : Tracking) : v.numbers.length = v.records.length := List.length_map ..

/-- R17, R18: a new number is a free one, and comes where there is room. -/
theorem Tracking.listOk_change (hv : v.listOk) (h : v.Change w) : w.listOk := by
  unfold Tracking.listOk at hv ⊢
  rw [← Tracking.length_numbers] at hv ⊢
  obtain ⟨hlength, hnodup⟩ := hv
  rcases h.numbers_cases with hw | ⟨n, hw, hfree, hroom⟩ | ⟨n, -, hw⟩ | hw <;> rw [hw]
  · exact ⟨hlength, hnodup⟩
  · rw [List.length_append]
    exact ⟨hroom, hnodup.append (List.nodup_singleton n) (List.disjoint_singleton.mpr hfree)⟩
  · exact ⟨(List.length_filter_le ..).trans hlength, hnodup.filter _⟩
  · exact ⟨Nat.zero_le _, List.nodup_nil⟩

/-- A record that leaves a list with one record to a number leaves one record fewer. -/
theorem length_filter_number {rs : List BagRecord} {n : Count} (hnodup : (rs.map BagRecord.number).Nodup)
    (hn : n ∈ rs.map BagRecord.number) : (rs.filter fun r => r.number != n).length + 1 = rs.length := by
  have hpos := List.length_pos_of_mem hn
  rw [← List.length_map (f := BagRecord.number), numbers_filter, ← hnodup.erase_eq_filter, List.length_erase_of_mem hn]
  rw [List.length_map] at hpos ⊢
  omega

/-- R41: an arrival comes with a record, and an ending takes one. -/
theorem Tracking.balanced_change (hv : v.listOk ∧ v.balanced) (h : v.Change w) : w.listOk ∧ w.balanced := by
  obtain ⟨hlist, hbalance⟩ := hv
  refine ⟨Tracking.listOk_change hlist h, ?_⟩
  obtain ⟨hlength, hnodup⟩ := hlist
  unfold Tracking.balanced at hbalance ⊢
  cases h with
  | edit | commit | fire | drop => simpa using hbalance
  | expire | start | powerOn => exact hbalance
  | arrive r as => simp [hbalance]; bv_omega
  | leave n hn =>
    have := length_filter_number hnodup hn
    simp only 
    rw [hbalance, ← this]
    bv_omega
  | abandon => simp [hbalance]
  | powerLoss => rfl

theorem feedHoldAfterAdd_full {n : Nat} (h : 22 ≤ n) (held : Bool) : feedHoldAfterAdd n held = true := if_pos h
theorem feedHoldAfterAdd_room {n : Nat} (h : n < 22) (held : Bool) : feedHoldAfterAdd n held = held :=
  if_neg (Nat.not_le.mpr h)
theorem feedHoldAfterRemoval_few {n : Nat} (h : n ≤ 18) (held : Bool) : feedHoldAfterRemoval n held = false := if_pos h
theorem feedHoldAfterRemoval_many {n : Nat} (h : 18 < n) (held : Bool) : feedHoldAfterRemoval n held = held :=
  if_neg (Nat.not_le.mpr h)

/-- R21: the hold is re-evaluated wherever a record comes or goes. -/
theorem Tracking.feedHoldOk_change (hv : v.feedHoldOk ∧ (v.powered = false → v.running = false)) (h : v.Change w) :
    w.feedHoldOk ∧ (w.powered = false → w.running = false) := by
  obtain ⟨hhold, hpower⟩ := hv
  unfold Tracking.feedHoldOk at hhold ⊢
  cases h with
  | edit | commit | fire | drop => exact ⟨by simpa using hhold, hpower⟩
  | expire => exact ⟨hhold, hpower⟩
  | arrive r as hrun hroom =>
    refine ⟨?_, hpower⟩
    rw [if_pos hrun] at hhold ⊢
    obtain ⟨hfull, hfew⟩ := hhold
    rw [List.length_append, List.length_singleton]
    refine ⟨fun h => feedHoldAfterAdd_full h _, fun h => ?_⟩
    rw [feedHoldAfterAdd_room (by omega)]
    exact hfew (by omega)
  | leave n hn =>
    refine ⟨?_, hpower⟩
    have hle : (v.records.filter fun r => r.number != n).length ≤ v.records.length := List.length_filter_le ..
    have hrun : v.running = true := by
      by_contra hstill
      rw [if_neg hstill] at hhold
      exact absurd hn (by simp [Tracking.numbers, hhold.1])
    rw [if_pos hrun] at hhold ⊢
    obtain ⟨hfull, -⟩ := hhold
    dsimp only
    refine ⟨fun h => ?_, fun h => feedHoldAfterRemoval_few h _⟩
    rw [feedHoldAfterRemoval_many (by omega)]
    exact hfull (by omega)
  | abandon hrun =>
    refine ⟨?_, hpower⟩
    rw [if_pos hrun]
    exact ⟨fun h => absurd h (Nat.not_succ_le_zero _), fun _ => rfl⟩
  | start hrun hpow =>
    rw [if_neg (by rw [hrun]; decide)] at hhold
    obtain ⟨hempty, -⟩ := hhold
    refine ⟨?_, fun h => absurd (hpow.symm.trans h) (by decide)⟩
    rw [if_pos rfl, hempty]
    exact ⟨fun h => absurd h (by decide), fun _ => rfl⟩
  | powerOn hpow =>
    rw [if_neg (by rw [hpower hpow]; decide)] at hhold
    exact ⟨hhold, fun _ => rfl⟩
  | powerLoss => exact ⟨⟨rfl, rfl⟩, fun _ => rfl⟩

/-! ### The links between the blocks -/

/-- The commitment found for a record once some have been dropped. -/
theorem find_filter_of_nodup {cs : List Commitment} (hnodup : (cs.map Commitment.record).Nodup)
    (p : Commitment → Bool) (n : Count) :
    (cs.filter fun c => !p c).find? (fun c => c.record == n) =
      if cs.any fun c => c.record == n && p c then none else cs.find? fun c => c.record == n := by
  induction cs with
  | nil => rfl
  | cons c cs ih =>
    rw [List.map_cons, List.nodup_cons] at hnodup
    obtain ⟨hnot, hrest⟩ := hnodup
    have ih := ih hrest
    by_cases hc : c.record = n
    · have hother : ∀ x ∈ cs, (x.record == n) = false := fun x hx => by
        rw [beq_eq_false_iff_ne]
        exact fun hxn => hnot (List.mem_map.mpr ⟨x, hx, hxn.trans hc.symm⟩)
      have hnone : cs.find? (fun x => x.record == n) = none := List.find?_eq_none.mpr (by simpa using hother)
      have hany : cs.any (fun x => x.record == n && p x) = false := by
        rw [List.any_eq_false]
        exact fun x hx => by simp [hother x hx]
      cases hp : p c <;> simp_all
    · cases hp : p c <;> simp_all

/-- Records that keep their numbers, and the commitments that they then show. -/
theorem Tracking.linked_map {g : BagRecord → BagRecord} {cs : List Commitment} (hv : v.linked)
    (hg : ∀ r, (g r).number = r.number) (hcs : (cs.map Commitment.record).Nodup)
    (hheld : ∀ c ∈ cs, c.record ∈ v.numbers)
    (hshown : ∀ r ∈ v.records, (g r).commitment = (cs.find? fun c => c.record == r.number).map Commitment.shown) :
    Tracking.linked { v with records := v.records.map g, commitments := cs } := by
  obtain ⟨hwindows, -, hheldWindows, hheldArms, -⟩ := hv
  have hnumbers : ({ v with records := v.records.map g, commitments := cs } : Tracking).numbers = v.numbers :=
    numbers_map hg
  refine ⟨hwindows, hcs, hnumbers ▸ hheldWindows, hnumbers ▸ hheldArms, hnumbers ▸ hheld, fun x hx => ?_⟩
  obtain ⟨r, hr, rfl⟩ := List.mem_map.mp hx
  rw [hg]
  exact hshown r hr

theorem Tracking.linked_arrive {r : BagRecord} {as : List Count} (hv : v.linked) (hfree : r.number ∉ v.numbers)
    (hnew : r.commitment = none) (has : ∀ a ∈ as, a = r.number) (hold : Bool) (arrivals : Counter) :
    Tracking.linked { v with
      records := v.records ++ [r], feedHold := hold, arrivals := arrivals, windows := v.windows ++ [r.number]
      armPoints := v.armPoints ++ as } := by
  obtain ⟨hwindows, hcommitments, hheldWindows, hheldArms, hheld, hshown⟩ := hv
  have hmem : ∀ n, n ∈ (v.records ++ [r]).map BagRecord.number ↔ n ∈ v.numbers ∨ n = r.number := fun n => by
    rw [List.map_append, List.mem_append, List.map_singleton, List.mem_singleton]
    rfl
  refine ⟨?_, hcommitments, fun n hn => (hmem n).mpr ?_, fun n hn => (hmem n).mpr ?_,
    fun c hc => (hmem _).mpr (.inl (hheld c hc)), fun x hx => ?_⟩
  · exact hwindows.append (List.nodup_singleton _)
      (List.disjoint_singleton.mpr fun h => hfree (hheldWindows _ h))
  · exact (List.mem_append.mp hn).imp (hheldWindows n) List.mem_singleton.mp
  · exact (List.mem_append.mp hn).imp (hheldArms n) (has n)
  · rcases List.mem_append.mp hx with hx | hx
    · exact hshown x hx
    · rw [List.mem_singleton.mp hx, hnew]
      have hnone : v.commitments.find? (fun c => c.record == r.number) = none :=
        List.find?_eq_none.mpr fun c hc => by
          rw [beq_iff_eq]
          exact fun hcr => hfree (hcr ▸ hheld c hc)
      exact (congrArg (Option.map Commitment.shown) hnone).symm

theorem Tracking.linked_leave (hv : v.linked) (n : Count) (hold : Bool) (endings : Counter) :
    Tracking.linked { v with
      records := v.records.filter fun r => r.number != n, feedHold := hold, endings := endings
      windows := v.windows.filter (· != n), armPoints := v.armPoints.filter (· != n)
      commitments := v.commitments.filter fun c => c.record != n } := by
  obtain ⟨hwindows, hcommitments, hheldWindows, hheldArms, hheld, hshown⟩ := hv
  have hmem : ∀ m, m ∈ (v.records.filter fun r => r.number != n).map BagRecord.number ↔ m ∈ v.numbers ∧ (m != n) = true :=
    fun m => by
      rw [numbers_filter, List.mem_filter]
      rfl
  refine ⟨hwindows.filter _, ?_, fun m hm => (hmem m).mpr ?_, fun m hm => (hmem m).mpr ?_, fun c hc => (hmem _).mpr ?_,
    fun r hr => ?_⟩
  · exact hcommitments.sublist (List.filter_sublist.map _)
  · exact (List.mem_filter.mp hm).imp_left (hheldWindows m)
  · exact (List.mem_filter.mp hm).imp_left (hheldArms m)
  · exact (List.mem_filter.mp hc).imp_left (hheld c)
  · obtain ⟨hr, hrn⟩ := List.mem_filter.mp hr
    have hfind := find_filter_of_nodup hcommitments (fun c => c.record == n) r.number
    rw [if_neg] at hfind
    · exact (hshown r hr).trans (congrArg (Option.map Commitment.shown) hfind.symm)
    · rw [List.any_eq_true]
      rintro ⟨c, -, hc⟩
      rw [Bool.and_eq_true, beq_iff_eq] at hc
      rw [← hc.1, bne_iff_ne] at hrn
      exact hrn (beq_iff_eq.mp hc.2)

/-- R100: the commitment of a record that had none. -/
theorem Tracking.linked_commit (hv : v.linked) (c : Commitment)
    (hc : ∃ r ∈ v.records, r.number = c.record ∧ r.commitment = none) :
    Tracking.linked { v with
      records := v.records.map fun r => if r.number = c.record then c.onRecord r else r
      commitments := v.commitments ++ [c] } := by
  have hlinks := hv
  obtain ⟨-, hcommitments, -, -, hheld, hshown⟩ := hlinks
  obtain ⟨r, hr, hrc, hnone⟩ := hc
  have hfree : v.commitments.find? (fun x => x.record == c.record) = none := by
    have := hshown r hr
    rw [hnone, hrc, eq_comm, Option.map_eq_none_iff] at this
    exact this
  refine Tracking.linked_map hv (number_ite fun _ => rfl) ?_ ?_ fun x hx => ?_
  · rw [List.map_append]
    refine hcommitments.append (List.nodup_singleton _) (List.disjoint_singleton.mpr fun hmem => ?_)
    obtain ⟨y, hy, hyc⟩ := List.mem_map.mp hmem
    exact List.find?_eq_none.mp hfree y hy (beq_iff_eq.mpr hyc)
  · intro y hy
    rcases List.mem_append.mp hy with hy | hy
    · exact hheld y hy
    · rw [List.mem_singleton.mp hy, ← hrc]
      exact List.mem_map_of_mem hr
  · rw [List.find?_append]
    split
    · rename_i hxc
      rw [hxc, hfree]
      simp [Commitment.onRecord, Commitment.shown]
    · rename_i hxc
      rw [hshown x hx]
      simp [Ne.symm hxc, Tracking.commitmentOf]

/-- R91, R103: a commitment becomes FIRED in the DC and on its record alike. -/
theorem Tracking.linked_fire (hv : v.linked) (n : Count) :
    Tracking.linked { v with
      records := v.records.map fun r => if r.number = n then r.fire else r
      commitments := v.commitments.map (Commitment.firedAt n) } := by
  have hlinks := hv
  obtain ⟨-, hcommitments, -, -, hheld, hshown⟩ := hlinks
  have hrecords : (v.commitments.map (Commitment.firedAt n)).map Commitment.record =
      v.commitments.map Commitment.record := by
    rw [List.map_map]
    exact List.map_congr_left fun c _ => c.firedAt_record n
  refine Tracking.linked_map hv (number_ite fun _ => rfl) (hrecords ▸ hcommitments) ?_ fun r hr => ?_
  · intro c hc
    obtain ⟨x, hx, rfl⟩ := List.mem_map.mp hc
    exact x.firedAt_record n ▸ hheld x hx
  · have hfind : (v.commitments.map (Commitment.firedAt n)).find? (fun c => c.record == r.number) =
        (v.commitmentOf r.number).map (Commitment.firedAt n) := by
      rw [List.find?_map]
      simp only [Function.comp_def, Commitment.firedAt_record]
      rfl
    have hshown := hshown r hr
    rw [hfind]
    cases hc : v.commitmentOf r.number with
    | none =>
      rw [hc] at hshown
      split
      · exact congrArg (Option.map _) hshown
      · exact hshown
    | some c =>
      have hnumber : c.record = r.number := by simpa using List.find?_some hc
      rw [hc] at hshown
      simp only [Option.map_some, Commitment.firedAt, hnumber]
      split
      · exact congrArg (Option.map _) hshown
      · exact hshown

/-- R54, R91, R93: every change keeps the links. -/
theorem Tracking.linked_change (hv : v.linked) (h : v.Change w) : w.linked := by
  have hlinks := hv
  obtain ⟨hwindows, hcommitments, hheldWindows, hheldArms, hheld, hshown⟩ := hlinks
  cases h with
  | edit n f hf =>
    refine Tracking.linked_map hv (number_ite fun r => (hf r).1) hcommitments hheld fun r hr => ?_
    refine Eq.trans ?_ (hshown r hr)
    split
    · exact (hf r).2
    · rfl
  | expire ws as hw ha =>
    exact ⟨hwindows.sublist hw, hcommitments, fun n hn => hheldWindows n (hw.subset hn),
      fun n hn => hheldArms n (ha.subset hn), hheld, hshown⟩
  | arrive r as hrun hroom hfree hnew has => exact Tracking.linked_arrive hv hfree hnew has _ _
  | leave n hn => exact Tracking.linked_leave hv n _ _
  | commit c hc => exact Tracking.linked_commit hv c hc
  | fire n => exact Tracking.linked_fire hv n
  | drop p f hnumber hcommitment =>
    refine Tracking.linked_map hv hnumber (hcommitments.sublist (List.filter_sublist.map _))
      (fun c hc => hheld c (List.mem_of_mem_filter hc)) fun r hr => ?_
    rw [hcommitment, find_filter_of_nodup hcommitments]
    split
    · rfl
    · exact hshown r hr
  | abandon hrun =>
    refine ⟨hwindows.filter _, List.nodup_nil, fun n hn => ?_, List.forall_mem_nil _, List.forall_mem_nil _,
      List.forall_mem_nil _⟩
    obtain ⟨hn, hnot⟩ := List.mem_filter.mp hn
    simp [hheldWindows n hn] at hnot
  | start | powerOn => exact hv
  | powerLoss =>
    rw [State.reset_tracking]
    exact ⟨List.nodup_nil, List.nodup_nil, List.forall_mem_nil _, List.forall_mem_nil _, List.forall_mem_nil _,
      List.forall_mem_nil _⟩

end
end Sys2Proof.Machine

open Sys2Proof.Machine

/-- Settles O7: an arrival adds a record, an ending takes one out of a list with one record to a number, and no other change
touches the accounting. -/
theorem bagAccountingKept : Obligations.BagAccountingKept := by
  unfold Obligations.BagAccountingKept
  exact fun s t hlist hbalance hstep =>
    step_keeps_tracking (P := fun v => v.listOk ∧ v.balanced) (fun _ _ => Tracking.balanced_change) hstep
      ⟨hlist, hbalance⟩

/-- Settles O9: the hold is re-evaluated where a record comes or goes; a node whose main power comes did not run before. -/
theorem feedHoldKept : Obligations.FeedHoldKept := by
  unfold Obligations.FeedHoldKept
  rintro s t ⟨-, -, hpower, -⟩ hhold hstep
  have hstill : s.nc.powered = false → s.running = false := fun h => by rw [State.running, hpower h]; rfl
  exact (step_keeps_tracking (P := fun v => v.feedHoldOk ∧ (v.powered = false → v.running = false))
    (fun _ _ => Tracking.feedHoldOk_change) hstep ⟨hhold, hstill⟩).1

/-- Settles O10: each change of the tracked part keeps the links, those of a record that leaves because all that is kept for it
leaves with it. -/
theorem blocksLinkedKept : Obligations.BlocksLinkedKept := by
  unfold Obligations.BlocksLinkedKept
  intro s t _ hlinked hstep
  rw [State.linked_iff] at hlinked ⊢
  exact step_keeps_tracking (fun _ _ => Tracking.linked_change) hstep hlinked
end

section
/-! SUPPORT. A node on which two records have one number: a tag read for that number is judged by the elder alone and joins
both. -/

open Sys2Proof

namespace Sys2Proof.Machine

/-- Two records with one number, of which the younger holds the tag that the reader is about to give. -/
def twinRecords : List BagRecord :=
  [BagRecord.create 0 0, { BagRecord.create 0 0 with tags := [7] }]

/-- The samples of the end mark but for its last, and the ten digits and the check digit of tag 7 before it. -/
def endMarkSamples : List Bool :=
  List.replicate 16 false ++ List.replicate 32 true ++ List.replicate 96 false ++ List.replicate 8 true

def tagSevenDigits : List Byte := List.replicate 9 0x30 ++ [0x37, 0x37]

/-- A node whose reader has all of a report but the last sample, with its scan window open for the number held twice. -/
def twinState : State :=
  { State.reset with
    pending := [.report [true]]
    config := { NodeConfig.blank with readerFitted := true }
    nc := { NodeControl.unpowered with powered := true, state := .sorting }
    st := { SectionTracker.atPowerOn with records := twinRecords }
    trp := { TagReadPort.atPowerOn with
      receiver := .receiving endMarkSamples, assembly := some tagSevenDigits, windows := [⟨0, none⟩] } }

theorem twinState_contentsOk : twinState.st.contentsOk := by
  unfold SectionTracker.contentsOk
  decide

/-- R47: the last sample completes the end mark. -/
theorem twinState_hears :
    hearLine (fun e => e == .character endMark) [true] twinState.trp.receiver =
      some (.hunting true, some (.character endMark)) := by decide +kernel

/-- R52: the end mark completes the report of tag 7. -/
theorem twinState_step :
    step twinState = .next ((State.putReceiver (.hunting true) { twinState with pending := [] }).receiveCharacter endMark) := by
  have hheard : step twinState = .next
      ({ twinState with pending := [] }.heard (hearLine (fun e => e == LineEvent.character endMark) [true] twinState.trp.receiver)
        State.putReceiver State.takeCharacter) := rfl
  rw [hheard, twinState_hears]
  rfl

/-- R56: the tag is new to the record that the number finds, and joins both. -/
theorem twinState_tags :
    ((State.putReceiver (.hunting true) { twinState with pending := [] }).receiveCharacter endMark).st.records.map
      BagRecord.tags = [[7], [7, 7]] := by decide +kernel
end Sys2Proof.Machine
open Sys2Proof.Machine

/-- Refutes O8: the statement does not ask that no two records have one number (R18, `listOk`), and where two have, the tag of a
report, new to the elder, joins the younger a second time. -/
theorem not_trackingContentsKept : ¬ Obligations.TrackingContentsKept := by
  unfold Obligations.TrackingContentsKept
  intro h
  obtain ⟨hcontents, -⟩ := h _ _ twinState_contentsOk twinState_step
  have htags : [7, 7] ∈ ((State.putReceiver (.hunting true) { twinState with pending := [] }).receiveCharacter
      endMark).st.records.map BagRecord.tags := by rw [twinState_tags]; decide
  obtain ⟨r, hr, hrtags⟩ := List.mem_map.mp htags
  obtain ⟨-, hnodup⟩ := hcontents r hr
  rw [hrtags] at hnodup
  exact absurd hnodup (by decide)
end

section
/-! SUPPORT. What a binding gives a record (R29 to R31). -/

open Sys2Proof

namespace Sys2Proof.Machine

/-! ## The merge of tags (R29) -/

/-- A record that holds two tags takes no third. -/
theorem mergeTags_full {held : List Nat} (h : held.length = 2) (ts : List Nat) :
    mergeTags held ts = (held, decide (0 < (ts.filter fun x => !held.contains x).length)) := by
  induction ts with
  | nil => simp [mergeTags]
  | cons t ts ih =>
    unfold mergeTags
    by_cases ht : t ∈ held <;> simp [ht, ih, h, Config.maxRecordTags]

/-- R29: the tags of the telegram that the record lacks, in order, as far as there is room for two. -/
theorem mergeTags_eq {held ts : List Nat} (hheld : held.length ≤ 2) (hts : ts.Nodup) :
    mergeTags held ts =
      ((held ++ ts.filter fun x => !held.contains x).take 2,
        decide (2 < (held ++ ts.filter fun x => !held.contains x).length)) := by
  induction ts generalizing held with
  | nil => simp [mergeTags, hheld, List.take_of_length_le]
  | cons t ts ih =>
    obtain ⟨hnew, hts⟩ := List.nodup_cons.mp hts
    unfold mergeTags
    by_cases ht : t ∈ held
    · simp [ht, ih hheld hts]
    · by_cases hroom : held.length < 2
      · have hsame : (ts.filter fun x => !(held ++ [t]).contains x) = ts.filter fun x => !held.contains x := by
          refine List.filter_congr fun x hx => ?_
          have : x ≠ t := fun h => hnew (h ▸ hx)
          simp [this]
        have hih := ih (held := held ++ [t]) (by simpa using hroom) hts
        rw [hsame] at hih
        simp [ht, hroom, Config.maxRecordTags, hih]
      · have hfull : held.length = 2 := by omega
        simp [ht, Config.maxRecordTags, mergeTags_full hfull, hfull]

/-- R29: the read state after a merge. -/
theorem mergedReadState_eq (r : BagRecord) (merged : List Nat) :
    mergedReadState r merged =
      if (r.readState = .noRead ∨ r.readState = .notRead) ∧ r.tags.length < merged.length then .read
      else r.readState := by
  unfold mergedReadState
  cases r.readState <;> simp

end Sys2Proof.Machine

open Sys2Proof.Machine

/-- Settles O32: field by field from `bind_eq`, with the merge as the tags that the record lacks, cut off at two. -/
theorem bindingInherits : Obligations.BindingInherits := by
  unfold Obligations.BindingInherits
  rintro c e r r' rfl hheld - - hnodup
  have hmerge := mergeTags_eq hheld hnodup
  have hgrows : r.tags.length ≤ ((r.tags ++ e.tags.filter fun x => !r.tags.contains x).take 2).length := by
    rw [List.length_take, List.length_append]
    omega
  simp only [BagRecord.bind_eq, hmerge, mergedReadState_eq, boundLap]
  refine ⟨trivial, trivial, trivial, trivial, trivial, trivial, trivial, fun h => ?_, fun h => ?_, fun x h => ?_,
    fun h hsurplus => ?_, fun h hroom => ?_, fun h => ?_, fun h => ?_, fun h => ?_⟩
  · simp [h]
  · simp [h]
  · simp [h]
  · rw [h, if_pos (decide_eq_true hsurplus)]
    rfl
  · rw [h, if_neg (by simpa using hroom)]
    cases e.reason <;> simp
  · simp [h]
  · simp [h]
  · rw [if_congr (and_iff_right h) rfl rfl]
    by_cases hlen : ((r.tags ++ e.tags.filter fun x => !r.tags.contains x).take 2).length = r.tags.length
    · rw [if_pos hlen, if_neg (by omega)]
    · rw [if_neg hlen, if_pos (by omega)]

end

section
/-! SUPPORT. The HANDOFF telegram (R23, R24, R27), and the span, window-end and expiry points (R25, R28, R36). -/

open Sys2Proof

namespace Sys2Proof.Machine

/-! ## The HANDOFF telegram -/

theorem exec_handoff {s : State} {rx : Rx} {p : List Byte} (h : s.delivers classHandoff rx p) :
    exec (.handoff rx p) s =
      .next ((s.takenAwake rx).onSt (SectionTracker.takeHandoff s.config rx (readHandoff p))) := by
  rw [← State.takenAwake_eq]
  exact congrArg Host.Outcome.next (State.receive_of_delivers h _)

theorem State.takenAwake_st (s : State) (rx : Rx) : (s.takenAwake rx).st = s.st := by
  rw [← State.takenAwake_eq, State.wakeIfAddressed]
  split
  · rfl
  · exact (s.takeTelegram rx).wakeUp_frame.1

theorem reasonOfCode_eq_none : ∀ {n : Nat}, reasonOfCode n = none ↔ 8 < n
  | 0 | 1 | 2 | 3 | 4 | 5 | 6 | 7 | 8 => by decide
  | _ + 9 => iff_of_true rfl (by omega)

/-- R23: the checks, as the rule lists them. -/
theorem SectionTracker.refuses_iff (t : SectionTracker) (rx : Rx) (h : ReceivedHandoff) :
    t.refuses rx h = true ↔
      broadcast rx = true ∨ 2 < h.tagCount ∨ 0 ∈ h.tags ∨ ¬ h.tags.Nodup ∨ 7 < h.lap ∨ h.readCode ∉ [1, 2, 3]
        ∨ 8 < h.reasonCode ∨ (∃ e ∈ t.expectations, e.node = rx.sender.toNat ∧ e.bag = h.bag)
        ∨ ∃ r ∈ t.records, r.binding = .bound rx.sender.toNat h.bag := by
  simp [SectionTracker.refuses, SectionTracker.alreadyTaken, Expectation.isFrom, reasonOfCode_eq_none, or_assoc, and_assoc]

/-- R24: an expectation joins the list. -/
theorem SectionTracker.expect_room {t : SectionTracker} (h : t.expectations.length < 16) (e : Expectation) :
    t.expect e = { t with expectations := t.expectations ++ [e] } := if_pos h

theorem SectionTracker.expect_full {t : SectionTracker} (h : 16 ≤ t.expectations.length) (e : Expectation) :
    t.expect e = { t with
      expectations := t.expectations.tail ++ [e]
      counters := { t.counters with expectationOverflow := t.counters.expectationOverflow + 1 } } := by
  have hfull : ¬ t.expectations.length < Config.maxExpectations := Nat.not_lt.mpr h
  rw [SectionTracker.expect, if_neg hfull, List.drop_one]
  rfl

section
variable {t : SectionTracker} {c : NodeConfig} {rx : Rx} {h : ReceivedHandoff}

theorem SectionTracker.takeHandoff_refused (hrefuse : t.refuses rx h = true) :
    t.takeHandoff c rx h = { t with
      counters := { t.counters with handoffsRefused := t.counters.handoffsRefused + 1 } } := if_pos hrefuse

theorem SectionTracker.takeHandoff_late (hrefuse : t.refuses rx h = false) {r : BagRecord}
    (hr : t.lateRecord c.tolerance h.length = some r) :
    t.takeHandoff c rx h = t.modify r.number (BagRecord.bind c (expectationOf rx.sender.toNat h t.encoderCount)) := by
  simp only [SectionTracker.takeHandoff, hrefuse, hr]
  rfl

theorem SectionTracker.takeHandoff_expected (hrefuse : t.refuses rx h = false)
    (hnone : t.lateRecord c.tolerance h.length = none) :
    t.takeHandoff c rx h = t.expect (expectationOf rx.sender.toNat h t.encoderCount) := by
  simp only [SectionTracker.takeHandoff, hrefuse, hnone]
  rfl

end

/-! ## Span points (R28) -/

theorem State.takeSpanPoint_of_record {s : State} {n : Count} {r : BagRecord} (h : s.st.record n = some r) :
    s.takeSpanPoint n =
      if hasReached s.st.encoderCount (spanPointOf s.config r.leading) = true then
        { s with st := s.trackerWith n BagRecord.spanned }
      else s := by
  simp only [State.takeSpanPoint, h]
  rfl

/-! ## Window-end points (R36, R37) -/

/-- R36, R37: the node once a record has left the list and its loss has been reported. -/
def State.recordLost (s : State) (n : Count) (r : BagRecord) : State :=
  (s.onSt fun t => (t.remove n).tally fun c => { c with lost := c.lost + 1 }).reportLost (r.loss s.config)

section
variable {s : State} {n : Count} {r : BagRecord}

theorem State.takeWindowEnd_early (h : s.st.record n = some r)
    (hearly : hasReached s.st.encoderCount (windowEndOf s.config r.leading) = false) : s.takeWindowEnd n = s := by
  simp only [State.takeWindowEnd, h, hearly]
  rfl

theorem State.takeWindowEnd_reached (h : s.st.record n = some r)
    (hreached : hasReached s.st.encoderCount (windowEndOf s.config r.leading) = true) :
    s.takeWindowEnd n = ((s.recordLost n r).endRecord n).standbyTest := by
  simp only [State.takeWindowEnd, h, hreached]
  rfl

/-- R36, R37, R39: the loss of a record, block by block. -/
theorem State.recordLost_spec (s : State) (n : Count) (r : BagRecord) :
    ((s.recordLost n r).endRecord n).st = { s.trackerWithout n with
        counters := { (s.trackerWithout n).counters with lost := s.st.counters.lost + 1 } }
      ∧ ((s.recordLost n r).endRecord n).hlc = s.hlc.enqueue ⟨0, .lost (r.loss s.config)⟩
      ∧ ((s.recordLost n r).endRecord n).su =
          (if s.config.isStrayNode then
            s.su.withReport (.lost s.config.address s.config.address) r.tags (some r.lap) else s.su)
      ∧ ((s.recordLost n r).endRecord n).nc = { s.nc with logMark := s.nc.logMark || s.config.isStrayNode }
      ∧ ((s.recordLost n r).endRecord n).trp =
          { s.trp with windows := s.trp.windows.filter fun w => w.record != n }
      ∧ ((s.recordLost n r).endRecord n).dc = s.dc.forget n ∧ ((s.recordLost n r).endRecord n).ms = s.ms
      ∧ ((s.recordLost n r).endRecord n).om = s.om := by
  have hlost := State.reportLost_eq
    (s.onSt fun t => (t.remove n).tally fun c => { c with lost := c.lost + 1 }) (r.loss s.config)
  have hnone : (s.recordLost n r).st.record n = none := by
    rw [State.recordLost, hlost]
    exact s.st.remove_record n
  obtain ⟨hms, hom, hsu, hhlc, hnc, -⟩ := (s.recordLost n r).endRecord_frame n
  rw [State.endRecord_st hnone, State.endRecord_trp, State.endRecord_dc, hms, hom, hsu, hhlc, hnc, State.recordLost, hlost]
  exact ⟨rfl, rfl, rfl, rfl, rfl, rfl, rfl, rfl⟩

end

/-! ## Expiry points (R25, R37) -/

/-- R25, R37: the node once an expectation has left the list and its loss has been reported. -/
def State.expectationLost (s : State) (e : Expectation) : State :=
  (s.onSt fun t =>
    { t with expectations := t.expectations.filter fun x => !x.isFrom e.node e.bag }.tally
      fun c => { c with expectationsLost := c.expectationsLost + 1 }).reportLost (e.loss s.config)

theorem Expectation.isFrom_iff {node : Nat} {bag : Count} {e : Expectation} :
    e.isFrom node bag = true ↔ e.node = node ∧ e.bag = bag := by
  rw [Expectation.isFrom, Bool.and_eq_true, beq_iff_eq, beq_iff_eq]

/-- R25, R37: the loss of an expectation, block by block. -/
theorem State.expectationLost_spec (s : State) (e : Expectation) :
    (s.expectationLost e).st = { s.st with
        expectations := s.st.expectations.filter fun x => !x.isFrom e.node e.bag
        counters := { s.st.counters with expectationsLost := s.st.counters.expectationsLost + 1 } }
      ∧ (s.expectationLost e).hlc = s.hlc.enqueue ⟨0, .lost (e.loss s.config)⟩
      ∧ (s.expectationLost e).su =
          (if s.config.isStrayNode then
            s.su.withReport (.lost e.node s.config.address) e.tags (some e.lap) else s.su)
      ∧ (s.expectationLost e).nc = { s.nc with logMark := s.nc.logMark || s.config.isStrayNode }
      ∧ (s.expectationLost e).trp = s.trp ∧ (s.expectationLost e).dc = s.dc ∧ (s.expectationLost e).ms = s.ms
      ∧ (s.expectationLost e).om = s.om := by
  rw [State.expectationLost, State.reportLost_eq]
  exact ⟨rfl, rfl, rfl, rfl, rfl, rfl, rfl, rfl⟩

section
variable {s : State} {e : Expectation}

theorem State.takeExpiry_none {node : Nat} {bag : Count}
    (h : ∀ e ∈ s.st.expectations, ¬ (e.node = node ∧ e.bag = bag)) : s.takeExpiry node bag = s := by
  have hnone : s.st.expectations.find? (Expectation.isFrom node bag) = none :=
    List.find?_eq_none.mpr fun e he hfrom => h e he (Expectation.isFrom_iff.mp hfrom)
  simp only [State.takeExpiry, hnone]

theorem State.takeExpiry_early (h : s.st.expectations.find? (Expectation.isFrom e.node e.bag) = some e)
    (hearly : hasReached s.st.encoderCount (expiryPointOf s.config e.receipt) = false) :
    s.takeExpiry e.node e.bag = s := by
  simp only [State.takeExpiry, h, hearly]
  rfl

theorem State.takeExpiry_reached (h : s.st.expectations.find? (Expectation.isFrom e.node e.bag) = some e)
    (hreached : hasReached s.st.encoderCount (expiryPointOf s.config e.receipt) = true) :
    s.takeExpiry e.node e.bag = (s.expectationLost e).standbyTest := by
  simp only [State.takeExpiry, h, hreached]
  rfl

/-- R25: the one expectation of its kind is found, and leaves the others. -/
theorem expectations_of_split {older younger : List Expectation}
    (h : ∀ x ∈ older ++ younger, ¬ (x.node = e.node ∧ x.bag = e.bag)) :
    (older ++ e :: younger).find? (Expectation.isFrom e.node e.bag) = some e
      ∧ ((older ++ e :: younger).filter fun x => !x.isFrom e.node e.bag) = older ++ younger := by
  have hother : ∀ x ∈ older ++ younger, x.isFrom e.node e.bag = false := fun x hx => by
    rw [Bool.eq_false_iff, Ne, Expectation.isFrom_iff]
    exact h x hx
  have hown : e.isFrom e.node e.bag = true := Expectation.isFrom_iff.mpr ⟨rfl, rfl⟩
  have hnone : older.find? (Expectation.isFrom e.node e.bag) = none :=
    List.find?_eq_none.mpr fun x hx => by simp [hother x (List.mem_append_left _ hx)]
  refine ⟨by rw [List.find?_append, hnone, Option.none_or, List.find?_cons_of_pos hown], ?_⟩
  rw [List.filter_append, List.filter_cons_of_neg (by simp [hown]), ← List.filter_append, List.filter_eq_self]
  exact fun x hx => by simp [hother x hx]

end

end Sys2Proof.Machine

open Sys2Proof.Machine

/-- Settles O31: the wake leaves the ST as it was, so the checks, the late record and the list are those of the state
before. -/
theorem handoffTaken : Obligations.HandoffTaken := by
  unfold Obligations.HandoffTaken
  rintro s u rx p h hdeliver rfl rfl
  have hst := s.takenAwake_st rx
  rw [exec_handoff hdeliver, State.onSt, hst]
  refine ⟨fun hrefuse => ?_, ?_⟩
  · rw [SectionTracker.takeHandoff_refused ((SectionTracker.refuses_iff ..).mpr hrefuse)]
  · rintro e rfl haddressed hcount hzero hnodup hlap hread hreason hfresh hunbound
    have hrefuse : s.st.refuses rx (readHandoff p) = false := by
      rw [Bool.eq_false_iff, Ne, SectionTracker.refuses_iff]
      rintro (h | h | h | h | h | h | h | ⟨x, hx, h⟩ | ⟨r, hr, h⟩)
      · exact absurd (haddressed.symm.trans h) Bool.false_ne_true
      · exact absurd h (Nat.not_lt.mpr hcount)
      · exact hzero h
      · exact h hnodup
      · exact absurd h (Nat.not_lt.mpr hlap)
      · exact h hread
      · exact absurd h (Nat.not_lt.mpr hreason)
      · exact hfresh x hx h
      · exact hunbound r hr h
    refine ⟨fun r hr => ?_, fun hnone => ?_⟩
    · rw [SectionTracker.takeHandoff_late hrefuse hr]
      rfl
    · have hlate : s.st.lateRecord s.config.tolerance (readHandoff p).length = none :=
        List.find?_eq_none.mpr fun r hr => by simpa [BagRecord.measured] using hnone r hr
      rw [SectionTracker.takeHandoff_expected hrefuse hlate]
      exact ⟨fun hroom => by rw [SectionTracker.expect_room hroom], fun hfull => by rw [SectionTracker.expect_full hfull]⟩

/-- Settles O30: a point reached is taken by its rule, whose effect each block's lemma gives; the standby test after a loss
reaches no more than the node state, the OM and the TRP. -/
theorem recordPointsTaken : Obligations.RecordPointsTaken := by
  unfold Obligations.RecordPointsTaken
  refine ⟨?_, ?_, ?_, ?_, ?_⟩
  · intro s n r hrun hr
    exact (exec_command hrun (.span n)).trans (congrArg Host.Outcome.next (State.takeSpanPoint_of_record hr))
  · intro s n hnone
    have hspan : s.takeSpanPoint n = s := by simp only [State.takeSpanPoint, hnone]
    have hend : s.takeWindowEnd n = s := by simp only [State.takeWindowEnd, hnone]
    exact ⟨congrArg Host.Outcome.next (by rw [hspan, ite_self]), congrArg Host.Outcome.next (by rw [hend, ite_self])⟩
  · intro s n r hrun hr
    have hexec : exec (.windowEndPoint n) s = .next (s.takeWindowEnd n) := exec_command hrun (.windowEnd n)
    refine ⟨fun hearly => by rw [hexec, State.takeWindowEnd_early hr hearly], fun hreached => ⟨_, hexec, ?_⟩⟩
    have hframe := s.takeWindowEnd_readFrame n
    have hconfig := State.config_of_readFrame hframe
    have hinputs := State.inputs_of_readFrame hframe
    obtain ⟨hst, hhlc, hsu, hnc, htrp, hdc, hms, hom⟩ := s.recordLost_spec n r
    rw [State.takeWindowEnd_reached hr hreached] at hconfig hinputs ⊢
    simp only [State.standbyTest_st, State.standbyTest_hlc, State.standbyTest_su, State.standbyTest_logMark,
      State.standbyTest_windows, State.standbyTest_trp_counters, State.standbyTest_dc, State.standbyTest_ms, hst, hhlc,
      hsu, htrp, hdc, hms]
    refine ⟨trivial, rfl, trivial, by rw [hnc], trivial, trivial, trivial, trivial, hconfig, hinputs, fun hne => ?_⟩
    rw [State.standbyTest_of_ne (by rw [hnc]; exact hne), hnc, hom]
    exact ⟨rfl, rfl, rfl⟩
  · exact fun s node bag h => congrArg Host.Outcome.next (by rw [State.takeExpiry_none h, ite_self])
  · intro s older younger e hrun hsplit hother
    obtain ⟨hfind, hfilter⟩ := expectations_of_split hother
    rw [← hsplit] at hfind hfilter
    have hexec : exec (.expiryPoint e.node e.bag) s = .next (s.takeExpiry e.node e.bag) :=
      exec_command hrun (.expiry e.node e.bag)
    refine ⟨fun hearly => by rw [hexec, State.takeExpiry_early hfind hearly], fun hreached => ⟨_, hexec, ?_⟩⟩
    have hframe := s.takeExpiry_readFrame e.node e.bag
    have hconfig := State.config_of_readFrame hframe
    have hinputs := State.inputs_of_readFrame hframe
    obtain ⟨hst, hhlc, hsu, hnc, htrp, hdc, hms, hom⟩ := s.expectationLost_spec e
    rw [State.takeExpiry_reached hfind hreached] at hconfig hinputs ⊢
    simp only [State.standbyTest_st, State.standbyTest_hlc, State.standbyTest_su, State.standbyTest_logMark,
      State.standbyTest_windows, State.standbyTest_dc, State.standbyTest_ms, hst, hhlc, hsu, htrp, hdc, hms, hfilter]
    refine ⟨trivial, rfl, trivial, by rw [hnc], trivial, trivial, hconfig, hinputs, trivial, fun hne => ?_⟩
    rw [State.standbyTest_of_ne (by rw [hnc]; exact hne), hnc, hom, htrp]
    exact ⟨rfl, rfl, rfl, rfl⟩

end

section
/-! SUPPORT. The invariants at the node before its first power-on: every store is empty and every score 0. -/

open Sys2Proof

namespace Sys2Proof.Machine

/-- R18, R24, R41: the lists of the ST are empty and no bag is counted. -/
theorem SectionTracker.atPowerOn_ok :
    SectionTracker.atPowerOn.listOk ∧ SectionTracker.atPowerOn.contentsOk ∧ SectionTracker.atPowerOn.balanced :=
  ⟨⟨Nat.zero_le _, List.nodup_nil⟩, ⟨List.forall_mem_nil _, Nat.zero_le _⟩, rfl⟩

/-- R54, R91, R93: with no record there is no window, no arm point and no commitment. -/
theorem State.reset_linked : State.reset.linked := by
  rw [State.linked_iff, State.reset_tracking]
  exact ⟨List.nodup_nil, List.nodup_nil, List.forall_mem_nil _, List.forall_mem_nil _, List.forall_mem_nil _,
    List.forall_mem_nil _⟩

/-- R62 to R64, R83: the stores of the MS are empty. -/
theorem ManifestStore.initial_ok :
    ManifestStore.initial.capacitiesOk ∧ ManifestStore.initial.cabinsOk ∧ ManifestStore.initial.mapOk
      ∧ ManifestStore.initial.holdOk :=
  ⟨⟨Nat.zero_le _, Nat.zero_le _, Nat.zero_le _, .nil, .nil⟩, ⟨List.forall_mem_nil _, List.forall_mem_nil _⟩,
    ⟨Nat.zero_le _, .nil, List.forall_mem_nil _, .nil⟩, ⟨Nat.zero_le _, fun _ => rfl⟩⟩

theorem StrayUnit.initial_logOk : StrayUnit.initial.logOk := ⟨Nat.zero_le _, rfl, List.forall_mem_nil _⟩

theorem HallLine.atPowerOn_queueOk : HallLine.atPowerOn.queueOk :=
  ⟨Nat.zero_le _, .nil, List.forall_mem_nil _, Nat.zero_le _⟩

/-- R178: the score 0 is that of an ACTIVE line, and no attempt is read while none is on the line. -/
theorem HallLine.atPowerOn_lineOk : HallLine.atPowerOn.lineOk := by
  refine ⟨Nat.zero_le _, rfl, show 0 < 12 by decide, ?_, ?_⟩
  · rintro ⟨read, left, hattempting⟩
    cases hattempting
  · rintro ⟨e, he, -⟩
    cases he

/-- R92, R190: no timer runs in START, and the send queue is empty. -/
theorem State.reset_statesOk : State.reset.statesOk := by
  refine ⟨⟨fun hjoin => ?_, fun hjoining => ?_⟩, fun hstandby => ?_, fun _ => rfl, fun _ => ⟨rfl, rfl⟩⟩
  · cases hjoin
  · cases hjoining
  · cases hstandby

end Sys2Proof.Machine

open Sys2Proof.Machine

/-- Settles O6: block by block. -/
theorem invariantsHoldAtReset : Obligations.InvariantsHoldAtReset := by
  unfold Obligations.InvariantsHoldAtReset
  obtain ⟨hlist, hcontents, hbalanced⟩ := SectionTracker.atPowerOn_ok
  obtain ⟨hcapacities, hcabins, hmap, hhold⟩ := ManifestStore.initial_ok
  exact ⟨hlist, hcontents, hbalanced, ⟨rfl, rfl⟩, State.reset_linked, ⟨rfl, rfl⟩, hcapacities, hcabins, hmap, hhold,
    ⟨Nat.zero_le _, List.nodup_nil⟩, ⟨rfl, rfl⟩, StrayUnit.initial_logOk, HallLine.atPowerOn_queueOk,
    HallLine.atPowerOn_lineOk, State.reset_statesOk, InputFilters.begin_ok, trivial, Measurement.idle_ok⟩

end

section
/-! SUPPORT. Pushes in time (R103, R104, R110, R127): a commitment fired, its pusher busy, its push missed, and the third
miss, which jams the outlet. -/

open Sys2Proof

namespace Sys2Proof.Machine

/-! ## Records and commitments after a change -/

/-- R93: a change of records that keeps the number of each. -/
theorem SectionTracker.record_of_map {t u : SectionTracker} {g : BagRecord → BagRecord}
    (hrecords : u.records = t.records.map g) (hg : ∀ r, (g r).number = r.number) (n : Count) :
    u.record n = (t.record n).map g := by
  rw [SectionTracker.record, hrecords, List.find?_map]
  simp only [Function.comp_def, hg]
  rfl

/-- R91: a commitment dropped is not there. -/
theorem DivertController.commitmentOf_release (d : DivertController) (n : Count) : (d.release n).commitmentOf n = none :=
  List.find?_eq_none.mpr fun c hc => by simpa using (List.mem_filter.mp hc).2

/-- R91: dropping more commitments brings none back. -/
theorem DivertController.commitmentOf_sublist {d e : DivertController} {n : Count}
    (hsub : e.commitments.Sublist d.commitments) (hnone : d.commitmentOf n = none) : e.commitmentOf n = none :=
  List.find?_eq_none.mpr fun c hc => List.find?_eq_none.mp hnone c (hsub.subset hc)

/-- R103: the commitment found is the one found before, FIRED. -/
theorem DivertController.commitmentOf_setFired (d : DivertController) (n : Count) :
    (d.setFired n).commitmentOf n = (d.commitmentOf n).map (Commitment.firedAt n) := by
  have hfind : (d.setFired n).commitmentOf n = (d.commitments.map (Commitment.firedAt n)).find? (·.record == n) := rfl
  rw [hfind, List.find?_map]
  simp only [Function.comp_def, Commitment.firedAt_record]
  rfl

/-! ## The re-derivation of an outlet (R106, R131), with or without records held -/

/-- R132: a summary derived changes the outlet's summary and what is sent. -/
theorem State.summarise_spec (s : State) (k : OutletNo) (first : Bool) :
    (∃ x, (s.summarise k first).om.outlet k = { s.om.outlet k with summary := x })
      ∧ (s.summarise k first).om.counters.jams = s.om.counters.jams ∧ (s.summarise k first).su = s.su
      ∧ (s.summarise k first).dc = s.dc ∧ (s.summarise k first).st = s.st := by
  rw [State.summarise_eq]
  split
  · exact ⟨⟨_, rfl⟩, rfl, rfl, rfl, rfl⟩
  · exact ⟨⟨_, PerOutlet.get_set_self ..⟩, rfl, rfl, rfl, rfl⟩

/-- R106: what the dropping of ARMED commitments leaves of the ST and the DC. -/
structure State.DropsArmed (s t : State) (k : OutletNo) : Prop where
  dc : t.dc = s.dc.withoutArmed k
  st : ∃ x, t.st = { s.trackerWithoutArmed k with counters := x }

/-- R106, R131: a state derived is stored, and on a change to one that drops, the DC drops. -/
theorem State.rederive_spec (s : State) (k : OutletNo) (first : Bool) {o : OutletRecord} (ho : s.om.outlet k = o)
    {new : OutletState} (hnew : outletStateOf (s.config.outlet k).role o s.om.closed = new) :
    (∃ x, (s.rederive k first).om.outlet k = { o with state := new, summary := x })
      ∧ (s.rederive k first).om.counters.jams = s.om.counters.jams ∧ (s.rederive k first).su = s.su
      ∧ (if new = o.state ∨ new.drops = false then (s.rederive k first).dc = s.dc ∧ (s.rederive k first).st = s.st
        else s.DropsArmed (s.rederive k first) k) := by
  have hset : (s.onOm (OutletMonitor.setOutlet k { o with state := new })).om.outlet k = { o with state := new } :=
    PerOutlet.get_set_self ..
  unfold State.rederive
  simp only [ho, hnew]
  by_cases hsame : new = o.state
  · obtain ⟨⟨x, hx⟩, hjams, hsu, hdc, hst⟩ := s.summarise_spec k first
    rw [if_pos hsame, if_pos (.inl hsame)]
    exact ⟨⟨x, by rw [hx, ho, hsame]⟩, hjams, hsu, hdc, hst⟩
  · rw [if_neg hsame]
    cases hdrop : new.drops with
    | false =>
      obtain ⟨⟨x, hx⟩, hjams, hsu, hdc, hst⟩ :=
        (s.onOm (OutletMonitor.setOutlet k { o with state := new })).summarise_spec k first
      rw [if_neg Bool.false_ne_true, if_pos (.inr rfl)]
      exact ⟨⟨x, by rw [hx, hset]⟩, hjams, hsu, hdc, hst⟩
    | true =>
      obtain ⟨n, hn⟩ := (s.onOm (OutletMonitor.setOutlet k { o with state := new })).dropArmed_all k
      obtain ⟨⟨x, hx⟩, hjams, hsu, hdc, hst⟩ := State.summarise_spec
        ((s.onOm (OutletMonitor.setOutlet k { o with state := new })).dropArmed k) k first
      rw [if_pos rfl, if_neg (by simp [hsame])]
      rw [hn] at hx hjams hsu hdc hst ⊢
      exact ⟨⟨x, hx.trans (congrArg (fun o : OutletRecord => { o with summary := x }) hset)⟩, hjams, hsu, hdc, _, hst⟩

/-! ## A miss reported (R110, R127) -/

theorem OutletRecord.miss_of_ne {o : OutletRecord} (h : o.misses ≠ 2) : o.miss = { o with misses := min 3 (o.misses + 1) } := by
  rw [OutletRecord.miss, if_neg h]
  split
  · rw [Nat.min_eq_right (by omega)]
  · rw [Nat.min_eq_left (by omega)]

/-- R127: a miss that is not the third is counted. -/
theorem State.reportMiss_counts {s : State} {k : OutletNo} (h : (s.om.outlet k).misses ≠ 2) :
    s.reportMiss k =
      s.onOm (OutletMonitor.setOutlet k { s.om.outlet k with misses := min 3 ((s.om.outlet k).misses + 1) }) := by
  have hjams : (s.om.outlet k).missJams = false := beq_eq_false_iff_ne.mpr h
  simp only [State.reportMiss, hjams, OutletRecord.miss_of_ne h]
  rfl

/-- R110, R127, R131: the third miss jams the outlet, which drops its ARMED commitments unless it was JAMMED before. -/
theorem State.reportMiss_jams {s : State} {k : OutletNo} {o : OutletRecord} (ho : s.om.outlet k = o) (h : o.misses = 2) :
    (∃ x, (s.reportMiss k).om.outlet k = { o with misses := 3, jam := true, state := .jammed, summary := x })
      ∧ (s.reportMiss k).om.counters.jams = s.om.counters.jams + 1 ∧ (s.reportMiss k).su = s.su
      ∧ (if o.state = .jammed then (s.reportMiss k).dc = s.dc ∧ (s.reportMiss k).st = s.st
        else s.DropsArmed (s.reportMiss k) k) := by
  have hjams : o.missJams = true := beq_iff_eq.mpr h
  have hmiss : o.miss = { o with misses := 3, jam := true } := by simp [OutletRecord.miss, h]
  have hreport : s.reportMiss k = (s.onOm fun m => (m.setOutlet k o.miss).tally fun c => { c with jams := c.jams + 1 }).rederive k
      false := by
    simp only [State.reportMiss, ho, hjams, if_true]
  obtain ⟨houtlet, hcount, hsu, hdrop⟩ := State.rederive_spec
    (s.onOm fun m => (m.setOutlet k o.miss).tally fun c => { c with jams := c.jams + 1 }) k false
    (o := { o with misses := 3, jam := true }) ((PerOutlet.get_set_self ..).trans hmiss) (new := .jammed) rfl
  rw [hreport]
  refine ⟨houtlet, hcount, hsu, ?_⟩
  by_cases hstate : o.state = .jammed
  · rw [if_pos hstate]
    rw [if_pos (.inl hstate.symm)] at hdrop
    exact hdrop
  · rw [if_neg hstate]
    rw [if_neg (by simpa [OutletState.drops, eq_comm] using hstate)] at hdrop
    exact ⟨hdrop.dc, hdrop.st⟩

/-- R106: a record shown once ARMED commitments have been dropped is one held before, with or without its commitment. -/
theorem State.DropsArmed.record {s t : State} {k : OutletNo} (h : s.DropsArmed t k) {n : Count} {x : BagRecord}
    (hx : t.st.record n = some x) : ∃ r, s.st.record n = some r ∧ (x = r ∨ x = r.uncommit) := by
  obtain ⟨c, hst⟩ := h.st
  have hrecord := SectionTracker.record_of_map (t := s.st) (u := t.st) (congrArg SectionTracker.records hst)
    (fun r => by split <;> rfl) n
  rw [hrecord] at hx
  obtain ⟨r, hr, rfl⟩ := Option.map_eq_some_iff.mp hx
  refine ⟨r, hr, ?_⟩
  split
  · exact .inr rfl
  · exact .inl rfl

/-- R110: what every miss reported leaves. -/
theorem State.reportMiss_keeps (s : State) (k : OutletNo) :
    (s.reportMiss k).su = s.su ∧ (s.reportMiss k).dc.counters.misses = s.dc.counters.misses
      ∧ (s.reportMiss k).dc.strokes = s.dc.strokes ∧ (s.reportMiss k).dc.armPoints = s.dc.armPoints
      ∧ (s.reportMiss k).dc.commitments.Sublist s.dc.commitments
      ∧ ∀ n x, (s.reportMiss k).st.record n = some x → ∃ r, s.st.record n = some r ∧ (x = r ∨ x = r.uncommit) := by
  have hsame : ∀ t : State, t.su = s.su → t.dc = s.dc → t.st = s.st →
      t.su = s.su ∧ t.dc.counters.misses = s.dc.counters.misses ∧ t.dc.strokes = s.dc.strokes
        ∧ t.dc.armPoints = s.dc.armPoints ∧ t.dc.commitments.Sublist s.dc.commitments
        ∧ ∀ n x, t.st.record n = some x → ∃ r, s.st.record n = some r ∧ (x = r ∨ x = r.uncommit) := by
    intro t hsu hdc hst
    rw [hdc, hst]
    exact ⟨hsu, rfl, rfl, rfl, List.Sublist.refl _, fun n x hx => ⟨x, hx, .inl rfl⟩⟩
  by_cases h : (s.om.outlet k).misses = 2
  · obtain ⟨-, -, hsu, hdrop⟩ := State.reportMiss_jams rfl h
    split at hdrop
    · obtain ⟨hdc, hst⟩ := hdrop
      exact hsame _ hsu hdc hst
    · refine ⟨hsu, ?_, ?_, ?_, ?_, fun n x hx => hdrop.record hx⟩ <;> rw [hdrop.dc]
      · rfl
      · rfl
      · rfl
      · exact List.filter_sublist
  · rw [State.reportMiss_counts h]
    exact hsame _ rfl rfl rfl

/-! ## Fire and deadline points -/

/-- R110: the node once the DC has dropped a commitment as missed and the ST has been told. -/
def State.missed (s : State) (c : Commitment) : State :=
  (s.onDc fun d => (d.release c.record).tally fun x => { x with misses := x.misses + 1 }).onSt
    (SectionTracker.notice c.record BagRecord.miss)

/-- R103: the node once a pusher has fired and the ST has been told. -/
def State.fired (s : State) (c : Commitment) : State :=
  (s.onDc fun d =>
      { d.setFired c.record with
        strokes := d.strokes.set c.outlet (some (s.config.outlet c.outlet).strokeMs) }.tally
        fun x => { x with fires := x.fires + 1 }).onSt
    (SectionTracker.notice c.record BagRecord.fire)

section
variable {s : State} {n : Count} {c : Commitment}

theorem State.takeFirePoint_none (h : s.dc.commitmentOf n = none) : s.takeFirePoint n = s := by
  simp only [State.takeFirePoint, h]

theorem State.takeDeadline_none (h : s.dc.commitmentOf n = none) : s.takeDeadline n = s := by
  simp only [State.takeDeadline, h]

/-- R103: neither a FIRED commitment nor a fire point ahead is taken. -/
theorem State.takeFirePoint_early (hc : s.dc.commitmentOf n = some c)
    (h : c.phase = .fired ∨ hasReached s.st.encoderCount c.fire = false) : s.takeFirePoint n = s := by
  have hearly : ¬ (c.phase = .armed ∧ hasReached s.st.encoderCount c.fire = true) := by
    rintro ⟨harmed, hreached⟩
    rcases h with hfired | hahead
    · rw [hfired] at harmed; cases harmed
    · rw [hahead] at hreached; cases hreached
  simp only [State.takeFirePoint, hc, if_neg hearly]

/-- R110: neither an ARMED commitment nor a deadline point ahead is taken. -/
theorem State.takeDeadline_early (hc : s.dc.commitmentOf n = some c)
    (h : c.phase = .armed ∨ hasReached s.st.encoderCount c.deadline = false) : s.takeDeadline n = s := by
  have hearly : ¬ (c.phase = .fired ∧ hasReached s.st.encoderCount c.deadline = true) := by
    rintro ⟨hfired, hreached⟩
    rcases h with harmed | hahead
    · rw [harmed] at hfired; cases hfired
    · rw [hahead] at hreached; cases hreached
  simp only [State.takeDeadline, hc, if_neg hearly]

theorem State.takeFirePoint_idle (hc : s.dc.commitmentOf n = some c) (harmed : c.phase = .armed)
    (hreached : hasReached s.st.encoderCount c.fire = true) (hidle : s.dc.strokes.get c.outlet = none) :
    s.takeFirePoint n = (s.fired c).takeDeadline n := by
  obtain rfl := DivertController.commitmentOf_record hc
  simp only [State.takeFirePoint, hc, if_pos (And.intro harmed hreached), hidle]
  rfl

theorem State.takeFirePoint_busy (hc : s.dc.commitmentOf n = some c) (harmed : c.phase = .armed)
    (hreached : hasReached s.st.encoderCount c.fire = true) {p : Nat} (hbusy : s.dc.strokes.get c.outlet = some p) :
    s.takeFirePoint n = s.dropBusy c := by
  simp only [State.takeFirePoint, hc, if_pos (And.intro harmed hreached), hbusy]

theorem State.takeDeadline_reached (hc : s.dc.commitmentOf n = some c) (hfired : c.phase = .fired)
    (hreached : hasReached s.st.encoderCount c.deadline = true) :
    s.takeDeadline n = ((s.missed c).reportMiss c.outlet).standbyTest := by
  simp only [State.takeDeadline, hc, if_pos (And.intro hfired hreached)]
  rfl

/-- R92, R110: no stroke timer is touched by a deadline point. -/
theorem State.takeDeadline_strokes (s : State) (n : Count) : (s.takeDeadline n).dc.strokes = s.dc.strokes := by
  unfold State.takeDeadline
  repeat' split
  · rename_i c _ _
    obtain ⟨-, -, hstrokes, -⟩ := (s.missed c).reportMiss_keeps c.outlet
    exact (congrArg DivertController.strokes (State.standbyTest_dc _)).trans hstrokes
  · rfl
  · rfl

/-- R103: the commitment of a pusher that has fired. -/
theorem State.fired_commitmentOf (hc : s.dc.commitmentOf c.record = some c) :
    (s.fired c).dc.commitmentOf c.record = some { c with phase := .fired } := by
  have hfired := s.dc.commitmentOf_setFired c.record
  rw [hc] at hfired
  exact hfired.trans (congrArg some (if_pos rfl))

end

end Sys2Proof.Machine

open Sys2Proof.Machine

/-- Settles O37: each point is an equation of its own (early, idle, busy, reached); a miss keeps what every report of one
keeps, and its count says whether it jams. -/
theorem pushTimed : Obligations.PushTimed := by
  unfold Obligations.PushTimed
  refine ⟨fun s n h => ?_, fun s n c r hrun hc hr => ?_, fun s k hrun => ⟨fun hidle => ?_, fun p hrunning => ?_⟩⟩
  · exact ⟨congrArg Host.Outcome.next (by rw [State.takeFirePoint_none h, ite_self]),
      congrArg Host.Outcome.next (by rw [State.takeDeadline_none h, ite_self])⟩
  · have hfire : exec (.firePoint n) s = .next (s.takeFirePoint n) := exec_command hrun (.fire n)
    have hdeadline : exec (.deadlinePoint n) s = .next (s.takeDeadline n) := exec_command hrun (.deadline n)
    obtain rfl := DivertController.commitmentOf_record hc
    refine ⟨fun h => by rw [hfire, State.takeFirePoint_early hc h],
      fun h => by rw [hdeadline, State.takeDeadline_early hc h], fun harmed hreached hidle => ?_,
      fun p harmed hreached hbusy => ?_, fun hfired hreached => ?_⟩
    · have hnotice : (s.fired c).st = s.trackerWith c.record BagRecord.fire := State.notice_eq_trackerWith hr _
      refine ⟨_, s.fired c, hfire, ?_, ?_, ?_, fun hahead => ?_⟩
      · rw [hfire, State.takeFirePoint_idle hc harmed hreached hidle]
        exact (exec_command (s := s.fired c) hrun (.deadline c.record)).symm
      · rw [State.fired, State.onSt]
        simp only [State.onDc, State.notice_eq_trackerWith hr]
        rfl
      · rw [State.takeFirePoint_idle hc harmed hreached hidle, State.pusherOutput, State.takeDeadline_strokes]
        exact congrArg Option.isSome (PerOutlet.get_set_self ..)
      · rw [State.takeFirePoint_idle hc harmed hreached hidle]
        refine State.takeDeadline_early (State.fired_commitmentOf hc) (.inr ?_)
        rw [hnotice]
        exact hahead
    · have hframe := s.takeFirePoint_readFrame c.record
      have hconfig := State.config_of_readFrame hframe
      have hinputs := State.inputs_of_readFrame hframe
      refine ⟨_, hfire, ?_⟩
      rw [State.takeFirePoint_busy hc harmed hreached hbusy] at hconfig hinputs ⊢
      refine ⟨State.standbyTest_dc _, (State.standbyTest_st _).trans (State.notice_eq_trackerWith hr _),
        State.standbyTest_ms _, State.standbyTest_su _, State.standbyTest_hlc _, hconfig, hinputs, fun hne => ?_⟩
      rw [State.dropBusy, State.standbyTest_of_ne (by exact hne)]
      exact ⟨rfl, rfl, rfl⟩
    · have hframe := s.takeDeadline_readFrame c.record
      have hconfig := State.config_of_readFrame hframe
      have hinputs := State.inputs_of_readFrame hframe
      have hms : (s.takeDeadline c.record).ms = s.ms := congrArg Prod.fst (s.takeDeadline_pointFrame c.record)
      have hmissed : (s.missed c).st = s.trackerWith c.record BagRecord.miss := State.notice_eq_trackerWith hr _
      have hrecord : (s.missed c).st.record c.record = some r.miss := by
        rw [hmissed]
        refine (SectionTracker.record_modify (f := BagRecord.miss) (fun _ => rfl) _).trans ?_
        rw [hr, Option.map_some, if_pos (SectionTracker.record_number hr)]
      obtain ⟨hsu, hmisses, hstrokes, harms, hsub, hkept⟩ := (s.missed c).reportMiss_keeps c.outlet
      refine ⟨_, hdeadline, ?_⟩
      rw [State.takeDeadline_reached hc hfired hreached] at hconfig hinputs hms ⊢
      simp only [State.standbyTest_dc, State.standbyTest_st, State.standbyTest_su, State.standbyTest_hlc,
        State.standbyTest_om_counters, OutletMonitor.outlet, State.standbyTest_outlets]
      refine ⟨hmisses, hstrokes, harms,
        DivertController.commitmentOf_sublist hsub (s.dc.commitmentOf_release c.record), fun x hx => ?_, hms, hsu,
        hconfig, hinputs, fun hne => ?_, fun htwo => ?_⟩
      · obtain ⟨y, hy, hx⟩ := hkept _ _ hx
        obtain rfl : r.miss = y := Option.some.inj (hrecord.symm.trans hy)
        rcases hx with rfl | rfl <;> rfl
      · have hcount := State.reportMiss_counts (s := s.missed c) (k := c.outlet) hne
        rw [hcount]
        refine ⟨rfl, hmissed, PerOutlet.get_set_self .., rfl, rfl, fun hstate => ?_⟩
        rw [State.standbyTest_of_ne (by exact hstate)]
        exact ⟨rfl, rfl, rfl, rfl, rfl⟩
      · obtain ⟨⟨x, houtlet⟩, hjams, -, hdrop⟩ := State.reportMiss_jams (s := s.missed c) (k := c.outlet) rfl htwo
        have houtlet : ((s.missed c).reportMiss c.outlet).om.outlets.get c.outlet = _ := houtlet
        rw [houtlet]
        refine ⟨rfl, rfl, rfl, hjams, fun hstate y hy => ?_⟩
        have hdrop := (if_neg (show ((s.missed c).om.outlet c.outlet).state ≠ .jammed from hstate)).mp hdrop
        rw [hdrop.dc] at hy
        simpa [imp_iff_not_or] using (List.mem_filter.mp hy).2
  · have hidle : ¬ (s.running && (s.dc.strokes.get k).isSome) = true := by simp [hidle]
    exact congrArg Host.Outcome.next (if_neg hidle)
  · have hrunning : (s.running && (s.dc.strokes.get k).isSome) = true := by simp [hrun, hrunning]
    refine ⟨_, congrArg Host.Outcome.next (if_pos hrunning), State.standbyTest_dc _, ?_, State.standbyTest_st _,
      State.standbyTest_ms _, State.standbyTest_su _, State.standbyTest_hlc _, State.standbyTest_config _,
      State.standbyTest_inputs _, State.standbyTest_windows _, fun hne => ?_⟩
    · rw [State.pusherOutput, State.standbyTest_dc]
      exact congrArg Option.isSome (PerOutlet.get_set_self ..)
    · rw [State.standbyTest_of_ne (by exact hne)]
      exact ⟨rfl, rfl, rfl⟩

end

section
/-! SUPPORT. The trailing edge at the induction eye (R22, R26, R54): the length set, the close point registered, and the
record withdrawn or tested against the expectation list. -/

open Sys2Proof

namespace Sys2Proof.Machine

/-! ## A record changed and found again -/

section
variable {t : SectionTracker} {n m : Count} {f g : BagRecord → BagRecord} {r : BagRecord}

theorem SectionTracker.record_modify_self (hf : ∀ r, (f r).number = r.number) (hr : t.record n = some r) :
    (t.modify n f).record n = some (f r) := by
  rw [SectionTracker.record_modify hf, hr, Option.map_some, if_pos (SectionTracker.record_number hr)]

theorem SectionTracker.record_modify_other (hf : ∀ r, (f r).number = r.number) (hm : m ≠ n) :
    (t.modify n f).record m = t.record m := by
  rw [SectionTracker.record_modify hf]
  cases h : t.record m with
  | none => rfl
  | some r => rw [Option.map_some, if_neg (by rw [SectionTracker.record_number h]; exact hm)]

theorem SectionTracker.modify_modify (hf : ∀ r, (f r).number = r.number) :
    (t.modify n f).modify n g = t.modify n fun r => g (f r) := by
  simp only [SectionTracker.modify, List.map_map]
  congr 1
  refine List.map_congr_left fun r _ => ?_
  by_cases h : r.number = n
  · simp [h, hf]
  · simp [h]

theorem SectionTracker.modify_id (hf : ∀ r, f r = r) : t.modify n f = t := by
  simp [SectionTracker.modify, hf]

/-- R18: a record of another number is found as before. -/
theorem SectionTracker.record_remove_other (hm : m ≠ n) : (t.remove n).record m = t.record m := by
  rw [SectionTracker.record, SectionTracker.record, SectionTracker.remove, List.find?_filter]
  congr 1
  funext r
  by_cases h : r.number = m
  · simp [h, hm]
  · simp [h]

end

/-! ## The close point (R54, R58) -/

/-- R22: a record's length is set. -/
def BagRecord.timed (l : Nat) (r : BagRecord) : BagRecord := { r with length := some l }

/-- R58: a record's read state after a close point. -/
def BagRecord.readAs (f : ReadState → ReadState) (r : BagRecord) : BagRecord := { r with readState := f r.readState }

/-- The records of a number changed, and the windows as they stand after the close point. -/
def State.edited (s : State) (n : Count) (g : BagRecord → BagRecord) (ws : List ScanWindow) : State :=
  { s with st := s.st.modify n g, trp := { s.trp with windows := ws } }

/-- R54: a window whose close point is registered. -/
def ScanWindow.closingAt (n point : Count) (w : ScanWindow) : ScanWindow :=
  if w.record = n then { w with close := some point } else w

theorem ScanWindow.closingAt_record (n point : Count) (w : ScanWindow) : (w.closingAt n point).record = w.record := by
  unfold ScanWindow.closingAt; split <;> rfl

/-- R54, R58: what a close point does to a record's read state, by `f`, and to the windows, which become `ws`. -/
structure State.ClosePoint (s : State) (n point : Count) (tags : List Nat) (f : ReadState → ReadState)
    (ws : List ScanWindow) : Prop where
  others : ws.filter (fun w => w.record != n) = s.trp.windows.filter fun w => w.record != n
  absent : s.trp.window n = none → ws = s.trp.windows
  closes : (s.trp.window n).isSome = true → hasReached s.st.encoderCount point = true →
    ws = s.trp.windows.filter (fun w => w.record != n) ∧ ∀ x, f x = readStateOf s.config.readerFitted tags
  waits : (s.trp.window n).isSome = true → hasReached s.st.encoderCount point = false →
    ws = s.trp.windows.map (ScanWindow.closingAt n point) ∧ ∀ x, f x = x

section
variable {s : State} {n point : Count}

/-- R54: the node with a record's close point registered. -/
def State.closing (s : State) (n point : Count) : State :=
  s.onTrp fun t => { t with windows := t.windows.map (ScanWindow.closingAt n point) }

theorem State.closing_window (s : State) (n point : Count) :
    (s.closing n point).trp.window n = (s.trp.window n).map fun w => { w with close := some point } := by
  have hlook : (s.closing n point).trp.window n =
    (s.trp.windows.map (ScanWindow.closingAt n point)).find? fun w => w.record == n := rfl
  rw [hlook, List.find?_map]
  simp only [Function.comp_def, ScanWindow.closingAt_record]
  change (s.trp.window n).map _ = _
  cases h : s.trp.window n with
  | none => rfl
  | some w =>
    have hw : w.record = n := by simpa using List.find?_some h
    simp [ScanWindow.closingAt, hw]

theorem filter_closingAt (ws : List ScanWindow) :
    (ws.map (ScanWindow.closingAt n point)).filter (fun w => w.record != n) = ws.filter fun w => w.record != n := by
  rw [List.filter_map]
  simp only [Function.comp_def, ScanWindow.closingAt_record]
  conv_rhs => rw [← List.map_id (ws.filter _)]
  refine List.map_congr_left fun w hw => if_neg ?_
  simpa using (List.mem_filter.mp hw).2

theorem closingAt_absent (h : s.trp.window n = none) :
    s.trp.windows.map (ScanWindow.closingAt n point) = s.trp.windows := by
  conv_rhs => rw [← List.map_id s.trp.windows]
  exact List.map_congr_left fun w hw => if_neg (by simpa using List.find?_eq_none.mp h w hw)

theorem State.takeClosePoint_absent (h : s.trp.window n = none) : s.takeClosePoint n = s := by
  simp only [State.takeClosePoint, h]

theorem State.takeClosePoint_registered {w : ScanWindow} (h : s.trp.window n = some { w with close := some point }) :
    s.takeClosePoint n = if hasReached s.st.encoderCount point then s.closeWindowByTags n else s := by
  simp only [State.takeClosePoint, h]

/-- R58: the window of a record held closes. -/
theorem State.closeWindowByTags_of_record {r : BagRecord} (hr : s.st.record n = some r) :
    s.closeWindowByTags n = s.edited n (BagRecord.readAs fun _ => readStateOf s.config.readerFitted r.tags)
      (s.trp.windows.filter fun w => w.record != n) := by
  have htags : s.st.tagsOf n = r.tags := by rw [SectionTracker.tagsOf, hr]; rfl
  rw [State.closeWindowByTags, State.closeWindow, htags]
  simp only [State.onSt, State.onTrp, SectionTracker.notice_of_record hr]
  rfl

/-- R54: a close point registered, and taken at once if reached. -/
theorem State.registerClosePoint_spec {r : BagRecord} (hr : s.st.record n = some r) (leading : Count) (l : Nat) :
    ∃ f ws, s.registerClosePoint n leading l = s.edited n (BagRecord.readAs f) ws
      ∧ s.ClosePoint n (closePointOf s.config leading l) r.tags f ws := by
  generalize hpoint : closePointOf s.config leading l = point
  have hregister : s.registerClosePoint n leading l = (s.closing n point).takeClosePoint n := by
    rw [← hpoint]
    rfl
  have hstay : ∀ ws, { s with trp := { s.trp with windows := ws } } =
      s.edited n (BagRecord.readAs id) ws := fun ws => by
    rw [State.edited, s.st.modify_id (f := BagRecord.readAs id) fun _ => rfl]
  have hwindow := s.closing_window n point
  rw [hregister]
  cases hw : s.trp.window n with
  | none =>
    rw [hw] at hwindow
    refine ⟨id, s.trp.windows, ?_, rfl, fun _ => rfl, fun h => ?_, fun h => ?_⟩
    · rw [State.takeClosePoint_absent hwindow, ← hstay, State.closing, State.onTrp, closingAt_absent hw]
    · rw [hw] at h; cases h
    · rw [hw] at h; cases h
  | some w =>
    rw [hw] at hwindow
    rw [State.takeClosePoint_registered hwindow]
    cases hreached : hasReached s.st.encoderCount point with
    | true =>
      refine ⟨fun _ => readStateOf s.config.readerFitted r.tags, s.trp.windows.filter fun w => w.record != n, ?_, ?_,
        fun h => ?_, fun _ _ => ⟨rfl, fun _ => rfl⟩, fun _ h => ?_⟩
      · refine (if_pos hreached).trans ?_
        rw [State.closeWindowByTags_of_record (s := s.closing n point) hr]
        exact congrArg (s.edited n _) (filter_closingAt _)
      · simp [List.filter_filter]
      · rw [hw] at h; cases h
      · rw [hreached] at h; cases h
    | false =>
      refine ⟨id, _, ?_, filter_closingAt _, fun h => ?_, fun _ h => ?_, fun _ _ => ⟨rfl, fun _ => rfl⟩⟩
      · rw [if_neg (by simp [hreached, State.closing, State.onTrp])]
        exact hstay _
      · rw [hw] at h; cases h
      · rw [hreached] at h; cases h

end

/-- R7, R54: the point one tail behind the count is reached where the tail is 0, and ahead of it where it is not. -/
theorem closePointOf_trailing (c : NodeConfig) (count leading : Count) :
    closePointOf c leading (count - leading).toNat = count + BitVec.ofNat 16 c.scanTail := by
  rw [closePointOf, BitVec.ofNat_toNat, BitVec.setWidth_eq]
  bv_omega

theorem hasReached_add_zero (count : Count) : hasReached count (count + BitVec.ofNat 16 0) = true := by
  simp [hasReached]

theorem hasReached_add_tail (count : Count) {tail : Nat} (hlow : 1 ≤ tail) (hhigh : tail ≤ 2000) :
    hasReached count (count + BitVec.ofNat 16 tail) = false := by
  simp only [hasReached, decide_eq_false_iff_not]
  bv_omega

/-! ## The trailing edge of a record (R22) -/

/-- R22, R26, R54: a record once its length, its close point and, past the merge limit, its reason have been set. -/
def BagRecord.trailedAs (c : NodeConfig) (l : Nat) (f : ReadState → ReadState) (r : BagRecord) : BagRecord :=
  { r with
    length := some l
    readState := f r.readState
    reason := if c.mergeLimit < l then r.reason.or (some .gap) else r.reason }

section
variable {s : State} {n : Count} {r : BagRecord}

theorem State.edited_edited {f g : BagRecord → BagRecord} {ws vs : List ScanWindow} (hf : ∀ r, (f r).number = r.number) :
    (s.edited n f ws).edited n g vs = s.edited n (fun r => g (f r)) vs := by
  simp only [State.edited, SectionTracker.modify_modify hf]

/-- R22: a length below the minimum withdraws the record; any other is tested against the expectation list. -/
theorem State.trailingEdge_eq (hr : s.st.record n = some r) {l : Nat}
    (hl : l = (s.st.encoderCount - r.leading).toNat) :
    ∃ f ws, s.ClosePoint n (s.st.encoderCount + BitVec.ofNat 16 s.config.scanTail) r.tags f ws
      ∧ (l < s.config.minLength → ∃ g : BagRecord → BagRecord, (∀ r, (g r).number = r.number) ∧
          s.trailingEdge n r.leading = (s.edited n g ws).withdraw n)
      ∧ (s.config.minLength ≤ l → s.trailingEdge n r.leading =
          (s.edited n (BagRecord.trailedAs s.config l f) ws).bindIfAwaiting n l) := by
  have hmeasured : s.onSt (SectionTracker.modify n fun r => { r with length := some l }) =
      s.edited n (BagRecord.timed l) s.trp.windows := rfl
  have hlength : (s.edited n (BagRecord.timed l) s.trp.windows).st.record n = some (r.timed l) :=
    SectionTracker.record_modify_self (fun _ => rfl) hr
  obtain ⟨f, ws, hregister, hclose⟩ := State.registerClosePoint_spec hlength r.leading l
  rw [State.edited_edited (f := BagRecord.timed l) fun _ => rfl] at hregister
  rw [hl, closePointOf_trailing] at hclose
  refine ⟨f, ws, ⟨hclose.others, hclose.absent, hclose.closes, hclose.waits⟩, fun hshort => ?_, fun hlong => ?_⟩
  · refine ⟨fun r => (r.timed l).readAs f, fun _ => rfl, ?_⟩
    simp only [State.trailingEdge, ← hl, hmeasured, hregister, if_pos hshort]
  · simp only [State.trailingEdge, ← hl, hmeasured, hregister, if_neg (Nat.not_lt.mpr hlong)]
    by_cases hmerged : s.config.mergeLimit < l
    · have hreason : ∀ u : State, u.onSt (SectionTracker.modify n (BagRecord.giveReason .gap)) =
          u.edited n (BagRecord.giveReason .gap) u.trp.windows := fun _ => rfl
      have htrailed : (fun r : BagRecord => ((r.timed l).readAs f).giveReason .gap) = BagRecord.trailedAs s.config l f :=
        funext fun r => by simp [BagRecord.giveReason_eq, BagRecord.timed, BagRecord.readAs, BagRecord.trailedAs, hmerged]
      rw [if_pos hmerged, hreason, State.edited_edited (f := fun r => (r.timed l).readAs f) fun _ => rfl, htrailed]
      rfl
    · have htrailed : (fun r : BagRecord => (r.timed l).readAs f) = BagRecord.trailedAs s.config l f :=
        funext fun r => by simp [BagRecord.timed, BagRecord.readAs, BagRecord.trailedAs, hmerged]
      rw [if_neg hmerged, htrailed]

/-- R22, R39: the withdrawal of a record, block by block. -/
theorem State.withdraw_spec (s : State) (n : Count) :
    (s.withdraw n).st = { s.trackerWithout n with
        counters := { (s.trackerWithout n).counters with withdrawn := s.st.counters.withdrawn + 1 } }
      ∧ (s.withdraw n).trp.windows = s.trp.windows.filter (fun w => w.record != n)
      ∧ (s.withdraw n).dc = s.dc.forget n ∧ (s.withdraw n).ms = s.ms ∧ (s.withdraw n).hlc = s.hlc
      ∧ (s.withdraw n).su = s.su ∧ (s.withdraw n).config = s.config ∧ (s.withdraw n).inputs = s.inputs := by
  have hnone : (s.onSt fun t => (t.remove n).tally fun c => { c with withdrawn := c.withdrawn + 1 }).st.record n = none :=
    s.st.remove_record n
  obtain ⟨hms, -, hsu, hhlc, -, hconfig, hinputs, -⟩ :=
    (s.onSt fun t => (t.remove n).tally fun c => { c with withdrawn := c.withdrawn + 1 }).endRecord_frame n
  simp only [State.withdraw, State.standbyTest_st, State.standbyTest_windows, State.standbyTest_dc,
    State.standbyTest_ms, State.standbyTest_hlc, State.standbyTest_su, State.standbyTest_config,
    State.standbyTest_inputs, State.endRecord_st hnone, State.endRecord_trp, State.endRecord_dc, hms, hsu, hhlc, hconfig,
    hinputs]
  exact ⟨rfl, rfl, rfl, rfl, rfl, rfl, rfl, rfl⟩

end

end Sys2Proof.Machine
end

section
/-! SUPPORT. The trailing-edge binding (R26): the oldest expectation, or after a skip the second, or none. -/

open Sys2Proof

namespace Sys2Proof.Machine

/-! ## What a binding keeps (R29 to R31) -/

theorem length_mergeTags (ts held : List Nat) : held.length ≤ (mergeTags held ts).1.length := by
  induction ts generalizing held with
  | nil => exact Nat.le_refl _
  | cons t ts ih =>
    unfold mergeTags
    split
    · exact ih held
    · split
      · exact Nat.le_trans (by simp) (ih (held ++ [t]))
      · exact ih held

/-- R29, R58: a merge keeps the read state that a window closed by the tags gives. -/
theorem mergedReadState_closed (r : BagRecord) {fitted : Bool} (hr : r.readState = readStateOf fitted r.tags) (ts : List Nat) :
    mergedReadState r (mergeTags r.tags ts).1 = readStateOf fitted (mergeTags r.tags ts).1 := by
  have hlength := length_mergeTags ts r.tags
  rw [mergedReadState_eq, hr]
  cases htags : r.tags with
  | nil =>
    cases (mergeTags [] ts).1 with
    | nil => simp
    | cons => cases fitted <;> simp [readStateOf]
  | cons x xs =>
    rw [htags] at hlength
    cases hmerged : (mergeTags (x :: xs) ts).1 with
    | nil => rw [hmerged] at hlength; simp at hlength
    | cons => simp [readStateOf]

/-- R29: a record as it was, or as a binding leaves it. -/
def BagRecord.BoundOrSame (c : NodeConfig) (q r : BagRecord) : Prop := r = q ∨ ∃ e, r = q.bind c e

section
variable {c : NodeConfig} {q r : BagRecord}

/-- R29, R31: neither the length nor the place on the belt, neither the commitment nor a reason given. -/
theorem BagRecord.BoundOrSame.keeps (h : q.BoundOrSame c r) :
    r.length = q.length ∧ r.leading = q.leading ∧ r.commitment = q.commitment
      ∧ (∀ x, q.reason = some x → r.reason = some x) ∧ (q.readState = .windowOpen → r.readState = .windowOpen)
      ∧ ∀ fitted, q.readState = readStateOf fitted q.tags → r.readState = readStateOf fitted r.tags := by
  rcases h with rfl | ⟨e, rfl⟩
  · exact ⟨rfl, rfl, rfl, fun _ h => h, fun h => h, fun _ h => h⟩
  · rw [BagRecord.bind_eq]
    refine ⟨rfl, rfl, rfl, fun x h => ?_, fun h => ?_, fun fitted h => mergedReadState_closed q h e.tags⟩
    · simp [h]
    · simp [mergedReadState_eq, h]

end

/-! ## The binding (R26) -/

section
variable {s : State} {n : Count} {q : BagRecord} {l : Nat}

/-- R26: the cases in which no expectation binds. -/
def State.NoneBinds (s : State) (q : BagRecord) (l : Nat) : Prop :=
  q.binding ≠ .awaiting ∨ s.st.expectations = []
    ∨ ∃ e rest, s.st.expectations = e :: rest ∧ withinTolerance s.config.tolerance e.length l = false
        ∧ (s.config.mergeLimit < l ∨ rest = []
          ∨ ∃ e2 rest2, rest = e2 :: rest2 ∧ withinTolerance s.config.tolerance e2.length l = false)

theorem State.bindIfAwaiting_none (hq : s.st.record n = some q) (h : s.NoneBinds q l) : s.bindIfAwaiting n l = s := by
  simp only [State.bindIfAwaiting, hq]
  rcases h with hbound | hempty | ⟨e, rest, hlist, hfirst, hrest⟩
  · exact if_neg hbound
  · simp only [State.bindAtTrailing, hempty, ite_self]
  · simp only [State.bindAtTrailing, hlist, hfirst, Bool.false_eq_true, if_false]
    rcases hrest with hmerged | rfl | ⟨e2, rest2, rfl, hsecond⟩
    · rw [if_pos hmerged, ite_self]
    · simp only [ite_self]
    · simp only [hsecond, Bool.false_eq_true, if_false, ite_self]

/-- R26: the oldest expectation binds. -/
theorem State.bindIfAwaiting_first (hq : s.st.record n = some q) (hawaiting : q.binding = .awaiting) {e : Expectation}
    {rest : List Expectation} (hlist : s.st.expectations = e :: rest)
    (hfirst : withinTolerance s.config.tolerance e.length l = true) :
    s.bindIfAwaiting n l =
      { s with st := { s.st with expectations := rest }.modify n (BagRecord.bind s.config e) } := by
  simp only [State.bindIfAwaiting, hq, if_pos hawaiting, State.bindAtTrailing, hlist, hfirst, if_true]
  rfl

/-- R26: the oldest expectation is lost and the second binds. -/
theorem State.bindIfAwaiting_second (hq : s.st.record n = some q) (hawaiting : q.binding = .awaiting) {e e2 : Expectation}
    {rest : List Expectation} (hlist : s.st.expectations = e :: e2 :: rest)
    (hfirst : withinTolerance s.config.tolerance e.length l = false) (hmerge : l ≤ s.config.mergeLimit)
    (hsecond : withinTolerance s.config.tolerance e2.length l = true) :
    s.bindIfAwaiting n l = { s with
      st := { s.st with
        expectations := rest
        counters := { s.st.counters with expectationsLost := s.st.counters.expectationsLost + 1 } }.modify n
          (BagRecord.bind s.config e2)
      hlc := s.hlc.enqueue ⟨0, .lost (e.loss s.config)⟩
      su := if s.config.isStrayNode then s.su.withReport (.lost e.node s.config.address) e.tags (some e.lap) else s.su
      nc := { s.nc with logMark := s.nc.logMark || s.config.isStrayNode } } := by
  simp only [State.bindIfAwaiting, hq, if_pos hawaiting, State.bindAtTrailing, hlist, hfirst, hsecond, if_true,
    Bool.false_eq_true, if_false, if_neg (Nat.not_lt.mpr hmerge), State.reportLost_eq]
  rfl

/-- R26: one of the three comes to pass. -/
theorem State.bindIfAwaiting_cases (s : State) (q : BagRecord) (l : Nat) :
    s.NoneBinds q l
      ∨ (q.binding = .awaiting ∧ ∃ e rest, s.st.expectations = e :: rest
          ∧ withinTolerance s.config.tolerance e.length l = true)
      ∨ (q.binding = .awaiting ∧ ∃ e e2 rest, s.st.expectations = e :: e2 :: rest
          ∧ withinTolerance s.config.tolerance e.length l = false ∧ l ≤ s.config.mergeLimit
          ∧ withinTolerance s.config.tolerance e2.length l = true) := by
  by_cases hawaiting : q.binding = .awaiting
  · cases hlist : s.st.expectations with
    | nil => exact .inl (.inr (.inl hlist))
    | cons e rest =>
      cases hfirst : withinTolerance s.config.tolerance e.length l with
      | true => exact .inr (.inl ⟨hawaiting, e, rest, rfl, hfirst⟩)
      | false =>
        by_cases hmerged : s.config.mergeLimit < l
        · exact .inl (.inr (.inr ⟨e, rest, hlist, hfirst, .inl hmerged⟩))
        · cases rest with
          | nil => exact .inl (.inr (.inr ⟨e, [], hlist, hfirst, .inr (.inl rfl)⟩))
          | cons e2 rest =>
            cases hsecond : withinTolerance s.config.tolerance e2.length l with
            | true => exact .inr (.inr ⟨hawaiting, e, e2, rest, rfl, hfirst, Nat.not_lt.mp hmerged, hsecond⟩)
            | false => exact .inl (.inr (.inr ⟨e, _, hlist, hfirst, .inr (.inr ⟨e2, rest, rfl, hsecond⟩)⟩))
  · exact .inl (.inl hawaiting)

/-- R26: what the trailing-edge binding leaves alone, and what it may make of the record. -/
theorem State.bindIfAwaiting_spec (hq : s.st.record n = some q) (l : Nat) :
    (∃ r, (s.bindIfAwaiting n l).st.record n = some r ∧ q.BoundOrSame s.config r)
      ∧ (∀ m, m ≠ n → (s.bindIfAwaiting n l).st.record m = s.st.record m)
      ∧ (s.bindIfAwaiting n l).st.passage = s.st.passage ∧ (s.bindIfAwaiting n l).ms = s.ms
      ∧ (s.bindIfAwaiting n l).config = s.config ∧ (s.bindIfAwaiting n l).inputs = s.inputs
      ∧ (s.bindIfAwaiting n l).dc = s.dc ∧ (s.bindIfAwaiting n l).om = s.om ∧ (s.bindIfAwaiting n l).trp = s.trp := by
  have hnumber : ∀ (e : Expectation) (r : BagRecord), (r.bind s.config e).number = r.number := fun e r =>
    (BagRecord.bind_keeps s.config e r).1
  rcases s.bindIfAwaiting_cases q l with h | ⟨hawaiting, e, rest, hlist, hfirst⟩
    | ⟨hawaiting, e, e2, rest, hlist, hfirst, hmerge, hsecond⟩
  · rw [State.bindIfAwaiting_none hq h]
    exact ⟨⟨q, hq, .inl rfl⟩, fun _ _ => rfl, rfl, rfl, rfl, rfl, rfl, rfl, rfl⟩
  · rw [State.bindIfAwaiting_first hq hawaiting hlist hfirst]
    exact ⟨⟨_, SectionTracker.record_modify_self (hnumber e) hq, .inr ⟨e, rfl⟩⟩,
      fun m hm => SectionTracker.record_modify_other (hnumber e) hm, rfl, rfl, rfl, rfl, rfl, rfl, rfl⟩
  · rw [State.bindIfAwaiting_second hq hawaiting hlist hfirst hmerge hsecond]
    exact ⟨⟨_, SectionTracker.record_modify_self (hnumber e2) hq, .inr ⟨e2, rfl⟩⟩,
      fun m hm => SectionTracker.record_modify_other (hnumber e2) hm, rfl, rfl, rfl, rfl, rfl, rfl, rfl⟩

end

/-! ## A cleared edge (R22) -/

section
variable {s : State} {n : Count}

theorem State.inductionCleared_ignored (h : s.st.passage = .ignored) :
    s.inductionCleared = s.onSt fun t => { t with passage := .none } := by
  simp only [State.inductionCleared, h]

theorem State.inductionCleared_unmatched
    (h : s.st.passage = .none ∨ ∃ n, s.st.passage = .ofRecord n ∧ s.st.record n = none) :
    s.inductionCleared = s.onSt fun t => { t with passage := .none }.unmatched := by
  rcases h with hnone | ⟨n, hpassage, hrecord⟩
  · simp only [State.inductionCleared, hnone]
    rfl
  · simp only [State.inductionCleared, hpassage, hrecord]
    rfl

theorem State.inductionCleared_of_record (h : s.st.passage = .ofRecord n) {r : BagRecord} (hr : s.st.record n = some r) :
    s.inductionCleared = (s.onSt fun t => { t with passage := .none }).trailingEdge n r.leading := by
  simp only [State.inductionCleared, h, hr]

/-- R22, R39: a record withdrawn after a change of its fields and its windows. -/
theorem State.withdraw_edited_spec {g : BagRecord → BagRecord} {ws : List ScanWindow} (hg : ∀ r, (g r).number = r.number)
    (hws : ws.filter (fun w => w.record != n) = s.trp.windows.filter fun w => w.record != n) :
    (∀ m, m ≠ n → ((s.edited n g ws).withdraw n).st.record m = s.st.record m)
      ∧ ((s.edited n g ws).withdraw n).st.records.map BagRecord.number =
          (s.st.records.map BagRecord.number).filter (· != n)
      ∧ ((s.edited n g ws).withdraw n).trp.windows.map ScanWindow.record =
          (s.trp.windows.map ScanWindow.record).filter (· != n) := by
  obtain ⟨hst, hwindows, -⟩ := (s.edited n g ws).withdraw_spec n
  have hrecord : ∀ m, ((s.edited n g ws).withdraw n).st.record m = ((s.st.modify n g).remove n).record m := by
    rw [hst]
    exact fun _ => rfl
  refine ⟨fun m hm => ?_, ?_, ?_⟩
  · rw [hrecord, SectionTracker.record_remove_other hm, SectionTracker.record_modify_other hg hm]
  · have hnumbers := numbers_map (rs := s.st.records) (number_ite (n := n) hg)
    rw [hst, ← hnumbers]
    exact numbers_filter _ n
  · rw [hwindows, List.filter_map]
    exact congrArg (List.map ScanWindow.record) hws

/-- R22, R39: the trailing edge of a record too short. -/
theorem State.trailingEdge_short {r : BagRecord} (hr : s.st.record n = some r) {l : Nat}
    (hl : l = (s.st.encoderCount - r.leading).toNat) (hshort : l < s.config.minLength) :
    let t := s.trailingEdge n r.leading
    t.st.passage = s.st.passage ∧ t.ms = s.ms ∧ t.config = s.config ∧ t.inputs = s.inputs
      ∧ (∀ m, m ≠ n → t.st.record m = s.st.record m)
      ∧ t.st.records.map BagRecord.number = (s.st.records.map BagRecord.number).filter (· != n)
      ∧ t.st.counters.withdrawn = s.st.counters.withdrawn + 1 ∧ t.st.expectations = s.st.expectations
      ∧ t.trp.windows.map ScanWindow.record = (s.trp.windows.map ScanWindow.record).filter (· != n)
      ∧ t.dc = s.dc.forget n ∧ t.hlc = s.hlc ∧ t.su = s.su := by
  obtain ⟨f, ws, hclose, htrailing, -⟩ := State.trailingEdge_eq hr hl
  obtain ⟨g, hg, htrailing⟩ := htrailing hshort
  obtain ⟨hothers, hnumbers, hwindows⟩ := State.withdraw_edited_spec (s := s) hg hclose.others
  obtain ⟨hst, -, hdc, hms, hhlc, hsu, hconfig, hinputs⟩ := (s.edited n g ws).withdraw_spec n
  simp only [htrailing]
  exact ⟨by rw [hst]; rfl, hms, hconfig, hinputs, hothers, hnumbers,
    by rw [hst]; rfl, by rw [hst]; rfl, hwindows, hdc, hhlc, hsu⟩

/-- R22, R26, R29: the trailing edge of a record long enough: the record as it is tested and what becomes of it, the window,
and what the three outcomes of the test leave. -/
theorem State.trailingEdge_long {r : BagRecord} (hr : s.st.record n = some r) {l : Nat}
    (hl : l = (s.st.encoderCount - r.leading).toNat) (hlong : s.config.minLength ≤ l) :
    ∃ f r', let t := s.trailingEdge n r.leading
      t.st.record n = some r' ∧ (r.trailedAs s.config l f).BoundOrSame s.config r'
      ∧ (∀ m, m ≠ n → t.st.record m = s.st.record m) ∧ t.st.passage = s.st.passage ∧ t.ms = s.ms ∧ t.config = s.config
      ∧ t.inputs = s.inputs ∧ t.dc = s.dc ∧ t.om = s.om
      ∧ (s.trp.window n = none → t.trp = s.trp)
      ∧ ((s.trp.window n).isSome = true → s.config.scanTail = 0 →
          t.trp = { s.trp with windows := s.trp.windows.filter fun w => w.record != n }
            ∧ ∀ x, f x = readStateOf s.config.readerFitted r.tags)
      ∧ ((s.trp.window n).isSome = true → 1 ≤ s.config.scanTail → s.config.scanTail ≤ 2000 →
          t.trp = { s.trp with windows := s.trp.windows.map (ScanWindow.closingAt n (closePointOf s.config r.leading l)) }
            ∧ ∀ x, f x = x)
      ∧ (s.NoneBinds r l → r' = r.trailedAs s.config l f ∧ t.st.expectations = s.st.expectations ∧ t.hlc = s.hlc
          ∧ t.su = s.su)
      ∧ (∀ e rest, r.binding = .awaiting → s.st.expectations = e :: rest →
          withinTolerance s.config.tolerance e.length l = true →
            r' = (r.trailedAs s.config l f).bind s.config e ∧ t.st.expectations = rest ∧ t.hlc = s.hlc ∧ t.su = s.su)
      ∧ (∀ e e2 rest, r.binding = .awaiting → s.st.expectations = e :: e2 :: rest →
          withinTolerance s.config.tolerance e.length l = false → l ≤ s.config.mergeLimit →
          withinTolerance s.config.tolerance e2.length l = true →
            r' = (r.trailedAs s.config l f).bind s.config e2 ∧ t.st.expectations = rest
              ∧ t.st.counters.expectationsLost = s.st.counters.expectationsLost + 1
              ∧ t.hlc = s.hlc.enqueue ⟨0, .lost (e.loss s.config)⟩) := by
  obtain ⟨f, ws, hclose, -, htrailing⟩ := State.trailingEdge_eq hr hl
  have hpoint : closePointOf s.config r.leading l = s.st.encoderCount + BitVec.ofNat 16 s.config.scanTail := by
    rw [hl, closePointOf_trailing]
  have hnumber : ∀ r : BagRecord, (r.trailedAs s.config l f).number = r.number := fun _ => rfl
  have htested : (s.edited n (BagRecord.trailedAs s.config l f) ws).st.record n = some (r.trailedAs s.config l f) :=
    SectionTracker.record_modify_self hnumber hr
  obtain ⟨⟨r', hr', hbound⟩, hothers, hpassage, hms, hconfig, hinputs, hdc, hom, htrp⟩ :=
    State.bindIfAwaiting_spec htested l
  have hbind : ∀ e : Expectation, ∀ r : BagRecord, (r.bind s.config e).number = r.number := fun e r =>
    (BagRecord.bind_keeps s.config e r).1
  refine ⟨f, r', ?_⟩
  simp only [htrailing hlong]
  refine ⟨hr', hbound, fun m hm => (hothers m hm).trans (SectionTracker.record_modify_other hnumber hm), hpassage, hms,
    hconfig, hinputs, hdc, hom, fun hw => ?_, fun hw htail => ?_, fun hw hlow hhigh => ?_, fun h => ?_,
    fun e rest hawaiting hlist hfirst => ?_, fun e e2 rest hawaiting hlist hfirst hmerge hsecond => ?_⟩
  · rw [htrp, State.edited, hclose.absent hw]
  · obtain ⟨hws, hread⟩ := hclose.closes hw (by rw [htail]; exact hasReached_add_zero _)
    exact ⟨by rw [htrp, State.edited, hws], hread⟩
  · obtain ⟨hws, hread⟩ := hclose.waits hw (hasReached_add_tail _ hlow hhigh)
    exact ⟨by rw [htrp, State.edited, hws, hpoint], hread⟩
  · have hnone := State.bindIfAwaiting_none htested (l := l) h
    rw [hnone] at hr' ⊢
    exact ⟨Option.some.inj (hr'.symm.trans htested), rfl, rfl, rfl⟩
  · have hone := State.bindIfAwaiting_first htested hawaiting hlist hfirst
    rw [hone] at hr' ⊢
    exact ⟨Option.some.inj (hr'.symm.trans (SectionTracker.record_modify_self (hbind e) htested)), rfl, rfl, rfl⟩
  · have htwo := State.bindIfAwaiting_second htested hawaiting hlist hfirst hmerge hsecond
    rw [htwo] at hr' ⊢
    exact ⟨Option.some.inj (hr'.symm.trans (SectionTracker.record_modify_self (hbind e2) htested)), rfl, rfl, rfl⟩

theorem BagRecord.trailedAs_reason {c : NodeConfig} {l : Nat} (h : c.mergeLimit < l) (f : ReadState → ReadState)
    (r : BagRecord) : (r.trailedAs c l f).reason = some (r.reason.getD .gap) := by
  cases hheld : r.reason <;> simp [BagRecord.trailedAs, h, hheld]

end

end Sys2Proof.Machine

open Sys2Proof.Machine

/-- Settles O28: a passage's record is withdrawn, or has its length, close point and reason set and is then tested against the
expectation list; what the record becomes is what the test leaves it or a binding makes of it. -/
theorem trailingEdgeBinds : Obligations.TrailingEdgeBinds := by
  unfold Obligations.TrailingEdgeBinds
  rintro s u samples f hrun hheard rfl
  have hexec : exec (.inductionClearedEdge samples) s = .next (State.putInduction f s).inductionCleared := by
    rw [exec_inductionClearedEdge hrun, hheard, State.heard_event]
  refine ⟨fun h => ?_, fun h => ?_, fun n r l hpassage hr hl => ?_⟩
  · exact hexec.trans (congrArg Host.Outcome.next (State.inductionCleared_ignored (s := State.putInduction f s) h))
  · exact hexec.trans (congrArg Host.Outcome.next (State.inductionCleared_unmatched (s := State.putInduction f s) h))
  · rw [State.inductionCleared_of_record (s := State.putInduction f s) hpassage hr] at hexec
    refine ⟨_, hexec, ?_⟩
    by_cases hmin : l < s.config.minLength
    · obtain ⟨hpassage, hms, hconfig, hinputs, hothers, hnumbers, hwithdrawn, hlist, hwindows, hdc, hhlc, hsu⟩ :=
        State.trailingEdge_short (s := (State.putInduction f s).onSt fun t => { t with passage := .none }) hr hl hmin
      exact ⟨hpassage, hms, hconfig, hinputs, hothers,
        fun _ => ⟨hnumbers, hwithdrawn, hlist, hwindows, congrArg DivertController.armPoints hdc,
          congrArg DivertController.commitments hdc, hhlc, hsu⟩,
        fun hlong => absurd hmin (Nat.not_lt.mpr hlong)⟩
    · obtain ⟨g, r', hr', hbound, hothers, hpassage, hms, hconfig, hinputs, hdc, hom, habsent, hcloses, hwaits, hnone,
          hfirst, hsecond⟩ := State.trailingEdge_long
        (s := (State.putInduction f s).onSt fun t => { t with passage := .none }) hr hl (Nat.not_lt.mp hmin)
      obtain ⟨hlength, hleading, hcommitment, hreason, hopen, hclosed⟩ := hbound.keeps
      refine ⟨hpassage, hms, hconfig, hinputs, hothers, fun h => absurd h hmin,
        fun _ => ⟨r', hr', hlength, hleading, hcommitment, hdc, hom,
          fun hmerged => hreason _ (BagRecord.trailedAs_reason hmerged g r), habsent, fun w hw htail => ?_,
          fun w hw hlow hhigh => ?_, fun h => ?_, fun e rest hawaiting hlist htolerance => ?_,
          fun e e2 rest hawaiting hlist hskipped hmerge htolerance => ?_⟩⟩
      · obtain ⟨htrp, hread⟩ := hcloses (Option.isSome_of_eq_some hw) htail
        exact ⟨htrp, (hclosed _ (hread _)).trans (by rw [readStateOf_eq, ite_not]; rfl)⟩
      · obtain ⟨htrp, hread⟩ := hwaits (Option.isSome_of_eq_some hw) hlow hhigh
        exact ⟨htrp, fun h => hopen ((hread _).trans h)⟩
      · obtain ⟨rfl, hlist, hhlc, hsu⟩ := hnone h
        exact ⟨rfl, rfl, rfl, rfl, rfl, fun hmerge => if_neg (Nat.not_lt.mpr hmerge), hlist, hhlc, hsu⟩
      · obtain ⟨rfl, hlist, hhlc, hsu⟩ := hfirst e rest hawaiting hlist htolerance
        rw [BagRecord.bind_eq]
        exact ⟨rfl, rfl, rfl, fun horigin => if_neg (ne_true_of_eq_false horigin), hlist, hhlc, hsu⟩
      · obtain ⟨rfl, hlist, hlost, hhlc⟩ := hsecond e e2 rest hawaiting hlist hskipped hmerge htolerance
        rw [BagRecord.bind_eq]
        exact ⟨rfl, hlist, hlost, hhlc⟩

end

section
/-! SUPPORT. The close points of the scan windows (R54, R58), taken by their own command. -/

open Sys2Proof

namespace Sys2Proof.Machine

/-! ## Close points (R54, R58) -/

/-- R54: a window whose close point is not registered, or that is not there, has none to take. -/
theorem State.takeClosePoint_unregistered {s : State} {n : Count}
    (h : s.trp.window n = none ∨ ∃ w, s.trp.window n = some w ∧ w.close = none) : s.takeClosePoint n = s := by
  rcases h with h | ⟨⟨record, close⟩, hw, rfl⟩
  · exact State.takeClosePoint_absent h
  · simp only [State.takeClosePoint, hw]

theorem exec_closePoint {s : State} (hrun : s.running = true) (n : Count) :
    exec (.closePoint n) s = .next (s.takeClosePoint n) := exec_command hrun (.close n)

end Sys2Proof.Machine

open Sys2Proof.Machine

/-- Settles O33: the point's three cases, and of a point reached the read state that the tags give. -/
theorem closePointCloses : Obligations.ClosePointCloses := by
  unfold Obligations.ClosePointCloses
  intro s n hrun
  rw [exec_closePoint hrun]
  refine ⟨?_, fun h => congrArg Host.Outcome.next (State.takeClosePoint_unregistered h)⟩
  rintro ⟨record, -⟩ x hw rfl
  have htake := State.takeClosePoint_registered (w := ⟨record, none⟩) hw
  refine ⟨fun hearly => ?_, fun r hreached hr => ?_⟩
  · rw [htake, hearly, if_neg Bool.false_ne_true]
  · rw [htake, if_pos hreached, State.closeWindowByTags_of_record hr, readStateOf_eq, ite_not]
    rfl

end

section
/-! SUPPORT. The samples of the reader line (R47 to R50): where an event comes from, and the timing of a rate mark from its
first falling edge to its fifth. -/

open Sys2Proof

namespace Sys2Proof.Machine

/-! ## The event of a command's samples -/

/-- An event that `hear` gives is that of one sample, the last. -/
theorem hear_event {σ ε : Type} {sample : Bool → σ → σ × Option ε} {tells row : ε → Bool} {bs : List Bool} {f g : σ} {e : ε}
    (h : hear sample tells row bs f = some (g, some e)) : ∃ b f', sample b f' = (g, some e) := by
  induction bs generalizing f with
  | nil => simp [hear] at h
  | cons b bs ih =>
    unfold hear at h
    split at h
    · exact ih h
    · rename_i e' he'
      split at h
      · split at h
        · simp only [Option.some.injEq, Prod.mk.injEq] at h
          exact ⟨b, f, Prod.ext h.1 (he'.trans (congrArg some h.2))⟩
        · cases h
      · exact ih h

/-! ## The commands of a measuring port -/

section
variable {s : State}

theorem exec_rateMeasurement (hmeasures : s.readerMeasures = true) (line : List Bool) :
    exec (.rateMeasurement line) s =
      .next (s.heard (hearTicks RateEvent.isMeasured line s.trp.measurement) State.putMeasurement State.takeRate) :=
  congrArg Host.Outcome.next (if_pos hmeasures)

theorem exec_rateOverflow (hmeasures : s.readerMeasures = true) (line : List Bool) :
    exec (.rateOverflow line) s =
      .next (s.heard (hearTicks RateEvent.isOverflow line s.trp.measurement) State.putMeasurement State.takeRate) :=
  congrArg Host.Outcome.next (if_pos hmeasures)

theorem exec_rate_idle (hidle : s.readerMeasures = false) (line : List Bool) :
    exec (.rateMeasurement line) s = .next s ∧ exec (.rateOverflow line) s = .next s :=
  ⟨congrArg Host.Outcome.next (if_neg (ne_true_of_eq_false hidle)),
    congrArg Host.Outcome.next (if_neg (ne_true_of_eq_false hidle))⟩

theorem State.rateState_of_measures (hmeasures : s.readerMeasures = true) : s.trp.rateState = .measuring := by
  simp only [State.readerMeasures, Bool.and_eq_true, beq_iff_eq] at hmeasures
  exact hmeasures.2

end

/-! ## One tick (R49, R50) -/

/-- R49: a measurement ends with no tick taken, and within 65,535. -/
theorem Measurement.sample_measured {b : Bool} {m n : Measurement} {ticks : Nat}
    (h : m.sample b = (n, some (.measured ticks))) : n = .idle ∧ ticks ≤ 65535 := by
  obtain ⟨last, _ | t⟩ := m
  · simp [Measurement.sample] at h
  · simp only [Measurement.sample] at h
    split at h
    · simp at h
    · rename_i hmax
      split at h
      · simp only [Prod.mk.injEq, Option.some.injEq, RateEvent.measured.injEq] at h
        exact ⟨h.1.symm, h.2 ▸ Nat.le_of_not_lt hmax⟩
      · simp at h

/-- R50: an abandoned measurement leaves no timing. -/
theorem Measurement.sample_overflows {b : Bool} {m n : Measurement} (h : m.sample b = (n, some .overflows)) :
    n.timing = none := by
  obtain ⟨last, _ | t⟩ := m
  · simp [Measurement.sample] at h
  · simp only [Measurement.sample] at h
    split at h
    · exact (congrArg (fun x => x.1.timing) h).symm
    · split at h <;> simp at h

/-- R49: the first tick of a line that is high, before the first falling edge. -/
theorem Measurement.sample_high (last : Option Bool) :
    Measurement.sample true ⟨last, none⟩ = (⟨some true, none⟩, none) := by
  simp [Measurement.sample]

/-- R49: the first falling edge starts the timing. -/
theorem Measurement.sample_falls_first :
    Measurement.sample false ⟨some true, none⟩ = (⟨some false, some ⟨0, 1⟩⟩, none) := rfl

section
variable {t falls : Nat}

/-- R49: a tick at which the line does not fall. -/
theorem Measurement.sample_level {b level : Bool} (hlevel : level = true → b = true) (hmax : t < 65535) :
    Measurement.sample b ⟨some level, some ⟨t, falls⟩⟩ = (⟨some b, some ⟨t + 1, falls⟩⟩, none) := by
  have hfell : ¬ (level = true ∧ b = false) := fun h => Bool.false_ne_true (h.2.symm.trans (hlevel h.1))
  have htick : ¬ Config.maxTicks < t + 1 := Nat.not_lt.mpr hmax
  simp [Measurement.sample, hfell, htick, Timing.tick]

/-- R49: a falling edge after the first and before the fifth. -/
theorem Measurement.sample_falls (hfalls : falls ≠ 4) (hmax : t < 65535) :
    Measurement.sample false ⟨some true, some ⟨t, falls⟩⟩ = (⟨some false, some ⟨t + 1, falls + 1⟩⟩, none) := by
  have htick : ¬ Config.maxTicks < t + 1 := Nat.not_lt.mpr hmax
  simp [Measurement.sample, hfalls, htick, Timing.tick]

/-- R49: the fifth falling edge completes the measurement. -/
theorem Measurement.sample_falls_fifth (hmax : t < 65535) :
    Measurement.sample false ⟨some true, some ⟨t, 4⟩⟩ = (.idle, some (.measured (t + 1))) := by
  have htick : ¬ Config.maxTicks < t + 1 := Nat.not_lt.mpr hmax
  simp [Measurement.sample, htick]

/-- R50: the tick that would pass 65,535. -/
theorem Measurement.sample_past_max {b : Bool} {last : Option Bool} :
    Measurement.sample b ⟨last, some ⟨65535, falls⟩⟩ = (⟨some b, none⟩, some .overflows) := by
  simp [Measurement.sample, Config.maxTicks]

end

/-! ## A run of ticks -/

section
variable {row : RateEvent → Bool} {t falls n : Nat}

/-- R49: ticks on a line that does not fall only count. -/
theorem hearTicks_level {level : Bool} (hmax : t + n ≤ 65535) :
    hearTicks row (List.replicate n level) ⟨some level, some ⟨t, falls⟩⟩ =
      some (⟨some level, some ⟨t + n, falls⟩⟩, none) := by
  induction n generalizing t with
  | zero => rfl
  | succ n ih =>
    have hstep := Measurement.sample_level (falls := falls) (level := level) (b := level) id (show t < 65535 by omega)
    rw [List.replicate_succ, hearTicks, hear_cons_none hstep]
    exact (ih (by omega)).trans (by rw [Nat.add_right_comm, Nat.add_assoc])

/-- R49: a low half of n ticks, of which the first has been taken, and a high half of n. -/
theorem hearTicks_low_high (hn : 1 ≤ n) (hmax : t + (2 * n - 1) ≤ 65535) :
    hearTicks row (List.replicate (n - 1) false ++ List.replicate n true) ⟨some false, some ⟨t, falls⟩⟩ =
      some (⟨some true, some ⟨t + (2 * n - 1), falls⟩⟩, none) := by
  obtain ⟨m, rfl⟩ := Nat.exists_eq_add_of_le' hn
  have hrise := Measurement.sample_level (falls := falls) (level := false) (b := true) (by decide)
    (show t + m < 65535 by omega)
  rw [hearTicks, hear_append (hearTicks_level (by omega)), Nat.add_sub_cancel, List.replicate_succ,
    hear_cons_none hrise]
  exact (hearTicks_level (by omega)).trans (by congr 5; omega)

/-- R49: one period of the mark, a low bit and a high one. -/
def ratePeriod (n : Nat) : List Bool := List.replicate n false ++ List.replicate n true

theorem ratePeriod_eq (hn : 1 ≤ n) :
    ratePeriod n = false :: (List.replicate (n - 1) false ++ List.replicate n true) := by
  obtain ⟨m, rfl⟩ := Nat.exists_eq_add_of_le' hn
  rfl

theorem hearTicks_first_period (hn : 1 ≤ n) (hmax : 2 * n - 1 ≤ 65535) :
    hearTicks row (ratePeriod n) ⟨some true, none⟩ = some (⟨some true, some ⟨2 * n - 1, 1⟩⟩, none) := by
  rw [ratePeriod_eq hn, hearTicks, hear_cons_none Measurement.sample_falls_first]
  exact (hearTicks_low_high hn (by omega)).trans (by rw [Nat.zero_add])

theorem hearTicks_period (hn : 1 ≤ n) (hfalls : falls ≠ 4) (hmax : t + 2 * n ≤ 65535) :
    hearTicks row (ratePeriod n) ⟨some true, some ⟨t, falls⟩⟩ = some (⟨some true, some ⟨t + 2 * n, falls + 1⟩⟩, none) := by
  rw [ratePeriod_eq hn, hearTicks, hear_cons_none (Measurement.sample_falls hfalls (by omega))]
  exact (hearTicks_low_high hn (by omega)).trans (by congr 5; omega)

/-- R49: a rate mark of n ticks a bit, between a high line and its fifth falling edge, measures 8 n. -/
theorem hearTicks_rateMark {last : Option Bool} (hn : 1 ≤ n) (hmax : 8 * n ≤ 65535) :
    hearTicks RateEvent.isMeasured (true :: (List.replicate 4 (ratePeriod n)).flatten ++ [false]) ⟨last, none⟩ =
      some (.idle, some (.measured (8 * n))) := by
  have hlast := Measurement.sample_falls_fifth (show 2 * n - 1 + 2 * n + 2 * n + 2 * n < 65535 by omega)
  have hticks : 2 * n - 1 + 2 * n + 2 * n + 2 * n + 1 = 8 * n := by omega
  rw [hticks] at hlast
  have hline : (List.replicate 4 (ratePeriod n)).flatten ++ [false] =
      ratePeriod n ++ (ratePeriod n ++ (ratePeriod n ++ (ratePeriod n ++ [false]))) := by
    simp [List.replicate_succ]
  rw [List.cons_append, hline, hearTicks, hear_cons_none (Measurement.sample_high last),
    hear_append (hearTicks_first_period hn (by omega)), hear_append (hearTicks_period hn (by decide) (by omega)),
    hear_append (hearTicks_period hn (by decide) (by omega)), hear_append (hearTicks_period hn (by decide) (by omega)),
    hear_last hlast rfl rfl]

/-- R50: a line that falls once and then stays quiet passes 65,535 ticks. -/
theorem hearTicks_quiet {last : Option Bool} :
    hearTicks RateEvent.isOverflow (true :: false :: List.replicate 65536 false) ⟨last, none⟩ =
      some (⟨some false, none⟩, some .overflows) := by
  have hquiet := hearTicks_level (row := RateEvent.isOverflow) (falls := 1) (level := false) (t := 0) (n := 65535)
    (by decide)
  rw [Nat.zero_add] at hquiet
  rw [hearTicks, hear_cons_none (Measurement.sample_high last), hear_cons_none Measurement.sample_falls_first,
    show (65536 : Nat) = 65535 + 1 from rfl, List.replicate_succ', hear_append hquiet,
    hear_last Measurement.sample_past_max rfl rfl]

end

/-- R49: a divider is M over 8 to the nearest, held within 1 to 4,095. -/
theorem dividerOf_bounds (ticks : Nat) :
    1 ≤ dividerOf ticks ∧ dividerOf ticks ≤ 4095
      ∧ (4 ≤ ticks → ticks < 32764 → ticks < 8 * dividerOf ticks + 4 ∧ 8 * dividerOf ticks ≤ ticks + 4)
      ∧ (ticks < 4 → dividerOf ticks = 1) ∧ (32764 ≤ ticks → dividerOf ticks = 4095) := by
  unfold dividerOf
  omega

theorem dividerOf_mark {n : Nat} (hn : 1 ≤ n) : dividerOf (8 * n) = min n 4095 := by
  unfold dividerOf
  omega

end Sys2Proof.Machine

open Sys2Proof.Machine

/-- Settles O44: the event is that of the last tick, whose shape gives the measurement left behind; a mark and a quiet line are
run period by period. -/
theorem rateMeasurementTaken : Obligations.RateMeasurementTaken := by
  unfold Obligations.RateMeasurementTaken
  refine ⟨?_, ?_, ?_, ?_, ?_⟩
  · intro s line m ticks hmeasures hheard
    obtain ⟨b, n, hsample⟩ := hear_event hheard
    obtain ⟨rfl, hticks⟩ := Measurement.sample_measured hsample
    refine ⟨dividerOf ticks, ?_, hticks, dividerOf_bounds ticks⟩
    rw [exec_rateMeasurement hmeasures, hheard]
    rfl
  · intro s n hmeasures hnone hn hmax
    have hm : s.trp.measurement = ⟨s.trp.measurement.last, none⟩ := by rw [← hnone]
    have hmark := hearTicks_rateMark (last := s.trp.measurement.last) hn hmax
    rw [← hm] at hmark
    exact ⟨_, (exec_rateMeasurement hmeasures _).trans (congrArg (fun r => Host.Outcome.next (s.heard r ..)) hmark), rfl,
      dividerOf_mark hn⟩
  · intro s line m hmeasures hheard
    obtain ⟨b, n, hsample⟩ := hear_event hheard
    refine ⟨Measurement.sample_overflows hsample, ?_⟩
    rw [exec_rateOverflow hmeasures, hheard]
    rfl
  · intro s hmeasures hnone
    have hm : s.trp.measurement = ⟨s.trp.measurement.last, none⟩ := by rw [← hnone]
    have hquiet := hearTicks_quiet (last := s.trp.measurement.last)
    rw [← hm] at hquiet
    exact ⟨_, (exec_rateOverflow hmeasures _).trans (congrArg (fun r => Host.Outcome.next (s.heard r ..)) hquiet),
      State.rateState_of_measures hmeasures, rfl, rfl⟩
  · rintro s line c row (⟨rfl, rfl⟩ | ⟨rfl, rfl⟩)
    · refine ⟨fun h => (exec_rate_idle h line).1, fun hmeasures => ?_⟩
      rw [exec_rateMeasurement hmeasures]
      exact ⟨fun m h => by rw [h]; rfl, fun h => by rw [h]; rfl⟩
    · refine ⟨fun h => (exec_rate_idle h line).2, fun hmeasures => ?_⟩
      rw [exec_rateOverflow hmeasures]
      exact ⟨fun m h => by rw [h]; rfl, fun h => by rw [h]; rfl⟩

end

section
/-! SUPPORT. The character receiver (R47, R48), sample by sample: a noise pulse, a character, a framing error and a break; and
the faults of a character as the reader port takes them (R51, R53, R57). -/

open Sys2Proof

namespace Sys2Proof.Machine

/-! ## The bits of a character (R47) -/

section
variable {line more : List Bool} {i : Nat}

/-- R47: a bit is decided by its middle samples, whatever follows them. -/
theorem bitOf_append (h : 16 * i + 8 < line.length) : bitOf (line ++ more) i = bitOf line i := by
  simp only [bitOf, List.getD_eq_getElem?_getD]
  rw [List.getElem?_append_left (by omega), List.getElem?_append_left (by omega), List.getElem?_append_left (by omega)]

/-- R47: the majority of three samples. -/
theorem majority_eq_count (a b c : Bool) : ((a && b) || (a && c) || (b && c)) = decide (2 ≤ [a, b, c].count true) := by
  cases a <;> cases b <;> cases c <;> rfl

/-- R47: a bit is high where two of its middle three samples are. -/
theorem bitOf_eq_count (h : 16 * i + 8 < line.length) :
    bitOf line i = decide (2 ≤ ((line.drop (16 * i + 6)).take 3).count true) := by
  have hmiddle : (line.drop (16 * i + 6)).take 3 =
      [line.getD (16 * i + 6) false, line.getD (16 * i + 7) false, line.getD (16 * i + 8) false] := by
    rw [List.drop_eq_getElem_cons (by omega), List.drop_eq_getElem_cons (by omega), List.drop_eq_getElem_cons (by omega),
      List.getD_eq_getElem _ _ (by omega), List.getD_eq_getElem _ _ (by omega), List.getD_eq_getElem _ _ (by omega)]
    rfl
  rw [hmiddle, ← majority_eq_count]
  rfl

theorem bitOf_low (n : Nat) : bitOf (List.replicate n false) i = false := by simp [bitOf]

/-- A character is the sum of its bits. -/
theorem byte_eq_sum (ch : Byte) :
    BitVec.ofNat 8 ((List.range 8).foldl (fun n i => n + if ch.getLsbD i then 2 ^ i else 0) 0) = ch := by
  revert ch; decide +kernel

/-- R47: the least significant data bit comes first. -/
theorem characterOf_eq {ch : Byte} (h : ∀ i, i < 8 → ch.getLsbD i = bitOf line (i + 1)) : characterOf line = ch := by
  rw [characterOf, ← byte_eq_sum ch]
  refine congrArg (BitVec.ofNat 8) (List.foldl_ext _ _ _ fun n i hi => ?_)
  rw [h i (List.mem_range.mp hi)]

end

/-! ## What the last sample decides (R47, R48) -/

/-- R47, R48: samples since a leading edge at which nothing is decided yet: a low start bit, a low stop bit, and a line that
stays low from there on, for less than twelve bit times. -/
def undecided (line : List Bool) : Prop :=
  (9 ≤ line.length → bitOf line 0 = false) ∧ (153 ≤ line.length → bitOf line 9 = false)
    ∧ (∀ b ∈ line.drop 152, b = false) ∧ line.length < 192

section
variable {b : Bool} {line more : List Bool}

theorem undecided_of_append (h : undecided (line ++ more)) : undecided line := by
  obtain ⟨hstart, hstop, hlow, hshort⟩ := h
  rw [List.length_append] at hstart hstop hshort
  refine ⟨fun hlen => ?_, fun hlen => ?_, fun b hb => hlow b ?_, by omega⟩
  · rw [← hstart (by omega), bitOf_append (by omega)]
  · rw [← hstop (by omega), bitOf_append (by omega)]
  · rw [List.drop_append]
    exact List.mem_append_left _ hb

theorem undecided_of_short (hlen : line.length ≤ 152) (hstart : 9 ≤ line.length → bitOf line 0 = false) :
    undecided line := by
  refine ⟨hstart, fun h => absurd h (by omega), fun b hb => ?_, by omega⟩
  rw [List.drop_eq_nil_of_le hlen] at hb
  cases hb

theorem undecided_low {n : Nat} (h : n < 192) : undecided (List.replicate n false) := by
  refine ⟨fun _ => bitOf_low n, fun _ => bitOf_low n, fun b hb => ?_, by rwa [List.length_replicate]⟩
  exact List.eq_of_mem_replicate (List.mem_of_mem_drop hb)

theorem receiveLine_undecided (h : undecided (line ++ [b])) :
    receiveLine b (line ++ [b]) = (.receiving (line ++ [b]), none) := by
  obtain ⟨hstart, hstop, hlow, hshort⟩ := h
  have hnoise : ¬ ((line ++ [b]).length = startSamples ∧ bitOf (line ++ [b]) 0 = true) := fun ⟨hlen, hbit⟩ =>
    Bool.false_ne_true ((hstart (Nat.le_of_eq hlen.symm)).symm.trans hbit)
  have hcharacter : ¬ ((line ++ [b]).length = stopSamples ∧ bitOf (line ++ [b]) 9 = true) := fun ⟨hlen, hbit⟩ =>
    Bool.false_ne_true ((hstop (Nat.le_of_eq hlen.symm)).symm.trans hbit)
  have hrises : ¬ (stopSamples ≤ (line ++ [b]).length ∧ b = true) := fun ⟨hlen, hb⟩ => by
    rw [List.length_append] at hlen
    have hmem : b ∈ (line ++ [b]).drop 152 := by
      rw [List.drop_append_of_le_length (Nat.le_of_succ_le_succ hlen)]
      exact List.mem_append_right _ (List.mem_singleton_self b)
    exact Bool.false_ne_true ((hlow b hmem).symm.trans hb)
  rw [receiveLine, if_neg hnoise, if_neg hcharacter, if_neg hrises, if_pos (by exact hshort)]

/-- R47: a start bit that is high is noise. -/
theorem receiveLine_noise (hlen : line.length = 9) (hstart : bitOf line 0 = true) :
    receiveLine b line = (.hunting b, none) := if_pos ⟨hlen, hstart⟩

/-- R47: a high stop bit ends a character. -/
theorem receiveLine_character (hlen : line.length = 153) (hstop : bitOf line 9 = true) :
    receiveLine b line = (.hunting b, some (.character (characterOf line))) := by
  rw [receiveLine, if_neg (by simp [hlen, startSamples]), if_pos ⟨hlen, hstop⟩]

/-- R47: a high line after a low stop bit is a framing error. -/
theorem receiveLine_rises (hlen : 153 ≤ line.length) (hstop : line.length = 153 → bitOf line 9 = false) :
    receiveLine true line = (.hunting true, some .framingError) := by
  have hnoise : ¬ (line.length = startSamples ∧ bitOf line 0 = true) := fun h => absurd (h.1 ▸ hlen) (by decide)
  have hcharacter : ¬ (line.length = stopSamples ∧ bitOf line 9 = true) := fun h =>
    Bool.false_ne_true ((hstop h.1).symm.trans h.2)
  rw [receiveLine, if_neg hnoise, if_neg hcharacter, if_pos ⟨hlen, rfl⟩]

/-- R47, R48: the end of the twelfth bit time on a low line. -/
theorem receiveLine_twelfth (hlen : line.length = 192) :
    receiveLine false line = if true ∈ line then (.hunting false, some .framingError) else (.afterBreak, some .brokenLine) := by
  have hany : line.any id = true ↔ true ∈ line := by simp
  simp only [receiveLine, hlen, hany, startSamples, stopSamples, breakSamples, Nat.reduceEqDiff, false_and, if_false,
    Bool.false_eq_true, and_false, Nat.lt_irrefl]

end

/-! ## A run of samples -/

/-- The event of another command. -/
theorem hear_last_other {σ ε : Type} {sample : Bool → σ → σ × Option ε} {tells row : ε → Bool} {b : Bool} {f g : σ} {e : ε}
    (h : sample b f = (g, some e)) (htells : tells e = true) (hrow : row e = false) : hear sample tells row [b] f = none := by
  simp [hear, h, htells, hrow]

section
variable {row : LineEvent → Bool} {b : Bool} {line more : List Bool}

/-- R47: a receiver goes on receiving while nothing is decided. -/
theorem hearLine_undecided (h : undecided (line ++ more)) :
    hearLine row more (.receiving line) = some (.receiving (line ++ more), none) := by
  induction more using List.reverseRecOn with
  | nil => rw [List.append_nil]; rfl
  | append_singleton more b ih =>
    rw [← List.append_assoc] at h ⊢
    have hsample : Receiver.sample b (.receiving (line ++ more)) = (.receiving (line ++ more ++ [b]), none) :=
      receiveLine_undecided h
    exact (hear_append (ih (undecided_of_append h))).trans (hear_cons_none hsample)

/-- R47: the leading edge of a start bit, and the samples after it. -/
theorem hearLine_of_edge (hhead : line.head? = some false) (h : undecided line) :
    hearLine row line (.hunting true) = some (.receiving line, none) := by
  obtain ⟨more, rfl⟩ := List.head?_eq_some_iff.mp hhead
  have hedge : Receiver.sample false (.hunting true) = (.receiving [false], none) := rfl
  exact (hear_cons_none hedge).trans (hearLine_undecided (line := [false]) h)

/-- R47: a receiver at its last sample. -/
theorem hearLine_last_of_edge (hhead : line.head? = some false) (h : undecided line) :
    hearLine row (line ++ [b]) (.hunting true) = hearLine row [b] (.receiving line) :=
  hear_append (hearLine_of_edge hhead h)

/-- A line of more than one sample that begins with a low one, but for its last. -/
theorem line_split {n : Nat} (hhead : line.head? = some false) (hlen : line.length = n + 2) :
    ∃ init b, line = init ++ [b] ∧ init.head? = some false ∧ init.length = n + 1 ∧ line.getLastD true = b := by
  obtain ⟨init, b, rfl⟩ := List.eq_nil_or_concat line |>.resolve_left fun h => by simp [h] at hlen
  rw [List.concat_eq_append, List.length_append, List.length_singleton] at hlen
  rw [List.concat_eq_append] at hhead ⊢
  refine ⟨init, b, rfl, ?_, by omega, by simp⟩
  rwa [List.head?_append_of_ne_nil _ (List.ne_nil_of_length_eq_add_one (by omega : init.length = n + 1))] at hhead

/-- R47: a start bit whose middle is high ends as it began. -/
theorem hearLine_noise (hhead : line.head? = some false) (hlen : line.length = 9) (hstart : bitOf line 0 = true) :
    hearLine row line (.hunting true) = some (.hunting (line.getLastD true), none) := by
  obtain ⟨init, b, rfl, hinit, hinitlen, hlast⟩ := line_split hhead hlen
  have hsample : Receiver.sample b (.receiving init) = (.hunting b, none) := receiveLine_noise hlen hstart
  rw [hlast, hearLine_last_of_edge hinit (undecided_of_short (by omega) fun h => absurd h (by omega))]
  exact hear_cons_none hsample

/-- R47: the samples of ten bit times of which the tenth is high are a character. -/
theorem hearLine_character {ch : Byte} (hhead : line.head? = some false) (hlen : line.length = 153)
    (hstart : bitOf line 0 = false) (hstop : bitOf line 9 = true) (hch : ∀ i, i < 8 → ch.getLsbD i = bitOf line (i + 1)) :
    hearLine LineEvent.isCharacter line (.hunting true) =
      some (.hunting (line.getLastD true), some (.character ch)) := by
  have hcharacter := characterOf_eq hch
  obtain ⟨init, b, rfl, hinit, hinitlen, hlast⟩ := line_split hhead hlen
  have hsample : Receiver.sample b (.receiving init) = (.hunting b, some (.character ch)) := by
    rw [← hcharacter]
    exact receiveLine_character hlen hstop
  have hquiet : undecided init := undecided_of_short (by omega) fun _ => by rw [← hstart, bitOf_append (by omega)]
  rw [hlast, hearLine_last_of_edge hinit hquiet]
  exact hear_last hsample rfl rfl

/-- R47: a low stop bit leaves the character open. -/
theorem hearLine_stop_low (hhead : line.head? = some false) (hlen : line.length = 153) (hstart : bitOf line 0 = false)
    (hstop : bitOf line 9 = false) (hlast : line.getLast? = some false) :
    hearLine row line (.hunting true) = some (.receiving line, none) := by
  refine hearLine_of_edge hhead ⟨fun _ => hstart, fun _ => hstop, fun b hb => ?_, by omega⟩
  obtain ⟨init, rfl⟩ := List.getLast?_eq_some_iff.mp hlast
  rw [List.length_append, List.length_singleton] at hlen
  rw [List.drop_left' (by omega)] at hb
  exact List.mem_singleton.mp hb

/-- R47: a rise after a low stop bit. -/
theorem hearLine_rises (hlow : 152 ≤ line.length) (hstop : line.length = 152 → (line.drop 150).count true = 0) :
    hearLine (fun e => e == .framingError) [true] (.receiving line) = some (.hunting true, some .framingError) := by
  have hlen : (line ++ [true]).length = line.length + 1 := List.length_append
  refine hear_last (receiveLine_rises (by omega) fun h => ?_) rfl rfl
  have hcount : (((line ++ [true]).drop 150).take 3).count true ≤ ((line ++ [true]).drop 150).count true :=
    (List.take_sublist 3 _).count_le true
  rw [List.drop_append_of_le_length (by omega), List.count_append, hstop (by omega)] at hcount
  rw [bitOf_eq_count (by omega), decide_eq_false_iff_not, List.drop_append_of_le_length (by omega)]
  exact Nat.not_le.mpr (Nat.lt_of_le_of_lt hcount (by decide))

/-- R47, R48: the twelfth bit time ends on a low line. -/
theorem sample_twelfth (hlen : line.length = 191) :
    Receiver.sample false (.receiving line) =
      if true ∈ line then (.hunting false, some .framingError) else (.afterBreak, some .brokenLine) := by
  have hmem : true ∈ line ++ [false] ↔ true ∈ line := by simp
  have hlength : (line ++ [false]).length = 192 := by rw [List.length_append, hlen]; rfl
  exact (receiveLine_twelfth hlength).trans (if_congr hmem rfl rfl)

/-- R48: a line low for twelve bit times, wherever the command's samples begin. -/
theorem hearLine_break {n : Nat} (hn : n < 192) :
    hearLine (fun e => e == .brokenLine) (List.replicate (192 - n) false) (.receiving (List.replicate n false)) =
      some (.afterBreak, some .brokenLine) := by
  have hsplit : List.replicate (192 - n) false = List.replicate (191 - n) false ++ [false] := by
    rw [← List.replicate_succ']
    congr 1
    omega
  have hjoin : List.replicate n false ++ List.replicate (191 - n) false = List.replicate 191 false := by
    rw [List.replicate_append_replicate]
    congr 1
    omega
  have hundecided := hearLine_undecided (row := fun e => e == .brokenLine) (line := List.replicate n false)
    (more := List.replicate (191 - n) false) (hjoin ▸ undecided_low (by decide))
  have hsample := (sample_twelfth (line := List.replicate 191 false) List.length_replicate).trans
    (if_neg fun h => Bool.false_ne_true (List.eq_of_mem_replicate h).symm)
  rw [hjoin] at hundecided
  rw [hsplit, hearLine, hear_append hundecided]
  exact hear_last hsample rfl rfl

/-- A receiver that a low line leaves where it is. -/
theorem hearLine_low {r : Receiver} (h : r.sample false = (r, none)) (n : Nat) :
    hearLine row (List.replicate n false) r = some (r, none) := by
  induction n with
  | zero => rfl
  | succ n ih => exact (hear_cons_none h).trans ih

/-- R48: a low period gives one break, and the next high sample ends it. -/
theorem hearLine_afterBreak (n : Nat) :
    hearLine row (List.replicate n false) .afterBreak = some (.afterBreak, none)
      ∧ hearLine row (List.replicate n false ++ [true]) .afterBreak = some (.hunting true, none) :=
  ⟨hearLine_low rfl n, (hear_append (hearLine_low rfl n)).trans rfl⟩

end

/-! ## The faults of a character (R51, R53, R57) -/

/-- R53: a report in assembly, if any, is a read error. -/
theorem TagReadPort.invalidate_eq (t : TagReadPort) :
    t.invalidate = { t with
      assembly := none
      counters := { t.counters with
        readErrors := if t.assembly.isSome then t.counters.readErrors + 1 else t.counters.readErrors } } := by
  obtain ⟨rate, divider, overflow, measurement, receiver, run, _ | cs, windows, counters⟩ := t <;> rfl

section
variable {s : State} {line : List Bool}

theorem exec_framingError (hruns : s.readerRuns = true) (line : List Bool) :
    exec (.framingError line) s =
      .next (s.heard (hearLine (fun e => e == .framingError) line s.trp.receiver) State.putReceiver
        fun _ t => t.takeFramingError) :=
  congrArg Host.Outcome.next (if_pos hruns)

theorem exec_readerBreak (hruns : s.readerRuns = true) (line : List Bool) :
    exec (.readerBreak line) s =
      .next (s.heard (hearLine (fun e => e == .brokenLine) line s.trp.receiver) State.putReceiver fun _ t => t.takeBreak) :=
  congrArg Host.Outcome.next (if_pos hruns)

theorem exec_fault_idle (hidle : s.readerRuns = false) (line : List Bool) :
    exec (.framingError line) s = .next s ∧ exec (.readerBreak line) s = .next s :=
  ⟨congrArg Host.Outcome.next (if_neg (ne_true_of_eq_false hidle)),
    congrArg Host.Outcome.next (if_neg (ne_true_of_eq_false hidle))⟩

end

/-- R47, R51: a framing error; the fourth of a run in AUTO returns the port to MEASURING. -/
theorem TagReadPort.framingError_eq (auto : Bool) (t : TagReadPort) (c : TrpCounters) (hc : c = { t.counters with
      framingErrors := t.counters.framingErrors + 1
      readErrors := if t.assembly.isSome then t.counters.readErrors + 1 else t.counters.readErrors }) :
    t.framingError auto =
      if auto = true ∧ 3 ≤ t.framingRun then
        { t with
          rateState := .measuring, divider := 0, measurement := .idle, framingRun := 0, assembly := none
          counters := { c with remeasurements := c.remeasurements + 1 } }
      else { t with framingRun := t.framingRun + 1, assembly := none, counters := c } := by
  subst hc
  have hrun : (auto && decide (4 ≤ t.framingRun + 1)) = true ↔ auto = true ∧ 3 ≤ t.framingRun := by
    rw [Bool.and_eq_true, decide_eq_true_iff, Nat.succ_le_succ_iff]
  simp only [TagReadPort.framingError, TagReadPort.invalidate_eq, hrun]
  rfl

/-- R57: no open window without tags. -/
theorem State.bindBreak_orphan {s : State} (h : ∀ w ∈ s.trp.windows, ∃ r, s.st.record w.record = some r ∧ r.tags ≠ []) :
    s.bindBreak = { s with trp := { s.trp with
      counters := { s.trp.counters with orphanBreaks := s.trp.counters.orphanBreaks + 1 } } } := by
  have hnone : (s.trp.windows.find? fun w => (s.st.tagsOf w.record).isEmpty) = none := by
    refine List.find?_eq_none.mpr fun w hw => ?_
    obtain ⟨r, hr, htags⟩ := h w hw
    simpa [SectionTracker.tagsOf, hr] using htags
  simp only [State.bindBreak, hnone]
  rfl

/-- R57: the oldest open window without tags is NO-READ. -/
theorem State.bindBreak_bound {s : State} {older younger : List ScanWindow} {w : ScanWindow} {r : BagRecord}
    (hwindows : s.trp.windows = older ++ w :: younger)
    (holder : ∀ x ∈ older, ∃ y, s.st.record x.record = some y ∧ y.tags ≠ []) (hr : s.st.record w.record = some r)
    (htags : r.tags = []) :
    s.bindBreak = { s with
      trp := { s.trp with
        windows := s.trp.windows.filter fun x => x.record != w.record
        counters := { s.trp.counters with boundBreaks := s.trp.counters.boundBreaks + 1 } }
      st := s.trackerWith w.record fun x => { x with readState := .noRead } } := by
  have holdest : (s.trp.windows.find? fun w => (s.st.tagsOf w.record).isEmpty) = some w := by
    have hnone : (older.find? fun w => (s.st.tagsOf w.record).isEmpty) = none := by
      refine List.find?_eq_none.mpr fun x hx => ?_
      obtain ⟨y, hy, hfull⟩ := holder x hx
      simpa [SectionTracker.tagsOf, hy] using hfull
    have hempty : (s.st.tagsOf w.record).isEmpty = true := by simp [SectionTracker.tagsOf, hr, htags]
    rw [hwindows, List.find?_append, hnone, Option.none_or]
    exact List.find?_cons_of_pos hempty
  simp only [State.bindBreak, holdest, State.closeWindow, State.onSt, State.onTrp, TagReadPort.tally]
  rw [SectionTracker.notice_of_record hr]
  rfl

/-- R48, R53: a break outside STANDBY is counted and spoils an assembly, before it is bound. -/
theorem State.takeBreak_awake {s : State} {q : Receiver} {v : TagReadPort} (hawake : s.nc.state ≠ .standby)
    (hv : v = { s.trp with
      receiver := q
      assembly := none
      counters := { s.trp.counters with
        breaks := s.trp.counters.breaks + 1
        readErrors := if s.trp.assembly.isSome then s.trp.counters.readErrors + 1 else s.trp.counters.readErrors } }) :
    (State.putReceiver q s).takeBreak = ({ s with trp := v } : State).bindBreak := by
  subst hv
  have hstate : ¬ (State.putReceiver q s).nc.state = .standby := hawake
  simp only [State.takeBreak, hstate, if_false, State.onTrp, TagReadPort.invalidate_eq]
  rfl

theorem State.takeBreak_standby {s : State} (h : s.nc.state = .standby) : s.takeBreak = s := if_pos h

end Sys2Proof.Machine

open Sys2Proof.Machine

/-- Settles O43: each fault is taken by its equation, and the samples that show it are those that the receiver's last one
decides. -/
theorem readerFaultsTaken : Obligations.ReaderFaultsTaken := by
  unfold Obligations.ReaderFaultsTaken
  refine ⟨?_, ?_, ?_, ?_, ?_, ?_, ?_, ?_⟩
  · intro s line q c hruns hheard hc
    have htake := TagReadPort.framingError_eq (s.config.readerRate == .auto) (State.putReceiver q s).trp c hc
    rw [exec_framingError hruns, hheard, State.heard_event]
    simp only [beq_iff_eq] at htake
    refine ⟨fun hstays => ?_, fun hauto hrun => ?_⟩
    · have hfew : ¬ (s.config.readerRate = .auto ∧ 3 ≤ s.trp.framingRun) := fun h =>
        hstays.elim (fun hne => hne h.1) fun hlt => absurd h.2 (Nat.not_le.mpr hlt)
      exact congrArg (fun t => Host.Outcome.next { State.putReceiver q s with trp := t }) (htake.trans (if_neg hfew))
    · exact congrArg (fun t => Host.Outcome.next { State.putReceiver q s with trp := t }) (htake.trans (if_pos ⟨hauto, hrun⟩))
  · intro s line q v hruns hawake hheard hv
    rw [exec_readerBreak hruns, hheard, State.heard_event, State.takeBreak_awake hawake hv]
    have hwindows : v.windows = s.trp.windows := by rw [hv]
    refine ⟨fun h => ?_, fun older younger w r hsplit holder hr htags => ?_⟩
    · rw [State.bindBreak_orphan (by simpa only [hwindows] using h)]
    · rw [State.bindBreak_bound (s := { s with trp := v }) (hwindows.trans hsplit) holder hr htags]
      simp only [hwindows]
      rfl
  · intro s line q hruns hstandby hheard
    rw [exec_readerBreak hruns, hheard, State.heard_event, State.takeBreak_standby (s := State.putReceiver q s) hstandby]
    rfl
  · rintro s line c row (⟨rfl, rfl⟩ | ⟨rfl, rfl⟩)
    · refine ⟨fun h => (exec_fault_idle h line).1, fun hruns => ?_⟩
      rw [exec_framingError hruns]
      exact ⟨fun q h => by rw [h]; rfl, fun h => by rw [h]; rfl⟩
    · refine ⟨fun h => (exec_fault_idle h line).2, fun hruns => ?_⟩
      rw [exec_readerBreak hruns]
      exact ⟨fun q h => by rw [h]; rfl, fun h => by rw [h]; rfl⟩
  · exact fun line hlow _ hstop => hearLine_rises hlow hstop
  · intro line hlen
    have hsample := sample_twelfth hlen
    refine ⟨fun hrose => ?_, fun hlow => ?_⟩
    · rw [if_pos hrose] at hsample
      exact ⟨hear_last hsample rfl rfl, hear_last_other hsample rfl rfl⟩
    · rw [if_neg hlow] at hsample
      exact ⟨hear_last hsample rfl rfl, hear_last_other hsample rfl rfl⟩
  · exact fun n _ => hearLine_break
  · exact fun row n => ⟨(hearLine_afterBreak n).1, (hearLine_afterBreak n).2, hearLine_low rfl n⟩

end

section
/-! SUPPORT. Characters and reports (R47, R52, R53, R55, R56): the character that a command's samples bring, its place in the
report, and the binding of a valid read. -/

open Sys2Proof

namespace Sys2Proof.Machine

/-! ## The commands of a received character -/

/-- Samples heard for fewer of the events: those that bring another one are none of the command's. -/
theorem hear_fewer {σ ε : Type} {sample : Bool → σ → σ × Option ε} {tells row few : ε → Bool}
    (h : ∀ e, few e = true → row e = true) (bs : List Bool) (f : σ) :
    hear sample tells few bs f = (hear sample tells row bs f).filter fun x => x.2.all few := by
  induction bs generalizing f with
  | nil => rfl
  | cons b bs ih =>
    unfold hear
    split
    · exact ih _
    · rename_i e _
      split
      · cases hfew : few e with
        | true => cases bs <;> simp [Option.filter, h e hfew, hfew]
        | false => cases bs <;> cases row e <;> simp [Option.filter, hfew]
      · exact ih _

/-- R52: the end mark is a character. -/
theorem hearLine_endMark (line : List Bool) (q : Receiver) :
    hearLine (fun e => e == .character endMark) line q =
      (hearLine LineEvent.isCharacter line q).filter fun x => x.2.all fun e => e == .character endMark :=
  hear_fewer (fun e he => by rw [eq_of_beq he]; rfl) line q

section
variable {s : State}

theorem exec_characterReceived (hruns : s.readerRuns = true) (line : List Bool) :
    exec (.characterReceived line) s =
      .next (s.heard (hearLine LineEvent.isCharacter line s.trp.receiver) State.putReceiver State.takeCharacter) :=
  congrArg Host.Outcome.next (if_pos hruns)

theorem exec_report (hruns : s.readerRuns = true) (line : List Bool) :
    exec (.report line) s =
      .next (s.heard ((hearLine LineEvent.isCharacter line s.trp.receiver).filter fun x =>
        x.2.all fun e => e == .character endMark) State.putReceiver State.takeCharacter) := by
  rw [← hearLine_endMark]
  exact congrArg Host.Outcome.next (if_pos hruns)

theorem exec_character_idle (hidle : s.readerRuns = false) (line : List Bool) :
    exec (.characterReceived line) s = .next s ∧ exec (.report line) s = .next s :=
  ⟨congrArg Host.Outcome.next (if_neg (ne_true_of_eq_false hidle)),
    congrArg Host.Outcome.next (if_neg (ne_true_of_eq_false hidle))⟩

/-- R47, R52: a character is taken alike by its own command and, the end mark, by REPORT. -/
theorem exec_of_character {c : Instr} {line : List Bool} {ch : Byte} {q : Receiver}
    (hc : c = .characterReceived line ∨ c = .report line ∧ ch = endMark) (hruns : s.readerRuns = true)
    (hheard : hearLine LineEvent.isCharacter line s.trp.receiver = some (q, some (.character ch))) :
    exec c s = .next ((State.putReceiver q s).receiveCharacter ch) := by
  rcases hc with rfl | ⟨rfl, rfl⟩
  · rw [exec_characterReceived hruns, hheard]
    rfl
  · rw [exec_report hruns, hheard]
    rfl

/-- R52: samples of another character are none of REPORT's. -/
theorem exec_report_other {line : List Bool} {ch : Byte} {q : Receiver} (hruns : s.readerRuns = true)
    (hheard : hearLine LineEvent.isCharacter line s.trp.receiver = some (q, some (.character ch))) (hch : ch ≠ endMark) :
    exec (.report line) s = .next s := by
  rw [exec_report hruns, hheard, Option.filter_some_neg (by simp [hch])]
  rfl

end

/-! ## The places of a report (R52, R53) -/

section
variable {s : State} {ch : Byte} {cs : List Byte}

/-- R53: the node with the report in assembly, if any, found invalid. -/
theorem State.onTrp_invalidate (s : State) :
    s.onTrp TagReadPort.invalidate = { s with trp := { s.trp with
      assembly := none
      counters := { s.trp.counters with
        readErrors := if s.trp.assembly.isSome then s.trp.counters.readErrors + 1 else s.trp.counters.readErrors } } } := by
  rw [State.onTrp, TagReadPort.invalidate_eq]

theorem State.assemble_outside (hnone : s.trp.assembly = none) (hch : ch ≠ reportMark) : s.assemble ch = s := by
  simp only [State.assemble, hnone, if_neg hch]

/-- R52, R53: the report mark opens a report, also within one, which is then invalid. -/
theorem State.assemble_mark (s : State) :
    s.assemble reportMark = { s with trp := { s.trp with
      assembly := some []
      counters := { s.trp.counters with
        readErrors := if s.trp.assembly.isSome then s.trp.counters.readErrors + 1 else s.trp.counters.readErrors } } } := by
  unfold State.assemble
  split
  · rename_i hnone
    rw [if_pos rfl, hnone]
    rfl
  · rename_i hsome
    rw [if_pos rfl, State.onTrp, TagReadPort.invalidate_eq, hsome]

theorem State.assemble_digit (hcs : s.trp.assembly = some cs) (hch : ch ≠ reportMark) (hroom : cs.length < 11)
    (hdigit : isDigitChar ch = true) :
    s.assemble ch = { s with trp := { s.trp with assembly := some (cs ++ [ch]) } } := by
  simp only [State.assemble, hcs, if_neg hch, if_pos hroom, if_pos hdigit]
  rfl

/-- R53: a character out of place. -/
theorem State.assemble_misplaced (hcs : s.trp.assembly = some cs) (hch : ch ≠ reportMark)
    (hplace : (cs.length < 11 ∧ isDigitChar ch = false) ∨ (11 ≤ cs.length ∧ ch ≠ endMark)) :
    s.assemble ch = { s with trp := { s.trp with
      assembly := none
      counters := { s.trp.counters with readErrors := s.trp.counters.readErrors + 1 } } } := by
  have hinvalid := s.onTrp_invalidate
  rw [hcs] at hinvalid
  rcases hplace with ⟨hroom, hdigit⟩ | ⟨hfull, hend⟩
  · simp only [State.assemble, hcs, if_neg hch, if_pos hroom, hdigit]
    exact hinvalid
  · simp only [State.assemble, hcs, if_neg hch, if_neg (Nat.not_lt.mpr hfull), if_neg hend]
    exact hinvalid

theorem State.assemble_end (hcs : s.trp.assembly = some cs) (hfull : cs.length = 11) :
    s.assemble endMark = s.judgeReport cs := by
  have hmark : ¬ endMark = reportMark := by decide
  simp only [State.assemble, hcs, if_neg hmark, hfull, Nat.lt_irrefl, if_false, if_true]

theorem isDigitChar_iff (ch : Byte) : isDigitChar ch = true ↔ 0x30 ≤ ch.toNat ∧ ch.toNat ≤ 0x39 := by
  rw [isDigitChar, Bool.and_eq_true, decide_eq_true_iff, decide_eq_true_iff]

theorem isDigitChar_eq_false_iff (ch : Byte) : isDigitChar ch = false ↔ ch.toNat < 0x30 ∨ 0x39 < ch.toNat := by
  rw [Bool.eq_false_iff, Ne, isDigitChar_iff, not_and_or, Nat.not_le, Nat.not_le]

/-- R59: outside STANDBY a character ends the run of framing errors and takes its place in the report. -/
theorem State.receiveCharacter_awake (hawake : s.nc.state ≠ .standby) (q : Receiver) :
    (State.putReceiver q s).receiveCharacter ch =
      ({ s with trp := { s.trp with receiver := q, framingRun := 0 } } : State).assemble ch :=
  if_neg hawake

theorem State.receiveCharacter_standby (hstandby : s.nc.state = .standby) (q : Receiver) :
    (State.putReceiver q s).receiveCharacter ch = { s with trp := { s.trp with receiver := q, framingRun := 0 } } :=
  if_pos hstandby

end

/-! ## A report judged (R52) -/

/-- R52: the check digit is the sum of the ten digits modulo 10. -/
theorem checkDigitGood_iff {digits : List Nat} (h : 10 < digits.length) :
    checkDigitGood digits = true ↔ digits[10]? = some ((digits.take 10).sum % 10) := by
  rw [checkDigitGood, beq_iff_eq, List.getD_eq_getElem _ _ h, List.getElem?_eq_getElem h, Option.some_inj,
    List.sum_eq_foldl]

theorem tagOfDigits_eq (digits : List Nat) : tagOfDigits digits = (digits.take 10).foldl (fun n d => 10 * n + d) 0 := by
  simp only [tagOfDigits, Nat.mul_comm]

/-- R52: a valid report has a good check digit and a tag other than 0. -/
def reportValid (cs : List Byte) : Bool := checkDigitGood (cs.map digitOf) && tagOfDigits (cs.map digitOf) != 0

theorem reportValid_iff {cs : List Byte} {digits : List Nat} {tag : Nat} (hlen : cs.length = 11)
    (hdigits : digits = cs.map fun c => c.toNat - 0x30)
    (htag : tag = (digits.take 10).foldl (fun n d => 10 * n + d) 0) :
    reportValid cs = true ↔ digits[10]? = some ((digits.take 10).sum % 10) ∧ tag ≠ 0 := by
  have hmap : cs.map digitOf = digits := hdigits.symm
  have hlength : 10 < digits.length := by rw [hdigits, List.length_map, hlen]; decide
  rw [reportValid, hmap, Bool.and_eq_true, checkDigitGood_iff hlength, bne_iff_ne, tagOfDigits_eq, htag]

section
variable {s : State} {cs : List Byte}

theorem State.judgeReport_invalid (hcs : s.trp.assembly = some cs) (h : reportValid cs = false) :
    s.judgeReport cs = { s with trp := { s.trp with
      assembly := none
      counters := { s.trp.counters with readErrors := s.trp.counters.readErrors + 1 } } } := by
  have hinvalid := s.onTrp_invalidate
  rw [hcs] at hinvalid
  exact (if_neg (ne_true_of_eq_false h)).trans hinvalid

theorem State.judgeReport_valid (h : reportValid cs = true) :
    s.judgeReport cs = ({ s with trp := { s.trp with
      assembly := none
      counters := { s.trp.counters with validReports := s.trp.counters.validReports + 1 } } } : State).bindRead
        (tagOfDigits (cs.map digitOf)) := if_pos h

end

/-! ## A valid read bound (R55, R56) -/

section
variable {s : State} {w : ScanWindow} {rest : List ScanWindow} {r : BagRecord} {tag : Nat}

theorem State.bindRead_orphan (hnone : s.trp.windows = []) (tag : Nat) :
    s.bindRead tag = { s with trp := { s.trp with
      counters := { s.trp.counters with orphanReads := s.trp.counters.orphanReads + 1 } } } := by
  unfold State.bindRead
  split
  · rfl
  · rename_i hwindows
    cases hnone.symm.trans hwindows

theorem State.bindRead_bound (hwindows : s.trp.windows = w :: rest) (tag : Nat) :
    s.bindRead tag = { s with
      trp := { s.trp with counters := { s.trp.counters with boundReads := s.trp.counters.boundReads + 1 } }
      st := s.st.tagRead w.record tag } := by
  unfold State.bindRead
  split
  · rename_i hnone
    cases hnone.symm.trans hwindows
  · rename_i hfirst
    cases hfirst.symm.trans hwindows
    rfl

variable {t : SectionTracker} {n : Count}

/-- R56: a tag that the record holds. -/
theorem SectionTracker.tagRead_again (hr : t.record n = some r) (htag : tag ∈ r.tags) :
    t.tagRead n tag = { t with
      counters := { t.counters with duplicateReads := t.counters.duplicateReads + 1 } } := by
  simp only [SectionTracker.tagRead, hr, List.contains_iff_mem.mpr htag]
  rfl

/-- R56: a new tag, and room for it. -/
theorem SectionTracker.tagRead_new (hr : t.record n = some r) (htag : tag ∉ r.tags) (hroom : r.tags.length < 2) :
    t.tagRead n tag = t.modify n fun y => { y with tags := y.tags ++ [tag] } := by
  have hnew : r.tags.contains tag = false := by simpa using htag
  have hroom : r.tags.length < Config.maxRecordTags := hroom
  simp only [SectionTracker.tagRead, hr, hnew, if_pos hroom]
  rfl

/-- R56: a third tag makes the record a stray. -/
theorem SectionTracker.tagRead_surplus (hr : t.record n = some r) (htag : tag ∉ r.tags) (hfull : 2 ≤ r.tags.length) :
    t.tagRead n tag = { t.modify n fun y => { y with reason := some (y.reason.getD .tagSurplus) } with
      counters := { t.counters with surplusTags := t.counters.surplusTags + 1 } } := by
  have hnew : r.tags.contains tag = false := by simpa using htag
  have hfull : ¬ r.tags.length < Config.maxRecordTags := Nat.not_lt.mpr hfull
  have hreason : BagRecord.giveReason .tagSurplus = fun y => { y with reason := some (y.reason.getD .tagSurplus) } :=
    funext fun y => by rw [BagRecord.giveReason_eq]; cases y.reason <;> rfl
  simp only [SectionTracker.tagRead, hr, hnew, if_neg hfull, hreason]
  rfl

end

end Sys2Proof.Machine

open Sys2Proof.Machine

/-- Settles O42: the character takes its place in the report of the node whose receiver has moved on; a valid report is bound by
the first window; the samples that make a character are those that the receiver's last one decides. -/
theorem readerCharactersTaken : Obligations.ReaderCharactersTaken := by
  unfold Obligations.ReaderCharactersTaken
  refine ⟨?_, ?_, ?_, ?_⟩
  · rintro s c line ch q x hc hruns hawake hheard rfl
    rw [exec_of_character hc hruns hheard, State.receiveCharacter_awake hawake]
    refine ⟨fun hnone hch => ?_, ?_, fun cs hcs hch => ⟨fun hroom hlow hhigh => ?_, fun hplace => ?_, ?_⟩⟩
    · rw [State.assemble_outside (by exact hnone) hch]
    · rintro rfl
      exact congrArg Host.Outcome.next (State.assemble_mark _)
    · rw [State.assemble_digit (by exact hcs) hch hroom ((isDigitChar_iff ch).mpr ⟨hlow, hhigh⟩)]
    · rw [← isDigitChar_eq_false_iff] at hplace
      rw [State.assemble_misplaced (by exact hcs) hch hplace]
    · rintro digits tag v rfl hlen hdigits htag rfl
      have hvalid := reportValid_iff hlen hdigits htag
      have hread : tagOfDigits (cs.map digitOf) = tag := by rw [tagOfDigits_eq, htag, hdigits]; rfl
      have hjudged := State.assemble_end (s := { s with trp := { s.trp with receiver := q, framingRun := 0 } }) hcs hlen
      rw [show (0x03 : Byte) = endMark from rfl, hjudged]
      refine ⟨fun hbad => ?_, fun htag0 hcheck hnone => ?_, ?_⟩
      · have hinvalid : reportValid cs = false := by
          rw [Bool.eq_false_iff, Ne, hvalid]
          exact fun h => hbad.elim h.2 fun hcheck => hcheck h.1
        rw [State.judgeReport_invalid (by exact hcs) hinvalid]
      · rw [State.judgeReport_valid (hvalid.mpr ⟨hcheck, htag0⟩), State.bindRead_orphan (by exact hnone)]
      · rintro w rest r b htag0 hcheck hwindows hr rfl
        rw [State.judgeReport_valid (hvalid.mpr ⟨hcheck, htag0⟩), State.bindRead_bound (by exact hwindows), hread]
        refine ⟨fun hheld => ?_, fun hnew hroom => ?_, fun hnew hfull => ?_⟩
        · simp only [SectionTracker.tagRead_again hr hheld]
        · simp only [SectionTracker.tagRead_new hr hnew hroom]
          rfl
        · simp only [SectionTracker.tagRead_surplus hr hnew hfull]
          rfl
  · intro s c line ch q hruns hheard
    refine ⟨fun hstandby hc => ?_, ?_⟩
    · rw [exec_of_character hc hruns hheard, State.receiveCharacter_standby hstandby]
    · rintro rfl hch
      exact exec_report_other hruns hheard hch
  · rintro s c line (rfl | rfl)
    · refine ⟨fun h => (exec_character_idle h line).1, fun hruns => ?_⟩
      rw [exec_characterReceived hruns]
      exact ⟨fun q h => by rw [h]; rfl, fun h => by rw [h]; rfl⟩
    · refine ⟨fun h => (exec_character_idle h line).2, fun hruns => ?_⟩
      rw [exec_report hruns]
      exact ⟨fun q h => by rw [h]; rfl, fun h => by rw [h]; rfl⟩
  · intro line bit ch hhead hbit
    have hbits : ∀ i, 16 * i + 8 < line.length → bitOf line i = bit i := fun i hi => by rw [bitOf_eq_count hi, hbit]
    refine ⟨fun hlen hstart => ?_, fun hlen hstart hch => ⟨fun hstop => ?_, fun hstop hlast => ?_⟩⟩
    · exact hearLine_noise hhead hlen (by rw [hbits 0 (by omega), hstart])
    · refine hearLine_character hhead hlen (by rw [hbits 0 (by omega), hstart]) (by rw [hbits 9 (by omega), hstop])
        fun i hi => ?_
      rw [hch i hi, hbits (i + 1) (by omega)]
    · exact hearLine_stop_low hhead hlen (by rw [hbits 0 (by omega), hstart]) (by rw [hbits 9 (by omega), hstop]) hlast

end

section
/-! SUPPORT. The node state and what runs in it (R59, R92, R143, R190): which operations leave the node state, its timers and the
assembly alone, and which change them together. -/

open Sys2Proof

namespace Sys2Proof.Machine

/-! ## The regime of a node -/

/-- The node state, main power, and what the node state starts and stops: the join timer, the gauge pass with its pace timer,
the refresh timer, and the report in assembly. -/
structure Regime where
  state        : NodeState
  powered      : Bool
  joinTimer    : Option Nat
  pass         : Option OutletNo
  paceTimer    : Option Nat
  refreshTimer : Option Nat
  assembly     : Option (List Byte)

def State.regime (s : State) : Regime :=
  ⟨s.nc.state, s.nc.powered, s.nc.joinTimer, s.om.pass, s.om.paceTimer, s.om.refreshTimer, s.trp.assembly⟩

/-- R190, R143, R59: what a regime has to meet where the node runs. -/
structure Regime.Ok (r : Regime) : Prop where
  running : r.state.running = true
  powered : r.powered = true
  joins   : r.joinTimer.isSome = true ↔ r.state = .joining
  rests   : r.state = .standby → r.pass = none ∧ r.paceTimer = none ∧ r.refreshTimer = none ∧ r.assembly = none

section
variable {s t : State}

/-- Where the node runs, R92 and the queue ask for nothing. -/
theorem State.statesOk_of_regime (h : s.regime.Ok) : s.statesOk :=
  ⟨h.joins, h.rests, fun hoff => absurd (h.powered.symm.trans hoff) Bool.false_ne_true.symm,
    fun hidle => absurd (h.running.symm.trans hidle) Bool.false_ne_true.symm⟩

theorem State.regime_of_statesOk (h : s.statesOk) (hrun : s.running = true) : s.regime.Ok := by
  obtain ⟨hjoin, hrest, hpower, -⟩ := h
  refine ⟨hrun, ?_, hjoin, hrest⟩
  by_contra hoff
  have hstart : s.nc.state = .start := hpower (Bool.eq_false_iff.mpr hoff)
  obtain ⟨hne, -⟩ := s.running_iff.mp hrun
  exact hne hstart

/-- A node of the same regime, with the same stroke timers and the same send queue. -/
theorem State.statesOk_of_eq (h : t.regime = s.regime) (hstrokes : t.dc.strokes = s.dc.strokes)
    (hqueue : t.hlc.queue = s.hlc.queue) (hs : s.statesOk) : t.statesOk := by
  obtain ⟨hjoin, hrest, hpower, hidle⟩ := hs
  simp only [State.regime, Regime.mk.injEq] at h
  obtain ⟨hstate, hpowered, htimer, hpass, hpace, hrefresh, hassembly⟩ := h
  unfold State.statesOk State.running DivertController.strokesIdle
  rw [hstate, hpowered, htimer, hpass, hpace, hrefresh, hassembly, hstrokes, hqueue]
  exact ⟨hjoin, hrest, hpower, hidle⟩

theorem Regime.Ok.of_eq (hs : s.regime.Ok) (h : t.regime = s.regime) : t.regime.Ok := h ▸ hs

/-- Outside STANDBY the gauges, the refresh timer and the assembly are free. -/
theorem Regime.Ok.of_awake (hs : s.regime.Ok) (hawake : s.nc.state ≠ .standby) (hnc : t.nc = s.nc) : t.regime.Ok := by
  obtain ⟨hrun, hpower, hjoin, -⟩ := hs
  have hregime : t.regime = { t.regime with
    state := s.nc.state, powered := s.nc.powered, joinTimer := s.nc.joinTimer } := by rw [← hnc]; rfl
  rw [hregime]
  exact ⟨hrun, hpower, hjoin, fun h => absurd h hawake⟩

/-- R190: a node that joins. -/
theorem Regime.ok_joining (hstate : t.nc.state = .joining) (hpower : t.nc.powered = true)
    (hjoin : t.nc.joinTimer.isSome = true) : t.regime.Ok := by
  refine ⟨?_, hpower, iff_of_true hjoin hstate, fun h => ?_⟩
  · exact congrArg NodeState.running hstate
  · cases hstate.symm.trans h

/-- A node that enters SORTING or STANDBY-PENDING with its join timer stopped. -/
theorem Regime.ok_of_stopped (hstate : t.nc.state = .sorting ∨ t.nc.state = .standbyPending)
    (hpower : t.nc.powered = true) (hjoin : t.nc.joinTimer = none) : t.regime.Ok := by
  refine ⟨?_, hpower, iff_of_false ?_ fun h => ?_, fun h => ?_⟩
  · rcases hstate with h | h <;> exact congrArg NodeState.running h
  · simp [State.regime, hjoin]
  · rcases hstate with hs | hs <;> cases hs.symm.trans h
  · rcases hstate with hs | hs <;> cases hs.symm.trans h

/-- R143: in STANDBY no pass is timed and no round. -/
theorem Regime.Ok.awake_of_pace (hs : s.regime.Ok) (h : s.om.paceTimer.isSome = true) : s.nc.state ≠ .standby := by
  intro hstandby
  obtain ⟨-, hpace, -, -⟩ := hs.rests hstandby
  exact Bool.false_ne_true ((congrArg Option.isSome hpace).symm.trans h)

theorem Regime.Ok.awake_of_refresh (hs : s.regime.Ok) (h : s.om.refreshTimer.isSome = true) :
    s.nc.state ≠ .standby := by
  intro hstandby
  obtain ⟨-, -, hrefresh, -⟩ := hs.rests hstandby
  exact Bool.false_ne_true ((congrArg Option.isSome hrefresh).symm.trans h)

/-- R190: outside JOINING the join timer does not run. -/
theorem Regime.Ok.joinTimer_none (hs : s.regime.Ok) (h : s.nc.state ≠ .joining) : s.nc.joinTimer = none := by
  rw [← Option.not_isSome_iff_eq_none]
  exact fun hjoin => h (hs.joins.mp hjoin)

end

/-! ## Operations that leave the regime alone -/

section
variable (s : State)

@[simp] theorem State.onSt_regime (f) : (s.onSt f).regime = s.regime := rfl
@[simp] theorem State.onMs_regime (f) : (s.onMs f).regime = s.regime := rfl
@[simp] theorem State.onDc_regime (f) : (s.onDc f).regime = s.regime := rfl
@[simp] theorem State.send_regime (d b) : (s.send d b).regime = s.regime := rfl
@[simp] theorem State.markMap_regime : s.markMap.regime = s.regime := rfl
@[simp] theorem State.setOutlet_regime (k o) : (s.onOm (OutletMonitor.setOutlet k o)).regime = s.regime := rfl
@[simp] theorem State.reportConfirmation_regime (k) : (s.reportConfirmation k).regime = s.regime := rfl

@[simp] theorem State.clearLog_regime : s.clearLog.regime = s.regime := by
  unfold State.clearLog; split <;> rfl

@[simp] theorem State.reportLost_regime (r) : (s.reportLost r).regime = s.regime := by
  rw [State.reportLost_eq]; rfl

@[simp] theorem State.reportMisplaced_regime (r) : (s.reportMisplaced r).regime = s.regime := by
  unfold State.reportMisplaced; split <;> rfl

@[simp] theorem State.endRecord_regime (n) : (s.endRecord n).regime = s.regime := by
  unfold State.endRecord; split <;> rfl

@[simp] theorem State.discard_regime (j) : (s.discard j).regime = s.regime := by
  cases j <;> rfl

/-! ### The Outlet Monitor -/

@[simp] theorem State.dropArmed_regime (k) : (s.dropArmed k).regime = s.regime := by
  obtain ⟨n, hn⟩ := s.dropArmed_all k
  rw [hn]
  rfl

@[simp] theorem State.summarise_regime (k first) : (s.summarise k first).regime = s.regime := by
  rw [State.summarise_eq]; split <;> rfl

@[simp] theorem State.rederive_regime (k first) : (s.rederive k first).regime = s.regime := by
  simp only [State.rederive, State.summarise_regime]
  repeat' split
  all_goals simp

@[simp] theorem State.rederiveDecks_regime (ds) : (s.rederiveDecks ds).regime = s.regime := by
  refine foldl_keeps (g := State.regime) (fun u k => ?_) _ s
  repeat' split
  all_goals simp

@[simp] theorem State.clearClosedDecks_regime : s.clearClosedDecks.regime = s.regime :=
  State.rederiveDecks_regime ..

@[simp] theorem State.followFault_regime (k a) : (s.followFault k a).regime = s.regime := by
  simp [State.followFault]

@[simp] theorem State.reportMiss_regime (k) : (s.reportMiss k).regime = s.regime := by
  unfold State.reportMiss
  dsimp only
  split
  · exact State.rederive_regime ..
  · rfl

@[simp] theorem State.takeRestore_regime (rx n) : (s.takeRestore rx n).regime = s.regime := by
  unfold State.takeRestore
  split
  · rfl
  · exact State.rederive_regime ..

@[simp] theorem State.takeDeckClose_regime (d) : (s.takeDeckClose d).regime = s.regime := by
  unfold State.takeDeckClose
  split
  · exact State.rederiveDecks_regime ..
  · rfl

@[simp] theorem State.takeDeckOpen_regime (d) : (s.takeDeckOpen d).regime = s.regime := by
  unfold State.takeDeckOpen
  split
  · exact State.rederiveDecks_regime ..
  · rfl

@[simp] theorem State.takeOutletState_regime (c rx r) :
    (s.onOm (OutletMonitor.takeOutletState c rx r)).regime = s.regime := by
  unfold State.onOm OutletMonitor.takeOutletState OutletMonitor.hear
  repeat' split
  all_goals rfl

/-! ### The Stray Unit and the Manifest Store -/

@[simp] theorem State.logStray_regime (ts r l n) : (s.logStray ts r l n).regime = s.regime := by
  unfold State.logStray; split <;> rfl

@[simp] theorem State.takeLost_regime (r) : (s.takeLost r).regime = s.regime := by
  unfold State.takeLost; repeat' split
  all_goals rfl

@[simp] theorem State.takeMisplaced_regime (n r) : (s.takeMisplaced n r).regime = s.regime := by
  unfold State.takeMisplaced; repeat' split
  all_goals rfl

@[simp] theorem State.takeCall_regime (n q ts) : (s.takeCall n q ts).regime = s.regime := by
  unfold State.takeCall
  split
  · rfl
  · refine (foldl_keeps (g := State.regime) (fun u tag => ?_) _ _).trans rfl
    unfold State.answerCall
    split <;> rfl

@[simp] theorem State.takeClaim_regime (rx q f) : (s.takeClaim rx q f).regime = s.regime := by
  unfold State.takeClaim; dsimp only; split <;> rfl

@[simp] theorem State.commitStores_regime (x) : (s.commitStores x).regime = s.regime :=
  (foldl_keeps State.reportMisplaced_regime _ _).trans rfl

@[simp] theorem State.applyHeld_regime (t) : (s.applyHeld t).regime = s.regime := by
  cases t with
  | manifest f => exact State.commitStores_regime ..
  | withdraw tag => exact State.commitStores_regime ..
  | deckMap f =>
    change (s.applyDeckMap f).regime = s.regime
    unfold State.applyDeckMap; repeat' split
    all_goals rfl

@[simp] theorem State.takeManifestTelegram_regime (t) : (s.takeManifestTelegram t).regime = s.regime := by
  unfold State.takeManifestTelegram; split <;> simp

@[simp] theorem State.examineNext_regime (n) : (s.examineNext n).regime = s.regime := by
  unfold State.examineNext; split <;> simp

@[simp] theorem State.takePurge_regime : s.takePurge.regime = s.regime := by
  simp [State.takePurge]

@[simp] theorem State.completePurge_regime : s.completePurge.regime = s.regime :=
  (foldl_keeps State.applyHeld_regime _ _).trans rfl

/-! ### The Section Tracker and the reader port -/

@[simp] theorem State.takeClosePoint_regime (n) : (s.takeClosePoint n).regime = s.regime := by
  unfold State.takeClosePoint; repeat' split
  all_goals rfl

@[simp] theorem State.registerClosePoint_regime (n x l) : (s.registerClosePoint n x l).regime = s.regime :=
  State.takeClosePoint_regime ..

@[simp] theorem State.bindIfAwaiting_regime (n l) : (s.bindIfAwaiting n l).regime = s.regime := by
  unfold State.bindIfAwaiting State.bindAtTrailing; repeat' split
  all_goals simp

@[simp] theorem State.takeSpanPoint_regime (n) : (s.takeSpanPoint n).regime = s.regime := by
  unfold State.takeSpanPoint; repeat' split
  all_goals rfl

@[simp] theorem State.followDelivery_regime (k r x) : (s.followDelivery k r x).regime = s.regime := by
  cases x <;> simp [State.followDelivery]

@[simp] theorem State.deliverPush_regime (k r) : (s.deliverPush k r).regime = s.regime := by
  simp [State.deliverPush]

@[simp] theorem State.takeRate_regime (e) : (State.takeRate e s).regime = s.regime := by
  cases e <;> rfl

/-! ### RESET -/

/-- R195: what the blocks do at a RESET, before the node joins anew. -/
@[simp] theorem State.resetBlocks_regime : s.resetBlocks.regime = s.regime := by
  have habandon : s.abandon.regime = s.regime := (foldl_keeps (fun u _ => State.endRecord_regime u _) _ _).trans rfl
  exact Eq.trans rfl habandon

end

/-! ## STANDBY and the wakes (R192 to R194) -/

section
variable {s t : State}

/-- R193, R143, R59: a node enters STANDBY with its gauges and its refresh timer stopped and its assembly cleared. -/
theorem Regime.Ok.standbyTest (hs : s.regime.Ok) : s.standbyTest.regime.Ok := by
  rcases s.standbyTest_cases with h | ⟨hpending, -, h⟩ <;> rw [h]
  · exact hs
  · have hjoin : s.nc.joinTimer = none := hs.joinTimer_none (by rw [hpending]; decide)
    refine ⟨rfl, hs.powered, iff_of_false ?_ ?_, fun _ => ⟨rfl, rfl, rfl, rfl⟩⟩
    · have hstill : s.enterStandby.regime.joinTimer = none := hjoin
      simp [hstill]
    · rintro ⟨⟩

/-- The standby test after an operation that leaves the regime alone. -/
theorem Regime.Ok.tested (hs : s.regime.Ok) (h : t.regime = s.regime) : t.standbyTest.regime.Ok := (hs.of_eq h).standbyTest

theorem Regime.Ok.wakeUp (hs : s.regime.Ok) : s.wakeUp.regime.Ok := by
  rw [State.wakeUp_eq]
  split
  · rename_i hstandby
    exact Regime.ok_of_stopped (.inl rfl) hs.powered (hs.joinTimer_none (by rw [hstandby]; decide))
  · exact hs

theorem Regime.Ok.wakeIfAddressed (hs : s.regime.Ok) (rx : Rx) : (s.wakeIfAddressed rx).regime.Ok := by
  unfold State.wakeIfAddressed
  split
  · exact hs
  · exact hs.wakeUp

theorem Regime.Ok.takeStandby (hs : s.regime.Ok) : s.takeStandby.regime.Ok := by
  unfold State.takeStandby
  split
  · rename_i hsorting
    refine Regime.Ok.standbyTest ?_
    exact Regime.ok_of_stopped (.inr rfl) hs.powered (hs.joinTimer_none (by rw [hsorting]; decide))
  · exact hs

theorem Regime.Ok.takeWake (hs : s.regime.Ok) : s.takeWake.regime.Ok := by
  unfold State.takeWake
  split
  · rename_i hpending
    exact Regime.ok_of_stopped (.inl rfl) hs.powered (hs.joinTimer_none (by rw [hpending]; decide))
  · exact hs.wakeUp
  · exact hs

theorem Regime.Ok.takeReset (hs : s.regime.Ok) : s.takeReset.regime.Ok := by
  have hpower : s.resetBlocks.nc.powered = true := (congrArg Regime.powered s.resetBlocks_regime).trans hs.powered
  unfold State.takeReset
  dsimp only
  rw [State.rejoinHall, State.queueOutletStates_eq]
  split <;> exact Regime.ok_joining rfl hpower rfl

theorem Regime.Ok.takeQuery (hs : s.regime.Ok) (rx : Rx) (kind : Byte) (build : State → Answer) :
    (s.takeQuery rx kind build).regime.Ok := by
  unfold State.takeQuery
  split
  · exact hs
  · exact hs.wakeUp

theorem Regime.Ok.takeLogQuery (hs : s.regime.Ok) (rx : Rx) (cursor part : Nat) :
    (s.takeLogQuery rx cursor part).regime.Ok := by
  unfold State.takeLogQuery
  dsimp only
  split <;> exact hs.takeQuery ..

theorem Regime.Ok.takeMapQuery (hs : s.regime.Ok) (rx : Rx) (cursor : Nat) : (s.takeMapQuery rx cursor).regime.Ok := by
  unfold State.takeMapQuery
  dsimp only
  split <;> exact hs.takeQuery ..

/-! ## The Section Tracker (chapter 2) -/

theorem Regime.Ok.inductionBlocked (hs : s.regime.Ok) : s.inductionBlocked.regime.Ok := by
  unfold State.inductionBlocked
  dsimp only
  split <;> exact hs.wakeUp

theorem Regime.Ok.trailingEdge (hs : s.regime.Ok) (n leading : Count) : (s.trailingEdge n leading).regime.Ok := by
  unfold State.trailingEdge
  dsimp only
  repeat' split
  · exact hs.tested (by simp)
  · exact hs.of_eq (by simp)
  · exact hs.of_eq (by simp)

theorem Regime.Ok.inductionCleared (hs : s.regime.Ok) : s.inductionCleared.regime.Ok := by
  unfold State.inductionCleared
  dsimp only
  repeat' split
  · exact hs
  · exact hs
  · exact hs
  · exact Regime.Ok.trailingEdge (s := s.onSt _) hs _ _

theorem Regime.Ok.handoffBlocked (hs : s.regime.Ok) : s.handoffBlocked.regime.Ok := by
  unfold State.handoffBlocked
  repeat' split
  · exact hs.tested (by simp)
  · exact hs
  · exact hs

theorem Regime.Ok.takeWindowEnd (hs : s.regime.Ok) (n : Count) : (s.takeWindowEnd n).regime.Ok := by
  unfold State.takeWindowEnd
  repeat' split
  · exact hs.tested (by simp)
  · exact hs
  · exact hs

theorem Regime.Ok.takeExpiry (hs : s.regime.Ok) (node : Nat) (bag : Count) : (s.takeExpiry node bag).regime.Ok := by
  unfold State.takeExpiry
  repeat' split
  · exact hs.tested (by simp)
  · exact hs
  · exact hs

/-! ## The Divert Controller (chapter 5) -/

theorem Regime.Ok.takeDeadline (hs : s.regime.Ok) (n : Count) : (s.takeDeadline n).regime.Ok := by
  unfold State.takeDeadline
  repeat' split
  · exact hs.tested (by simp)
  · exact hs
  · exact hs

theorem Regime.Ok.takeFirePoint (hs : s.regime.Ok) (n : Count) : (s.takeFirePoint n).regime.Ok := by
  unfold State.takeFirePoint
  repeat' split
  · exact Regime.Ok.takeDeadline (s := (s.onDc _).onSt _) hs _
  · exact hs.tested (by simp)
  · exact hs
  · exact hs

theorem Regime.Ok.commit (hs : s.regime.Ok) (k : OutletNo) (r : BagRecord) (x : CommitmentKind) :
    (s.commit k r x).regime.Ok := Regime.Ok.takeFirePoint (s := (s.onDc _).onSt _) hs _

theorem Regime.Ok.carryOut (hs : s.regime.Ok) (k : OutletNo) (r : BagRecord) (d : Decision) :
    (s.carryOut k r d).regime.Ok := by
  cases d with
  | pass | passNoLength | markStray | deferBag => exact hs
  | commitStray => exact hs.commit k r _
  | commitDeck tag cabin deck => exact hs.commit k r _

theorem Regime.Ok.takeArmPoint (hs : s.regime.Ok) (n : Count) (k : OutletNo) : (s.takeArmPoint n k).regime.Ok := by
  unfold State.takeArmPoint
  dsimp only
  repeat' split
  · exact hs
  · exact Regime.Ok.carryOut (s := (s.onDc _).onDc _) hs ..
  · exact hs
  · exact hs
  · exact hs

theorem Regime.Ok.exitBlocked (hs : s.regime.Ok) (k : OutletNo) : (s.exitBlocked k).regime.Ok := by
  unfold State.exitBlocked
  split
  · exact hs.tested (by simp)
  · exact hs

theorem Regime.Ok.takePoint (hs : s.regime.Ok) (p : Point) : (s.takePoint p).regime.Ok := by
  cases p with
  | span n => exact hs.of_eq (s.takeSpanPoint_regime n)
  | windowEnd n => exact hs.takeWindowEnd n
  | expiry node bag => exact hs.takeExpiry node bag
  | close n => exact hs.of_eq (s.takeClosePoint_regime n)
  | arm n k => exact hs.takeArmPoint n k
  | fire n => exact hs.takeFirePoint n
  | deadline n => exact hs.takeDeadline n

theorem Regime.Ok.settlePoints (hs : s.regime.Ok) : s.settlePoints.regime.Ok := by
  unfold State.settlePoints
  induction s.duePoints generalizing s with
  | nil => exact hs
  | cons p ps ih => exact ih (hs.takePoint p)

/-! ## The reader port and the gauges (R52, R53, R59, R120, R122) -/

theorem State.bindRead_nc (s : State) (tag : Nat) : (s.bindRead tag).nc = s.nc := by
  unfold State.bindRead; split <;> rfl

theorem State.judgeReport_nc (s : State) (cs : List Byte) : (s.judgeReport cs).nc = s.nc := by
  unfold State.judgeReport
  dsimp only
  split
  · exact State.bindRead_nc ..
  · rfl

theorem State.assemble_nc (s : State) (ch : Byte) : (s.assemble ch).nc = s.nc := by
  unfold State.assemble
  repeat' split
  · rfl
  · rfl
  · rfl
  · rfl
  · rfl
  · exact State.judgeReport_nc ..
  · rfl

/-- R59: in STANDBY a character reaches no assembly. -/
theorem Regime.Ok.takeCharacter (hs : s.regime.Ok) (e : LineEvent) : (State.takeCharacter e s).regime.Ok := by
  cases e with
  | framingError | brokenLine => exact hs
  | character ch =>
    unfold State.takeCharacter State.receiveCharacter
    dsimp only
    split
    · exact hs
    · exact hs.of_awake ‹_› (State.assemble_nc ..)

/-- R53: a fault in the line leaves no assembly. -/
theorem TagReadPort.framingError_assembly (auto : Bool) (t : TagReadPort) : (t.framingError auto).assembly = none := by
  rw [TagReadPort.framingError_eq auto t _ rfl]
  split <;> rfl

theorem Regime.Ok.takeFramingError (hs : s.regime.Ok) : s.takeFramingError.regime.Ok := by
  by_cases hstandby : s.nc.state = .standby
  · obtain ⟨-, -, -, hnone⟩ := hs.rests hstandby
    refine hs.of_eq ?_
    have hassembly : s.takeFramingError.trp.assembly = s.trp.assembly :=
      (TagReadPort.framingError_assembly ..).trans hnone.symm
    rw [State.regime, hassembly]
    rfl
  · exact hs.of_awake hstandby rfl

theorem Regime.Ok.takeBreak (hs : s.regime.Ok) : s.takeBreak.regime.Ok := by
  unfold State.takeBreak
  split
  · exact hs
  · refine hs.of_awake ‹_› ?_
    unfold State.bindBreak
    split <;> rfl

/-- R143: in STANDBY the converter is on no outlet. -/
theorem Regime.Ok.takeConversions (hs : s.regime.Ok) {k : OutletNo} (hpass : s.om.pass = some k)
    (codes : List (BitVec 10)) : (s.takeConversions k codes).regime.Ok := by
  have hawake : s.nc.state ≠ .standby := fun hstandby => by
    obtain ⟨hnone, -⟩ := hs.rests hstandby
    cases hnone.symm.trans hpass
  unfold State.takeConversions
  dsimp only
  rw [State.rederive_regime]
  exact hs.of_awake hawake rfl

/-! ## The Hall Line Controller (chapter 8) -/

theorem Regime.Ok.endAttempt (hs : s.regime.Ok) (e : HallEvent) : (State.endAttempt e s).regime.Ok := by
  unfold State.endAttempt
  split
  · exact hs.tested rfl
  · exact hs

/-- R181, R135: a round is queued in the node states that report outlets, of which STANDBY is none. -/
theorem Regime.Ok.rejoin (hs : s.regime.Ok) : s.rejoin.regime.Ok := by
  unfold State.rejoin
  dsimp only
  split
  · rename_i hreports
    have hawake : s.nc.state ≠ .standby := fun h => by rw [h] at hreports; cases hreports
    rw [State.queueOutletStates_eq]
    exact hs.of_awake hawake rfl
  · exact hs

/-- R174: entries leave the queue or stay as the score changes. -/
theorem HallLine.rescore_queue (f : Nat → Nat) (h : HallLine) : (h.rescore f).queue = h.queue := by
  unfold HallLine.rescore; split <;> rfl

theorem State.startAttempt_statesOk (hs : s.statesOk) : s.startAttempt.statesOk := by
  unfold State.startAttempt
  split
  · rename_i hchance
    simp only [State.chance, State.maySend, Bool.and_eq_true] at hchance
    obtain ⟨⟨⟨⟨hrun, -⟩, -⟩, -⟩, -⟩ := hchance
    exact State.statesOk_of_regime ((State.regime_of_statesOk hs hrun).of_eq rfl)
  · exact hs

theorem State.takeFault_statesOk (hs : s.statesOk) : s.takeFault.statesOk := by
  refine State.statesOk_of_eq (s := s) rfl rfl ?_ hs
  unfold State.takeFault
  split
  · exact HallLine.rescore_queue (scoreUp 1) _
  · rfl

theorem State.takeIdleGap_statesOk (hs : s.statesOk) : s.takeIdleGap.statesOk := by
  unfold State.takeIdleGap
  split
  · rename_i hrun
    have hregime := State.regime_of_statesOk hs hrun
    refine State.statesOk_of_regime ?_
    repeat' split
    · exact hregime.tested rfl
    · exact hregime.rejoin
    · exact hregime
    · exact hregime
  · exact hs

end

/-! ## The commands -/

section
variable {s : State}

/-- The outcome of a command that leaves timers, gauges and pushers as the node state has them. -/
def outcomeStatesOk (o : Host.Outcome State Fault Refusal) : Prop := ∃ t, o = .next t ∧ t.statesOk

/-- A running node's operation behind its guard. -/
theorem State.ite_statesOk {t : State} {p : Prop} [Decidable p] (hs : s.statesOk) (hp : p → s.running = true)
    (h : p → s.regime.Ok → t.regime.Ok) : (if p then t else s).statesOk := by
  split
  · rename_i hguard
    exact State.statesOk_of_regime (h hguard (State.regime_of_statesOk hs (hp hguard)))
  · exact hs

theorem statesOk_ite {t : State} {p : Prop} [Decidable p] (hs : s.statesOk) (h : p → t.statesOk) :
    outcomeStatesOk (.next (if p then t else s)) := by
  refine ⟨_, rfl, ?_⟩
  split
  · exact h ‹_›
  · exact hs

/-- A command of a running node. -/
theorem statesOk_running {t : State} {p : Prop} [Decidable p] (hs : s.statesOk) (hp : p → s.running = true)
    (h : p → s.regime.Ok → t.regime.Ok) : outcomeStatesOk (.next (if p then t else s)) :=
  ⟨_, rfl, State.ite_statesOk hs hp h⟩

/-- The samples of a running node's command, and the effect of their event. -/
theorem statesOk_sampled {σ ε : Type} {r : Option (σ × Option ε)} {store : σ → State → State} {act : ε → State → State}
    {p : Prop} [Decidable p] (hs : s.statesOk) (hp : p → s.running = true) (hstore : ∀ f, (store f s).regime = s.regime)
    (hact : ∀ e (u : State), u.regime.Ok → (act e u).regime.Ok) :
    outcomeStatesOk (.next (if p then s.heard r store act else s)) := by
  refine statesOk_running hs hp fun _ hregime => ?_
  rcases s.heard_cases r store act with ⟨-, he⟩ | ⟨f, -, he⟩ | ⟨f, e, -, he⟩ <;> rw [he]
  · exact hregime
  · exact hregime.of_eq (hstore f)
  · exact hact e _ (hregime.of_eq (hstore f))

/-- R184: the bits of a command of the hall line, which a node in CONFIG-FAULT reads too. -/
theorem statesOk_bits {r : Option (LineWatch × Option HallEvent)} {act : HallEvent → State → State} {p : Prop}
    [Decidable p] (hs : s.statesOk) (hact : ∀ e (u : State), u.statesOk → (act e u).statesOk) :
    outcomeStatesOk (.next (if p then s.heard r State.putWatch act else s)) := by
  refine statesOk_ite hs fun _ => ?_
  have hstore : ∀ w, (State.putWatch w s).statesOk := fun w => State.statesOk_of_eq rfl rfl rfl hs
  rcases s.heard_cases r State.putWatch act with ⟨-, he⟩ | ⟨w, -, he⟩ | ⟨w, e, -, he⟩ <;> rw [he]
  · exact hs
  · exact hstore w
  · exact hact e _ (hstore w)

/-- R182, R183: a telegram of a running node is given to its owner; at any other it is at most counted. -/
theorem State.receive_statesOk {owner : State → State} (hs : s.statesOk)
    (h : ∀ u : State, u.regime.Ok → (owner u).regime.Ok) (cls : Byte) (rx : Rx) (p : List Byte) :
    (s.receive cls rx p owner).statesOk := by
  by_cases hrun : s.running = true
  · have hregime : (s.takeTelegram rx).regime.Ok := (State.regime_of_statesOk hs hrun).of_eq rfl
    unfold State.receive
    split
    · exact hs
    · exact State.statesOk_of_eq rfl rfl rfl hs
    · refine State.statesOk_of_regime ?_
      split
      · exact h _ hregime
      · exact hregime.of_eq (State.discard_regime ..)
  · rw [State.receive_not_running (Bool.eq_false_iff.mpr hrun)]
    split
    · exact hs
    · exact State.statesOk_of_eq rfl rfl rfl hs

/-- R182, R183: a telegram that no block is given is only counted. -/
theorem State.takeDiscarded_statesOk (hs : s.statesOk) (cls : Byte) (rx : Rx) (p : List Byte) :
    (s.takeDiscarded cls rx p).statesOk := by
  have hqueue : ∀ j, ((s.takeTelegram rx).discard j).hlc.queue = s.hlc.queue := fun j => by
    cases j <;> exact HallLine.rescore_queue (scoreDown 1) _
  have hstrokes : ∀ j, ((s.takeTelegram rx).discard j).dc.strokes = s.dc.strokes := fun j => by cases j <;> rfl
  unfold State.takeDiscarded
  repeat' split
  · exact hs
  · exact State.statesOk_of_eq rfl rfl rfl hs
  · exact hs
  · exact State.statesOk_of_eq (s := s) (State.discard_regime ..) (hstrokes _) (hqueue _) hs

theorem statesOk_receive {owner : State → State} {cls : Byte} {rx : Rx} {p : List Byte} (hs : s.statesOk)
    (h : ∀ u : State, u.regime.Ok → (owner u).regime.Ok) : outcomeStatesOk (.next (s.receive cls rx p owner)) :=
  ⟨_, rfl, State.receive_statesOk hs h cls rx p⟩

theorem State.running_of_readerRuns (s : State) (h : s.readerRuns = true) : s.running = true :=
  Bool.and_elim_left (Bool.and_elim_left h)

theorem State.running_of_readerMeasures (s : State) (h : s.readerMeasures = true) : s.running = true :=
  Bool.and_elim_left (Bool.and_elim_left h)

/-! ### Power and START -/

theorem statesOk_powerOn (hs : s.statesOk) : outcomeStatesOk (exec .powerOn s) := by
  refine ⟨_, rfl, ?_⟩
  split
  · exact hs
  · rename_i hoff
    obtain ⟨hjoin, -, hpower, hidle⟩ := hs
    have hstart : s.nc.state = .start := hpower (Bool.eq_false_iff.mpr hoff)
    have hstopped := hidle (by rw [State.running, hstart]; rfl)
    have hbegun : (s.onNc fun n => { n with powered := true, state := .start }).statesOk := by
      refine ⟨iff_of_false (fun h => ?_) ?_, fun h => ?_, fun _ => rfl, fun _ => hstopped⟩
      · cases (hjoin.mp h).symm.trans hstart
      · rintro ⟨⟩
      · cases h
    refine State.statesOk_of_eq ?_ ?_ ?_ hbegun <;> (unfold State.finishPendingPurge; split <;> rfl)

/-- R189: a node in CONFIG-FAULT runs no more than one in START. -/
theorem State.enterConfigFault_statesOk (hs : s.statesOk) (hpower : s.nc.powered = true) (hstart : s.nc.state = .start)
    (code : Nat) : (s.enterConfigFault code).statesOk := by
  obtain ⟨hjoin, -, -, hidle⟩ := hs
  have hstopped := hidle (by rw [State.running, hstart]; rfl)
  refine ⟨iff_of_false (fun h => ?_) ?_, fun h => ?_, fun hoff => ?_, fun _ => hstopped⟩
  · cases (hjoin.mp h).symm.trans hstart
  · rintro ⟨⟩
  · cases h
  · cases hpower.symm.trans hoff

theorem statesOk_startComplete (hs : s.statesOk) (straps : BitVec 6) (image : List Byte) :
    outcomeStatesOk (exec (.startComplete straps image) s) := by
  refine statesOk_ite hs fun ⟨hpower, hstart⟩ => ?_
  split
  · exact State.enterConfigFault_statesOk hs hpower hstart _
  · exact State.statesOk_of_regime (Regime.ok_joining rfl hpower rfl)

theorem statesOk_powerLoss (hs : s.statesOk) : outcomeStatesOk (exec .powerLoss s) :=
  statesOk_ite hs fun _ => State.reset_statesOk

theorem statesOk_retentionLow (hs : s.statesOk) : outcomeStatesOk (exec .retentionLow s) := by
  refine ⟨_, rfl, ?_⟩
  split
  · exact hs
  · exact hs

/-! ### Every command -/

theorem exec_statesOk (c : Instr) (hs : s.statesOk) : outcomeStatesOk (exec c s) := by
  cases c with
  | powerOn => exact statesOk_powerOn hs
  | startComplete straps image => exact statesOk_startComplete hs straps image
  | powerLoss => exact statesOk_powerLoss hs
  | retentionLow => exact statesOk_retentionLow hs
  | encoderPulse => exact statesOk_running hs id fun _ h => Regime.Ok.settlePoints (s := s.onSt _) h
  | speedWindowEnd => exact statesOk_running hs id fun _ h => h
  | inductionBlockedEdge samples => exact statesOk_sampled hs id (fun _ => rfl) fun _ _ h => h.inductionBlocked
  | inductionClearedEdge samples => exact statesOk_sampled hs id (fun _ => rfl) fun _ _ h => h.inductionCleared
  | handoffEyeBlockedEdge samples => exact statesOk_sampled hs id (fun _ => rfl) fun _ _ h => h.handoffBlocked
  | exitEyeBlockedEdge k samples => exact statesOk_sampled hs Bool.and_elim_left (fun _ => rfl) fun _ _ h => h.exitBlocked k
  | actuatorFaultChange k samples =>
    exact statesOk_sampled hs Bool.and_elim_left (fun _ => rfl) fun e u h => h.of_eq (u.followFault_regime k e.level)
  | framingError line =>
    exact statesOk_sampled hs s.running_of_readerRuns (fun _ => rfl) fun _ _ h => h.takeFramingError
  | readerBreak line => exact statesOk_sampled hs s.running_of_readerRuns (fun _ => rfl) fun _ _ h => h.takeBreak
  | report line => exact statesOk_sampled hs s.running_of_readerRuns (fun _ => rfl) fun e _ h => h.takeCharacter e
  | characterReceived line =>
    exact statesOk_sampled hs s.running_of_readerRuns (fun _ => rfl) fun e _ h => h.takeCharacter e
  | rateMeasurement line =>
    exact statesOk_sampled hs s.running_of_readerMeasures (fun _ => rfl) fun e u h => h.of_eq (u.takeRate_regime e)
  | rateOverflow line =>
    exact statesOk_sampled hs s.running_of_readerMeasures (fun _ => rfl) fun e u h => h.of_eq (u.takeRate_regime e)
  | spanPoint n => exact statesOk_running hs id fun _ h => h.of_eq (s.takeSpanPoint_regime n)
  | windowEndPoint n => exact statesOk_running hs id fun _ h => h.takeWindowEnd n
  | expiryPoint node bag => exact statesOk_running hs id fun _ h => h.takeExpiry node bag
  | closePoint n => exact statesOk_running hs id fun _ h => h.of_eq (s.takeClosePoint_regime n)
  | armPoint n k => exact statesOk_running hs id fun _ h => h.takeArmPoint n k
  | firePoint n => exact statesOk_running hs id fun _ h => h.takeFirePoint n
  | deadlinePoint n => exact statesOk_running hs id fun _ h => h.takeDeadline n
  | strokeTimerExpiry k => exact statesOk_running hs Bool.and_elim_left fun _ h => h.tested rfl
  | gaugeConversionEnd codes =>
    refine ⟨_, rfl, ?_⟩
    split
    · exact State.ite_statesOk hs Bool.and_elim_left fun _ h => h.takeConversions ‹_› codes
    · exact hs
  | gaugePassStart =>
    exact statesOk_running hs (fun h => Bool.and_elim_left (Bool.and_elim_left h)) fun hguard h =>
      h.of_awake (h.awake_of_pace (Bool.and_elim_right (Bool.and_elim_left hguard))) rfl
  | refreshTimerExpiry =>
    refine statesOk_running hs Bool.and_elim_left fun hguard h => ?_
    rw [State.queueOutletStates_eq]
    exact h.of_awake (h.awake_of_refresh (Bool.and_elim_right hguard)) rfl
  | viewExpiry peer deck time => exact statesOk_running hs Bool.and_elim_left fun _ h => h
  | claimWindowEnd sequence =>
    exact statesOk_running hs Bool.and_elim_left fun _ h => h.of_eq (by dsimp only; split <;> rfl)
  | joinTimerExpiry =>
    exact statesOk_running hs (fun ⟨hjoining, _⟩ => congrArg NodeState.running hjoining) fun _ h =>
      Regime.ok_of_stopped (.inl rfl) h.powered rfl
  | sweepExamination =>
    refine ⟨_, rfl, ?_⟩
    split
    · refine State.ite_statesOk hs id fun _ h => h.of_eq (s.examineNext_regime _)
    · exact hs
  | purgeComplete => exact statesOk_running hs Bool.and_elim_left fun _ h => h.of_eq s.completePurge_regime
  | attemptStart line =>
    refine statesOk_ite hs fun _ => ?_
    split
    · exact hs
    · exact State.startAttempt_statesOk (State.statesOk_of_eq rfl rfl rfl hs)
  | attemptEnd line => exact statesOk_sampled hs id (fun _ => rfl) fun e _ h => h.endAttempt e
  | receiveError line => exact statesOk_bits hs fun _ _ h => State.takeFault_statesOk h
  | detachment line => exact statesOk_bits hs fun _ _ h => State.takeIdleGap_statesOk h
  | rejoin line => exact statesOk_bits hs fun _ _ h => State.takeIdleGap_statesOk h
  | idleGap line => exact statesOk_bits hs fun _ _ h => State.takeIdleGap_statesOk h
  | telegramDiscarded cls rx p => exact ⟨_, rfl, State.takeDiscarded_statesOk hs cls rx p⟩
  | handoff rx p => exact statesOk_receive hs fun _ h => h.wakeIfAddressed rx
  | manifest rx p => exact statesOk_receive hs fun u h => h.of_eq (u.takeManifestTelegram_regime _)
  | manifestWithdraw rx p => exact statesOk_receive hs fun u h => h.of_eq (u.takeManifestTelegram_regime _)
  | deckMap rx p => exact statesOk_receive hs fun u h => h.of_eq (u.takeManifestTelegram_regime _)
  | delivered rx p => exact statesOk_receive hs fun _ h => h
  | purge rx p => exact statesOk_receive hs fun u h => h.of_eq u.takePurge_regime
  | outletState rx p => exact statesOk_receive hs fun u h => h.of_eq (u.takeOutletState_regime ..)
  | deckClose rx p => exact statesOk_receive hs fun u h => h.of_eq (u.takeDeckClose_regime _)
  | deckOpen rx p => exact statesOk_receive hs fun u h => h.of_eq (u.takeDeckOpen_regime _)
  | outletRestore rx p => exact statesOk_receive hs fun u h => (h.wakeIfAddressed rx).of_eq (State.takeRestore_regime ..)
  | strayCall rx p => exact statesOk_receive hs fun u h => h.of_eq (u.takeCall_regime ..)
  | claim rx p => exact statesOk_receive hs fun u h => (h.wakeIfAddressed rx).of_eq (State.takeClaim_regime ..)
  | lost rx p => exact statesOk_receive hs fun u h => h.of_eq (u.takeLost_regime _)
  | misplaced rx p => exact statesOk_receive hs fun u h => h.of_eq (u.takeMisplaced_regime ..)
  | reset rx p => exact statesOk_receive hs fun _ h => h.takeReset
  | standby rx p => exact statesOk_receive hs fun _ h => h.takeStandby
  | wake rx p => exact statesOk_receive hs fun _ h => h.takeWake
  | hello rx p => exact statesOk_receive hs fun _ h => h
  | identity rx a => exact statesOk_receive hs fun _ h => h.takeQuery ..
  | outlet rx a => exact statesOk_receive hs fun _ h => h.takeQuery ..
  | tag rx a => exact statesOk_receive hs fun _ h => h.takeQuery ..
  | cabin rx a => exact statesOk_receive hs fun _ h => h.takeQuery ..
  | counters rx a => exact statesOk_receive hs fun _ h => h.takeQuery ..
  | strayLog rx a => exact statesOk_receive hs fun _ h => h.takeLogQuery ..
  | map rx a => exact statesOk_receive hs fun _ h => h.takeMapQuery ..
  | queryKindUnknown rx kind a =>
    refine ⟨_, rfl, ?_⟩
    unfold State.takeUnknownKind
    split
    · exact hs
    · exact State.receive_statesOk hs (fun _ h => h.takeQuery ..) ..

end

end Sys2Proof.Machine

open Sys2Proof.Machine

/-- Settles O19: a running node keeps its regime in order through every operation; one that does not run takes no command that
starts a pusher, a timer or a telegram of its own. -/
theorem nodeStatesKept : Obligations.NodeStatesKept := by
  unfold Obligations.NodeStatesKept
  exact fun s t hs hstep =>
    step_of_exec (P := fun s t => s.statesOk → t.statesOk) (fun _ => id)
      (fun c cs s => by
        obtain ⟨t, ht, -⟩ := exec_tracks c { s with pending := cs }
        refine ⟨t, ht, fun hs => ?_⟩
        obtain ⟨u, hu, hok⟩ := exec_statesOk (s := { s with pending := cs }) c hs
        cases ht.symm.trans hu
        exact hok) hstep hs

end

section
/-! SUPPORT. Lists kept in rising order of a key (R62, R63): the tag table by tag and the cabin records by cabin. An entry put or
taken out changes the list at one place, and every count over it accordingly. -/

open Sys2Proof

namespace Sys2Proof.Machine

/-! ## One place in a list in order -/

section
variable {α : Type} {key : α → Nat} {l low high : List α} {k : Nat} {old : Option α}

/-- Enters a value at its key's place, in place of the one with that key, if there is one. -/
def putByKey (key : α → Nat) (a : α) : List α → List α
  | [] => [a]
  | x :: xs => if key a < key x then a :: x :: xs else if key a = key x then a :: xs else x :: putByKey key a xs

theorem putEntry_eq (e : TagEntry) (l : List TagEntry) : putEntry e l = putByKey TagEntry.tag e l := by
  induction l with
  | nil => rfl
  | cons x xs ih => rw [putEntry, putByKey, ih]

theorem putCabin_eq (r : CabinRecord) (l : List CabinRecord) : putCabin r l = putByKey CabinRecord.cabin r l := by
  induction l with
  | nil => rfl
  | cons x xs ih => rw [putCabin, putByKey, ih]

/-- A list taken apart at a key: what lies below it, the value with the key, if there is one, and what lies above. -/
structure SplitAt (key : α → Nat) (l : List α) (k : Nat) (low : List α) (old : Option α) (high : List α) : Prop where
  eq    : l = low ++ (old.toList ++ high)
  below : ∀ x ∈ low, key x < k
  above : ∀ x ∈ high, k < key x
  same  : ∀ x, old = some x → key x = k

/-- A list in rising order comes apart at every key. -/
theorem exists_splitAt (hsorted : (l.map key).Pairwise (· < ·)) (k : Nat) : ∃ low old high, SplitAt key l k low old high := by
  induction l with
  | nil => exact ⟨[], none, [], rfl, by simp, by simp, by simp⟩
  | cons x xs ih =>
    obtain ⟨hx, hxs⟩ := List.pairwise_cons.mp (List.map_cons ▸ hsorted)
    have hx' : ∀ y ∈ xs, key x < key y := fun y hy => hx _ (List.mem_map_of_mem hy)
    rcases Nat.lt_trichotomy (key x) k with hlt | heq | hgt
    · obtain ⟨low, old, high, hsplit⟩ := ih hxs
      refine ⟨x :: low, old, high, by rw [hsplit.eq]; rfl, ?_, hsplit.above, hsplit.same⟩
      exact List.forall_mem_cons.mpr ⟨hlt, hsplit.below⟩
    · refine ⟨[], some x, xs, rfl, by simp, fun y hy => heq ▸ hx' y hy, fun y hy => ?_⟩
      cases hy; exact heq
    · refine ⟨[], none, x :: xs, rfl, by simp, ?_, by simp⟩
      exact List.forall_mem_cons.mpr ⟨hgt, fun y hy => hgt.trans (hx' y hy)⟩

namespace SplitAt

variable (h : SplitAt key l k low old high)
include h

theorem find : l.find? (fun x => key x == k) = old := by
  have hlow : low.find? (fun x => key x == k) = none :=
    List.find?_eq_none.mpr fun x hx => by simpa using (h.below x hx).ne
  have hhigh : high.find? (fun x => key x == k) = none :=
    List.find?_eq_none.mpr fun x hx => by simpa using (h.above x hx).ne'
  rw [h.eq, List.find?_append, hlow, Option.none_or, List.find?_append, hhigh]
  cases old with
  | none => rfl
  | some x => simp [h.same x rfl]

theorem put {y : α} (hy : key y = k) : putByKey key y l = low ++ y :: high := by
  obtain ⟨rfl, hlow, hhigh, hsame⟩ := h
  induction low with
  | nil =>
    rcases old with _ | x
    · cases high with
      | nil => rfl
      | cons z zs => exact if_pos (hy ▸ hhigh z List.mem_cons_self)
    · have hx := hsame x rfl
      exact (if_neg (by omega)).trans (if_pos (by omega))
  | cons z zs ih =>
    have hz := hlow z List.mem_cons_self
    rw [List.cons_append, putByKey, if_neg (by omega), if_neg (by omega),
      ih fun x hx => hlow x (List.mem_cons_of_mem _ hx)]
    rfl

theorem filter_ne : l.filter (fun x => key x != k) = low ++ high := by
  have hlow : low.filter (fun x => key x != k) = low :=
    List.filter_eq_self.mpr fun x hx => by simpa using (h.below x hx).ne
  have hhigh : high.filter (fun x => key x != k) = high :=
    List.filter_eq_self.mpr fun x hx => by simpa using (h.above x hx).ne'
  rw [h.eq, List.filter_append, List.filter_append, hlow, hhigh]
  cases old with
  | none => rfl
  | some x => simp [h.same x rfl]

theorem map_eq {f : α → α} : l.map (fun x => if key x = k then f x else x) = low ++ ((old.map f).toList ++ high) := by
  have hlow : low.map (fun x => if key x = k then f x else x) = low :=
    (List.map_congr_left fun x hx => if_neg (h.below x hx).ne).trans (List.map_id _)
  have hhigh : high.map (fun x => if key x = k then f x else x) = high :=
    (List.map_congr_left fun x hx => if_neg (h.above x hx).ne').trans (List.map_id _)
  rw [h.eq, List.map_append, List.map_append, hlow, hhigh]
  cases old with
  | none => rfl
  | some x => simp [h.same x rfl]

theorem sorted_put (hsorted : (l.map key).Pairwise (· < ·)) {y : α} (hy : key y = k) :
    ((low ++ y :: high).map key).Pairwise (· < ·) := by
  have hrest : ((low ++ high).map key).Pairwise (· < ·) := by
    rw [← h.filter_ne]
    exact hsorted.sublist (List.filter_sublist.map key)
  rw [List.pairwise_map] at hrest ⊢
  obtain ⟨hlow, hhigh, hbetween⟩ := List.pairwise_append.mp hrest
  refine List.pairwise_append.mpr ⟨hlow, List.pairwise_cons.mpr ⟨fun x hx => hy ▸ h.above x hx, hhigh⟩, fun x hx z hz => ?_⟩
  rcases List.mem_cons.mp hz with rfl | hz
  · exact hy ▸ h.below x hx
  · exact hbetween x hx z hz

end SplitAt

theorem pairwise_putByKey (hsorted : (l.map key).Pairwise (· < ·)) (y : α) : ((putByKey key y l).map key).Pairwise (· < ·) := by
  obtain ⟨low, old, high, h⟩ := exists_splitAt hsorted (key y)
  rw [h.put rfl]
  exact h.sorted_put hsorted rfl

/-- A value put at its key's place counts in place of the one that stood there. -/
theorem countP_putByKey (hsorted : (l.map key).Pairwise (· < ·)) (y : α) (p : α → Bool) :
    (putByKey key y l).countP p + (l.find? fun x => key x == key y).toList.countP p = l.countP p + [y].countP p := by
  obtain ⟨low, old, high, h⟩ := exists_splitAt hsorted (key y)
  rw [h.put rfl, h.find, h.eq, ← List.singleton_append]
  simp only [List.countP_append]
  omega

/-- A value taken out no longer counts. -/
theorem countP_filter_key (hsorted : (l.map key).Pairwise (· < ·)) (k : Nat) (p : α → Bool) :
    (l.filter fun x => key x != k).countP p + (l.find? fun x => key x == k).toList.countP p = l.countP p := by
  obtain ⟨low, old, high, h⟩ := exists_splitAt hsorted k
  rw [h.filter_ne, h.find, h.eq]
  simp only [List.countP_append]
  omega

/-- A value that the list holds is put without effect. -/
theorem putByKey_self (hsorted : (l.map key).Pairwise (· < ·)) {y : α} (h : l.find? (fun x => key x == key y) = some y) :
    putByKey key y l = l := by
  obtain ⟨low, old, high, hsplit⟩ := exists_splitAt hsorted (key y)
  have hold : old = some y := hsplit.find.symm.trans h
  rw [hsplit.put rfl, hsplit.eq, hold]
  rfl

/-- A change of the value with a key is the same change made wherever the key stands. -/
theorem putByKey_eq_map (hsorted : (l.map key).Pairwise (· < ·)) {x y : α} (h : l.find? (fun x => key x == key y) = some x)
    {f : α → α} (hf : f x = y) : putByKey key y l = l.map fun x => if key x = key y then f x else x := by
  obtain ⟨low, old, high, hsplit⟩ := exists_splitAt hsorted (key y)
  have hold : old = some x := hsplit.find.symm.trans h
  rw [hsplit.put rfl, hsplit.map_eq, hold, Option.map_some, hf]
  rfl

/-- In a list in order every value is the one its key finds. -/
theorem find_of_mem (hsorted : (l.map key).Pairwise (· < ·)) {x : α} (hx : x ∈ l) :
    l.find? (fun y => key y == key x) = some x := by
  obtain ⟨low, old, high, h⟩ := exists_splitAt hsorted (key x)
  rw [h.find]
  rw [h.eq, List.mem_append, List.mem_append, Option.mem_toList] at hx
  rcases hx with hx | hx | hx
  · exact absurd (h.below x hx) (lt_irrefl _)
  · exact hx
  · exact absurd (h.above x hx) (lt_irrefl _)

theorem find_putByKey (y : α) : (putByKey key y l).find? (fun x => key x == key y) = some y := by
  induction l with
  | nil => simp [putByKey]
  | cons x xs ih =>
    unfold putByKey
    split
    · simp
    · split
      · simp
      · rename_i hne
        rw [List.find?_cons_of_neg (by simpa using Ne.symm hne), ih]

theorem find_putByKey_of_ne {y : α} (h : k ≠ key y) :
    (putByKey key y l).find? (fun x => key x == k) = l.find? (fun x => key x == k) := by
  induction l with
  | nil => simp [putByKey, h.symm]
  | cons x xs ih =>
    unfold putByKey
    split
    · simp [List.find?_cons, h.symm]
    · split
      · rename_i heq
        simp [h.symm, heq ▸ h.symm]
      · simp only [List.find?_cons, ih]

end

end Sys2Proof.Machine
end

section
/-! SUPPORT. The tag table and the cabin records (R62, R63): what each operation on them leaves, lookup by lookup and count by
count, and that each keeps the capacities and the agreement of the records with the entries. -/

open Sys2Proof

namespace Sys2Proof.Machine

/-! ## Counts over the table -/

/-- Both invariants of the slice. -/
def ManifestStore.sliceOk (m : ManifestStore) : Prop := m.capacitiesOk ∧ m.cabinsOk

/-- The number of entries that name a cabin. -/
def ManifestStore.naming (m : ManifestStore) (c : Nat) : Nat := m.table.countP fun e => e.cabin == c

/-- The number of entries that name a cabin and bear a mark. -/
def ManifestStore.markedIn (m : ManifestStore) (c : Nat) : Nat := m.table.countP fun e => e.marked && e.cabin == c

section
variable {m m' : ManifestStore} {c x n : Nat} {e : TagEntry} {r : CabinRecord}

theorem ManifestStore.length_entriesOf (m : ManifestStore) (c : Nat) : (m.entriesOf c).length = m.naming c :=
  List.countP_eq_length_filter.symm

theorem ManifestStore.marked_entriesOf (m : ManifestStore) (c : Nat) :
    (m.entriesOf c).countP TagEntry.marked = m.markedIn c := List.countP_filter

theorem ManifestStore.markedIn_le (m : ManifestStore) (c : Nat) : m.markedIn c ≤ m.naming c := by
  refine List.countP_mono_left fun e _ h => ?_
  rw [Bool.and_eq_true] at h
  exact h.2

theorem ManifestStore.entriesOf_isEmpty (m : ManifestStore) (c : Nat) : (m.entriesOf c).isEmpty = decide (m.naming c = 0) := by
  rw [← ManifestStore.length_entriesOf]
  cases m.entriesOf c <;> rfl

theorem ManifestStore.entry_tag {tag : Nat} (h : m.entry tag = some e) : e.tag = tag := by simpa using List.find?_some h

theorem ManifestStore.entry_mem {tag : Nat} (h : m.entry tag = some e) : e ∈ m.table := List.mem_of_find?_eq_some h

theorem ManifestStore.entry_of_mem (hsorted : (m.table.map TagEntry.tag).Pairwise (· < ·)) (h : e ∈ m.table) :
    m.entry e.tag = some e := find_of_mem hsorted h

theorem ManifestStore.cabin_cabin (h : m.cabin c = some r) : r.cabin = c := by simpa using List.find?_some h

theorem ManifestStore.naming_pos (h : e ∈ m.table) : 1 ≤ m.naming e.cabin :=
  List.countP_pos_iff.mpr ⟨e, h, beq_self_eq_true _⟩

/-- R63: an entry is the only one of its cabin. -/
theorem ManifestStore.entriesOf_eq_singleton (h : e ∈ m.table) : m.entriesOf e.cabin = [e] ↔ m.naming e.cabin = 1 := by
  have hmem : e ∈ m.entriesOf e.cabin := List.mem_filter.mpr ⟨h, beq_self_eq_true _⟩
  rw [← ManifestStore.length_entriesOf, List.length_eq_one_iff]
  refine ⟨fun h => ⟨e, h⟩, fun ⟨y, hy⟩ => ?_⟩
  rw [hy] at hmem ⊢
  rw [List.mem_singleton.mp hmem]

/-! ## One cabin in agreement (R63) -/

/-- R63: a cabin's record stands as the entries that name it have it. -/
def ManifestStore.cabinOk (m : ManifestStore) (c : Nat) : Prop :=
  (m.cabin c = none ∧ m.naming c = 0)
    ∨ ∃ x, m.cabin c = some ⟨c, x, m.markedIn c⟩ ∧ 1 ≤ m.naming c ∧ m.naming c ≤ 15 ∧ m.markedIn c ≤ x ∧ x ≤ 15

theorem ManifestStore.cabinsOk_iff (hsorted : (m.cabins.map CabinRecord.cabin).Pairwise (· < ·)) :
    m.cabinsOk ↔ ∀ c, m.cabinOk c := by
  simp only [ManifestStore.cabinsOk, ManifestStore.length_entriesOf, ManifestStore.marked_entriesOf, Config.maxPieces]
  constructor
  · rintro ⟨hentries, hrecords⟩ c
    cases hc : m.cabin c with
    | none =>
      refine .inl ⟨hc, List.countP_eq_zero.mpr fun e he hcabin => ?_⟩
      obtain ⟨r, hr, hrc⟩ := hentries e he
      exact List.find?_eq_none.mp hc r hr (by simpa [hrc] using hcabin)
    | some r =>
      obtain ⟨hlow, hhigh, hmarked, hle, hmax⟩ := hrecords r (List.mem_of_find?_eq_some hc)
      cases ManifestStore.cabin_cabin hc
      exact .inr ⟨r.expected, by rw [hc, ← hmarked], hlow, hhigh, hmarked ▸ hle, hmax⟩
  · intro h
    refine ⟨fun e he => ?_, fun r hr => ?_⟩
    · have hpos := ManifestStore.naming_pos he
      rcases h e.cabin with ⟨-, hzero⟩ | ⟨x, hx, -⟩
      · omega
      · exact ⟨_, List.mem_of_find?_eq_some hx, rfl⟩
    · have hfind : m.cabin r.cabin = some r := find_of_mem hsorted hr
      rcases h r.cabin with ⟨hnone, -⟩ | ⟨x, hx, hlow, hhigh, hle, hmax⟩
      · rw [hfind] at hnone
        cases hnone
      · have hrec : r = ⟨r.cabin, x, m.markedIn r.cabin⟩ := Option.some.inj (hfind.symm.trans hx)
        rw [hrec]
        exact ⟨hlow, hhigh, rfl, hle, hmax⟩

/-- A cabin is in agreement where its record and its entries are those of one that is. -/
theorem ManifestStore.cabinOk.congr (h : m.cabinOk c) (hcabin : m'.cabin c = m.cabin c) (hnaming : m'.naming c = m.naming c)
    (hmarked : m'.markedIn c = m.markedIn c) : m'.cabinOk c := by
  unfold ManifestStore.cabinOk
  rw [hcabin, hnaming, hmarked]
  exact h

theorem ManifestStore.sliceOk.cabinOk (h : m.sliceOk) (c : Nat) : m.cabinOk c := by
  obtain ⟨⟨-, -, -, -, hsorted⟩, hcabins⟩ := h
  exact (ManifestStore.cabinsOk_iff hsorted).mp hcabins c

theorem ManifestStore.sliceOk.table_sorted (h : m.sliceOk) : (m.table.map TagEntry.tag).Pairwise (· < ·) := by
  obtain ⟨⟨-, -, -, hsorted, -⟩, -⟩ := h
  exact hsorted

theorem ManifestStore.sliceOk.cabins_sorted (h : m.sliceOk) : (m.cabins.map CabinRecord.cabin).Pairwise (· < ·) := by
  obtain ⟨⟨-, -, -, -, hsorted⟩, -⟩ := h
  exact hsorted

/-- The slice is a matter of the table and the cabin records alone. -/
theorem ManifestStore.sliceOk.of_eq (h : m.sliceOk) (htable : m'.table = m.table) (hcabins : m'.cabins = m.cabins) :
    m'.sliceOk := by
  unfold ManifestStore.sliceOk ManifestStore.capacitiesOk ManifestStore.cabinsOk ManifestStore.entriesOf at h ⊢
  rw [htable, hcabins]
  exact h

theorem ManifestStore.sliceOk_empty (htable : m.table = []) (hcabins : m.cabins = []) : m.sliceOk := by
  simp [ManifestStore.sliceOk, ManifestStore.capacitiesOk, ManifestStore.cabinsOk, htable, hcabins, unplacedCount]

/-- R63: the record of a cabin that an entry names. -/
theorem ManifestStore.sliceOk.record (h : m.sliceOk) (he : e ∈ m.table) :
    ∃ x, m.cabin e.cabin = some ⟨e.cabin, x, m.markedIn e.cabin⟩ ∧ m.markedIn e.cabin ≤ x ∧ x ≤ 15 := by
  have hpos := ManifestStore.naming_pos he
  rcases h.cabinOk e.cabin with ⟨-, hzero⟩ | ⟨x, hx, -, -, hle, hmax⟩
  · omega
  · exact ⟨x, hx, hle, hmax⟩

/-! ## A record recounted or declared (R63) -/

/-- R63: the record of a cabin once it has been recounted. -/
def ManifestStore.recounted (m : ManifestStore) (c : Nat) : Option CabinRecord :=
  if m.naming c = 0 then none
  else some ⟨c, max (((m.cabin c).map CabinRecord.expected).getD 0) (m.markedIn c), m.markedIn c⟩

theorem ManifestStore.recount_cabins (c : Nat) (m : ManifestStore) :
    (m.recount c).cabins = (m.recounted c).elim (m.cabins.filter fun r => r.cabin != c)
      fun r => putByKey CabinRecord.cabin r m.cabins := by
  unfold ManifestStore.recount ManifestStore.recounted
  rw [ManifestStore.entriesOf_isEmpty, ManifestStore.marked_entriesOf]
  by_cases h : m.naming c = 0 <;> simp [h, putCabin_eq]

theorem ManifestStore.recounted_cabin (h : m.recounted c = some r) : r.cabin = c := by
  unfold ManifestStore.recounted at h
  split at h <;> cases h
  rfl

theorem ManifestStore.recount_cabin (c : Nat) (m : ManifestStore) : (m.recount c).cabin c = m.recounted c := by
  unfold ManifestStore.cabin
  rw [ManifestStore.recount_cabins]
  cases h : m.recounted c with
  | none => simp
  | some r =>
    cases ManifestStore.recounted_cabin h
    exact find_putByKey r

theorem ManifestStore.recount_cabin_of_ne (h : x ≠ c) (m : ManifestStore) : (m.recount c).cabin x = m.cabin x := by
  unfold ManifestStore.cabin
  rw [ManifestStore.recount_cabins]
  cases hr : m.recounted c with
  | none =>
    rw [Option.elim_none, List.find?_filter]
    congr 1
    funext r
    by_cases hx : r.cabin = x
    · simp [hx, h]
    · simp [hx]
  | some r => exact find_putByKey_of_ne (ManifestStore.recounted_cabin hr ▸ h)

@[simp] theorem ManifestStore.declare_table (c n : Nat) (m : ManifestStore) : (m.declare c n).table = m.table := by
  unfold ManifestStore.declare; split <;> rfl
@[simp] theorem ManifestStore.declare_counters (c n : Nat) (m : ManifestStore) : (m.declare c n).counters = m.counters := by
  unfold ManifestStore.declare; split <;> rfl

theorem ManifestStore.declare_entry (c n x : Nat) (m : ManifestStore) : (m.declare c n).entry x = m.entry x := by
  simp [ManifestStore.entry]

theorem ManifestStore.declare_cabins (h : m.cabin c = some r) (n : Nat) :
    (m.declare c n).cabins = putByKey CabinRecord.cabin { r with expected := max n r.delivered } m.cabins := by
  unfold ManifestStore.declare
  rw [h, ← putCabin_eq]

theorem ManifestStore.declare_cabin (c n : Nat) (m : ManifestStore) :
    (m.declare c n).cabin c = (m.cabin c).map fun r => { r with expected := max n r.delivered } := by
  cases h : m.cabin c with
  | none => unfold ManifestStore.declare; rw [h]; exact h
  | some r =>
    rw [ManifestStore.cabin, ManifestStore.declare_cabins h]
    cases ManifestStore.cabin_cabin h
    exact find_putByKey { r with expected := max n r.delivered }

theorem ManifestStore.declare_cabin_of_ne (h : x ≠ c) (n : Nat) (m : ManifestStore) :
    (m.declare c n).cabin x = m.cabin x := by
  cases hc : m.cabin c with
  | none => unfold ManifestStore.declare; rw [hc]
  | some r =>
    rw [ManifestStore.cabin, ManifestStore.declare_cabins hc]
    cases ManifestStore.cabin_cabin hc
    exact find_putByKey_of_ne h

theorem ManifestStore.recount_naming (c x : Nat) (m : ManifestStore) : (m.recount c).naming x = m.naming x := by
  simp [ManifestStore.naming]
theorem ManifestStore.recount_markedIn (c x : Nat) (m : ManifestStore) : (m.recount c).markedIn x = m.markedIn x := by
  simp [ManifestStore.markedIn]
theorem ManifestStore.declare_naming (c n x : Nat) (m : ManifestStore) : (m.declare c n).naming x = m.naming x := by
  simp [ManifestStore.naming]
theorem ManifestStore.declare_markedIn (c n x : Nat) (m : ManifestStore) : (m.declare c n).markedIn x = m.markedIn x := by
  simp [ManifestStore.markedIn]

/-- R63: a cabin recounted is in agreement, within the pieces that one cabin may have. -/
theorem ManifestStore.recount_cabinOk (hnaming : m.naming c ≤ 15) (hexpected : ∀ r, m.cabin c = some r → r.expected ≤ 15) :
    (m.recount c).cabinOk c := by
  have hle := m.markedIn_le c
  have hold : ((m.cabin c).map CabinRecord.expected).getD 0 ≤ 15 := by
    cases h : m.cabin c with
    | none => exact Nat.zero_le _
    | some r => exact hexpected r h
  unfold ManifestStore.cabinOk
  rw [ManifestStore.recount_cabin, ManifestStore.recount_naming, ManifestStore.recount_markedIn, ManifestStore.recounted]
  by_cases h : m.naming c = 0
  · exact .inl ⟨if_pos h, h⟩
  · exact .inr ⟨_, if_neg h, by omega, hnaming, le_max_right _ _, by omega⟩

theorem ManifestStore.recount_cabinOk_of_ne (h : x ≠ c) (hx : m.cabinOk x) : (m.recount c).cabinOk x :=
  hx.congr (m.recount_cabin_of_ne h) (m.recount_naming c x) (m.recount_markedIn c x)

theorem ManifestStore.declare_cabinOk (hn : n ≤ 15) (hx : m.cabinOk x) : (m.declare c n).cabinOk x := by
  by_cases h : x = c
  · subst h
    have hle := m.markedIn_le x
    unfold ManifestStore.cabinOk
    rw [ManifestStore.declare_cabin, ManifestStore.declare_naming, ManifestStore.declare_markedIn]
    rcases hx with ⟨hnone, hzero⟩ | ⟨y, hy, hlow, hhigh, -, -⟩
    · exact .inl ⟨by rw [hnone]; rfl, hzero⟩
    · exact .inr ⟨max n (m.markedIn x), by rw [hy]; rfl, hlow, hhigh, le_max_right _ _, by omega⟩
  · exact hx.congr (m.declare_cabin_of_ne h n) (m.declare_naming c n x) (m.declare_markedIn c n x)

theorem ManifestStore.recount_sorted (h : (m.cabins.map CabinRecord.cabin).Pairwise (· < ·)) (c : Nat) :
    ((m.recount c).cabins.map CabinRecord.cabin).Pairwise (· < ·) := by
  rw [ManifestStore.recount_cabins]
  cases m.recounted c with
  | none => exact h.sublist (List.filter_sublist.map _)
  | some r => exact pairwise_putByKey h r

theorem ManifestStore.declare_sorted (h : (m.cabins.map CabinRecord.cabin).Pairwise (· < ·)) (c n : Nat) :
    ((m.declare c n).cabins.map CabinRecord.cabin).Pairwise (· < ·) := by
  cases hc : m.cabin c with
  | none => unfold ManifestStore.declare; rw [hc]; exact h
  | some r => rw [ManifestStore.declare_cabins hc]; exact pairwise_putByKey h _

/-- R63: a cabin recounted has one record while an entry names it and none otherwise, and no other record comes or goes. -/
theorem ManifestStore.recount_length (h : (m.cabins.map CabinRecord.cabin).Pairwise (· < ·)) (c : Nat) :
    (m.recount c).cabins.length + (if (m.cabin c).isSome then 1 else 0) =
      m.cabins.length + (if m.naming c = 0 then 0 else 1) := by
  have hput := fun r : CabinRecord => countP_putByKey h r fun _ => true
  have hfilter := countP_filter_key h c fun _ => true
  simp only [List.countP_true] at hput hfilter
  have hold : (m.cabin c).toList.length = if (m.cabin c).isSome then 1 else 0 := by cases m.cabin c <;> rfl
  rw [ManifestStore.recount_cabins, ← hold, ManifestStore.cabin]
  by_cases hzero : m.naming c = 0
  · simpa [ManifestStore.recounted, hzero] using hfilter
  · simpa [ManifestStore.recounted, hzero] using hput ⟨c, _, _⟩

theorem ManifestStore.declare_length (h : (m.cabins.map CabinRecord.cabin).Pairwise (· < ·)) (c n : Nat) :
    (m.declare c n).cabins.length = m.cabins.length := by
  cases hc : m.cabin c with
  | none => unfold ManifestStore.declare; rw [hc]
  | some r =>
    have hput := countP_putByKey h { r with expected := max n r.delivered } fun _ => true
    have hfind : (m.cabins.find? fun q => q.cabin == r.cabin) = some r := by
      cases ManifestStore.cabin_cabin hc; exact hc
    rw [ManifestStore.declare_cabins hc]
    simp only [List.countP_true, hfind, Option.toList_some] at hput
    simpa using hput

end

end Sys2Proof.Machine
end

section
/-! SUPPORT. Entries put, removed and moved (R63, R66 to R74): the counts over the table and the cabins' records after each, and
that each keeps the slice. -/

open Sys2Proof

namespace Sys2Proof.Machine

section
variable {m u : ManifestStore} {c x n : Nat} {e old : TagEntry}

/-! ## Counts after a change of one entry -/

theorem countP_singleton_toNat {α : Type} (p : α → Bool) (a : α) : [a].countP p = (p a).toNat := by
  cases h : p a <;> simp [h]

theorem ManifestStore.countP_fresh (hsorted : (m.table.map TagEntry.tag).Pairwise (· < ·)) (h : m.entry e.tag = none)
    (p : TagEntry → Bool) : (putEntry e m.table).countP p = m.table.countP p + (p e).toNat := by
  have hput := countP_putByKey hsorted e p
  rw [← ManifestStore.entry, h, countP_singleton_toNat, ← putEntry_eq] at hput
  exact hput

theorem ManifestStore.countP_replaced (hsorted : (m.table.map TagEntry.tag).Pairwise (· < ·)) (h : m.entry e.tag = some old)
    (p : TagEntry → Bool) : (putEntry e m.table).countP p + (p old).toNat = m.table.countP p + (p e).toNat := by
  have hput := countP_putByKey hsorted e p
  rw [← ManifestStore.entry, h, Option.toList_some, countP_singleton_toNat, countP_singleton_toNat, ← putEntry_eq] at hput
  exact hput

theorem ManifestStore.countP_dropped (hsorted : (m.table.map TagEntry.tag).Pairwise (· < ·)) (h : m.entry e.tag = some e)
    (p : TagEntry → Bool) : (m.table.filter fun x => x.tag != e.tag).countP p + (p e).toNat = m.table.countP p := by
  have hfilter := countP_filter_key hsorted e.tag p
  rw [← ManifestStore.entry, h, Option.toList_some, countP_singleton_toNat] at hfilter
  exact hfilter

theorem ManifestStore.putEntry_sorted (hsorted : (m.table.map TagEntry.tag).Pairwise (· < ·)) (e : TagEntry) :
    ((putEntry e m.table).map TagEntry.tag).Pairwise (· < ·) := by
  rw [putEntry_eq]
  exact pairwise_putByKey hsorted e

/-! ## A slice in order but for one record -/

/-- Both invariants of the slice, with the record of one cabin still to be recounted. -/
structure ManifestStore.OkBut (u : ManifestStore) (c : Nat) : Prop where
  length        : u.table.length ≤ 3072
  unplaced      : unplacedCount u.table ≤ 512
  table_sorted  : (u.table.map TagEntry.tag).Pairwise (· < ·)
  cabins_sorted : (u.cabins.map CabinRecord.cabin).Pairwise (· < ·)
  others        : ∀ x, x ≠ c → u.cabinOk x
  naming        : u.naming c ≤ 15
  expected      : ∀ r, u.cabin c = some r → r.expected ≤ 15
  full          : u.cabins.length ≤ 1024
  room          : u.cabin c = none → u.naming c ≠ 0 → u.cabins.length < 1024

theorem ManifestStore.OkBut.recount (h : u.OkBut c) : (u.recount c).sliceOk := by
  have hsorted := ManifestStore.recount_sorted h.cabins_sorted c
  have htable : (u.recount c).table = u.table := u.recount_table c
  refine ⟨⟨htable ▸ h.length, htable ▸ h.unplaced, ?_, htable ▸ h.table_sorted, hsorted⟩, ?_⟩
  · have hlength := ManifestStore.recount_length h.cabins_sorted c
    have hfull := h.full
    have hroom := h.room
    show (u.recount c).cabins.length ≤ 1024
    cases hc : u.cabin c with
    | none =>
      simp only [hc, Option.isSome_none, Bool.false_eq_true, if_false] at hlength
      split at hlength
      · omega
      · have := hroom hc ‹_›
        omega
    | some r =>
      simp only [hc, Option.isSome_some, if_true] at hlength
      split at hlength <;> omega
  · refine (ManifestStore.cabinsOk_iff hsorted).mpr fun x => ?_
    by_cases hx : x = c
    · subst hx
      exact ManifestStore.recount_cabinOk h.naming h.expected
    · exact ManifestStore.recount_cabinOk_of_ne hx (h.others x hx)

theorem ManifestStore.cabinOk.expected {r : CabinRecord} (h : m.cabinOk c) (hr : m.cabin c = some r) : r.expected ≤ 15 := by
  rcases h with ⟨hnone, -⟩ | ⟨y, hy, -, -, -, hmax⟩
  · rw [hnone] at hr
    cases hr
  · cases hy.symm.trans hr
    exact hmax

theorem ManifestStore.cabinOk.naming_le (h : m.cabinOk c) : m.naming c ≤ 15 := by
  rcases h with ⟨-, hzero⟩ | ⟨-, -, -, hhigh, -⟩
  · omega
  · exact hhigh

theorem ManifestStore.cabinOk.naming_eq_zero (h : m.cabinOk c) (hnone : m.cabin c = none) : m.naming c = 0 := by
  rcases h with ⟨-, hzero⟩ | ⟨y, hy, -⟩
  · exact hzero
  · rw [hnone] at hy
    cases hy

/-- The store with another table and the cabin records still as they were. -/
def ManifestStore.withTable (m : ManifestStore) (t : List TagEntry) : ManifestStore := { m with table := t }

theorem ManifestStore.put_eq (e : TagEntry) (m : ManifestStore) :
    m.put e = (m.withTable (putEntry e m.table)).recount e.cabin := rfl

theorem ManifestStore.drop_eq (e : TagEntry) (m : ManifestStore) :
    m.drop e = (m.withTable (m.table.filter fun x => x.tag != e.tag)).recount e.cabin := rfl

/-- What one entry put at its place does to the entries of a cabin. -/
theorem ManifestStore.naming_replaced (h : m.sliceOk) (hold : m.entry e.tag = some old) (x : Nat) :
    (m.withTable (putEntry e m.table)).naming x + (old.cabin == x).toNat = m.naming x + (e.cabin == x).toNat :=
  ManifestStore.countP_replaced h.table_sorted hold _

theorem ManifestStore.markedIn_replaced (h : m.sliceOk) (hold : m.entry e.tag = some old) (x : Nat) :
    (m.withTable (putEntry e m.table)).markedIn x + (old.marked && old.cabin == x).toNat =
      m.markedIn x + (e.marked && e.cabin == x).toNat :=
  ManifestStore.countP_replaced h.table_sorted hold _

/-- R67, R70, R80: an entry in place of another is UNPLACED only where that one was, or where there is room for one more. -/
theorem ManifestStore.unplaced_replaced (h : m.sliceOk) (hold : m.entry e.tag = some old)
    (hunplaced : e.placement = .unplaced → old.placement = .unplaced ∨ unplacedCount m.table < 512) :
    unplacedCount (putEntry e m.table) ≤ 512 := by
  obtain ⟨⟨-, hmax, -, -, -⟩, -⟩ := id h
  change unplacedCount m.table ≤ 512 at hmax
  have hcount : unplacedCount (putEntry e m.table) + (old.placement == .unplaced).toNat =
      unplacedCount m.table + (e.placement == .unplaced).toNat := ManifestStore.countP_replaced h.table_sorted hold _
  cases hp : e.placement with
  | placed => simp only [hp, show (Placement.placed == .unplaced) = false from rfl, Bool.toNat_false] at hcount; omega
  | unplaced =>
    rw [hp, beq_self_eq_true, Bool.toNat_true] at hcount
    rcases hunplaced hp with hq | hq
    · rw [hq, beq_self_eq_true, Bool.toNat_true] at hcount
      omega
    · omega

theorem ManifestStore.length_replaced (h : m.sliceOk) (hold : m.entry e.tag = some old) :
    (putEntry e m.table).length = m.table.length := by
  simpa using ManifestStore.countP_replaced h.table_sorted hold fun _ => true

theorem ManifestStore.naming_fresh (h : m.sliceOk) (hnone : m.entry e.tag = none) (x : Nat) :
    (m.withTable (putEntry e m.table)).naming x = m.naming x + (e.cabin == x).toNat :=
  ManifestStore.countP_fresh h.table_sorted hnone _

theorem ManifestStore.markedIn_fresh (h : m.sliceOk) (hnone : m.entry e.tag = none) (x : Nat) :
    (m.withTable (putEntry e m.table)).markedIn x = m.markedIn x + (e.marked && e.cabin == x).toNat :=
  ManifestStore.countP_fresh h.table_sorted hnone _

theorem ManifestStore.naming_dropped (h : m.sliceOk) (hold : m.entry e.tag = some e) (x : Nat) :
    (m.withTable (m.table.filter fun x => x.tag != e.tag)).naming x + (e.cabin == x).toNat = m.naming x :=
  ManifestStore.countP_dropped h.table_sorted hold _

theorem ManifestStore.markedIn_dropped (h : m.sliceOk) (hold : m.entry e.tag = some e) (x : Nat) :
    (m.withTable (m.table.filter fun x => x.tag != e.tag)).markedIn x + (e.marked && e.cabin == x).toNat = m.markedIn x :=
  ManifestStore.countP_dropped h.table_sorted hold _

/-! ## The slice kept -/

/-- R63: an entry put where there was none: the table, the cabins and the cabin's pieces have room for it. -/
theorem ManifestStore.sliceOk.put_fresh (h : m.sliceOk) (hnone : m.entry e.tag = none) (hlength : m.table.length < 3072)
    (hunplaced : e.placement = .unplaced → unplacedCount m.table < 512)
    (hcabins : m.cabin e.cabin = none → m.cabins.length < 1024) (hpieces : m.naming e.cabin < 15) : (m.put e).sliceOk := by
  obtain ⟨⟨-, hunplacedMax, hcabinsMax, -, -⟩, -⟩ := id h
  have hcount := ManifestStore.countP_fresh h.table_sorted hnone
  have hnaming := ManifestStore.naming_fresh h hnone
  have hmarked := ManifestStore.markedIn_fresh h hnone
  refine ManifestStore.OkBut.recount (u := m.withTable (putEntry e m.table))
    ⟨?_, ?_, m.putEntry_sorted h.table_sorted e, h.cabins_sorted, fun x hx => ?_, ?_,
    fun r => (h.cabinOk _).expected, hcabinsMax, fun hcabin _ => hcabins hcabin⟩
  · have hone := hcount fun _ => true
    simp only [List.countP_true, Bool.toNat_true] at hone
    exact hone.trans_le hlength
  · have hone : unplacedCount (putEntry e m.table) = unplacedCount m.table + (e.placement == .unplaced).toNat := hcount _
    show unplacedCount (putEntry e m.table) ≤ 512
    rw [hone]
    cases hp : e.placement with
    | placed => exact hunplacedMax
    | unplaced => exact hunplaced hp
  · have hne : (e.cabin == x) = false := beq_false_of_ne (Ne.symm hx)
    exact (h.cabinOk x).congr rfl (by rw [hnaming, hne]; rfl) (by rw [hmarked, hne, Bool.and_false]; rfl)
  · rw [hnaming, beq_self_eq_true]
    exact hpieces

/-- R63: an entry put in place of one of the same cabin. -/
theorem ManifestStore.sliceOk.put_replaced (h : m.sliceOk) (hold : m.entry e.tag = some old) (hcabin : old.cabin = e.cabin)
    (hunplaced : e.placement = .unplaced → old.placement = .unplaced ∨ unplacedCount m.table < 512) :
    (m.put e).sliceOk := by
  obtain ⟨⟨hlengthMax, hunplacedMax, hcabinsMax, -, -⟩, -⟩ := id h
  have hnaming : ∀ x, (m.withTable (putEntry e m.table)).naming x = m.naming x := fun x => by
    have := ManifestStore.naming_replaced h hold x
    rw [hcabin] at this
    omega
  refine ManifestStore.OkBut.recount (u := m.withTable (putEntry e m.table))
    ⟨?_, ?_, m.putEntry_sorted h.table_sorted e, h.cabins_sorted, fun x hx => ?_, ?_,
    fun r => (h.cabinOk _).expected, hcabinsMax, fun hnone hpos => ?_⟩
  · exact (ManifestStore.length_replaced h hold).trans_le hlengthMax
  · exact ManifestStore.unplaced_replaced h hold hunplaced
  · refine (h.cabinOk x).congr rfl (hnaming x) ?_
    have hne : (e.cabin == x) = false := beq_false_of_ne (Ne.symm hx)
    have := ManifestStore.markedIn_replaced h hold x
    rw [hcabin, hne, Bool.and_false, Bool.and_false] at this
    exact this
  · exact (hnaming _).trans_le (h.cabinOk _).naming_le
  · exact absurd ((hnaming _).trans ((h.cabinOk _).naming_eq_zero hnone)) hpos

theorem ManifestStore.sliceOk.drop (h : m.sliceOk) (he : e ∈ m.table) : (m.drop e).sliceOk := by
  obtain ⟨⟨hlengthMax, hunplacedMax, hcabinsMax, -, -⟩, -⟩ := id h
  have hold := ManifestStore.entry_of_mem h.table_sorted he
  have hsub : (m.table.filter fun x => x.tag != e.tag).Sublist m.table := List.filter_sublist
  have hnaming := ManifestStore.naming_dropped h hold
  refine ManifestStore.OkBut.recount (u := m.withTable (m.table.filter fun x => x.tag != e.tag))
    ⟨hsub.length_le.trans hlengthMax, hsub.countP_le.trans hunplacedMax,
    h.table_sorted.sublist (hsub.map _), h.cabins_sorted, fun x hx => ?_, ?_, fun r => (h.cabinOk _).expected, hcabinsMax,
    fun hnone hpos => ?_⟩
  · have hne : (e.cabin == x) = false := beq_false_of_ne (Ne.symm hx)
    have hsame := hnaming x
    have hmarked := ManifestStore.markedIn_dropped h hold x
    rw [hne, Bool.and_false] at hmarked
    rw [hne] at hsame
    exact (h.cabinOk x).congr rfl hsame hmarked
  · exact (Nat.le.intro (hnaming _)).trans (h.cabinOk _).naming_le
  · have hzero := (h.cabinOk _).naming_eq_zero hnone
    have := hnaming e.cabin
    exact absurd (show (m.withTable _).naming e.cabin = 0 by omega) hpos

theorem ManifestStore.sliceOk.declare (h : m.sliceOk) (hn : n ≤ 15) (c : Nat) : (m.declare c n).sliceOk := by
  obtain ⟨⟨hlength, hunplaced, hcabins, htable, hsorted⟩, -⟩ := id h
  have hsorted' := ManifestStore.declare_sorted hsorted c n
  refine ⟨⟨by simpa using hlength, by simpa using hunplaced, ?_, by simpa using htable, hsorted'⟩, ?_⟩
  · rw [ManifestStore.declare_length hsorted]
    exact hcabins
  · exact (ManifestStore.cabinsOk_iff hsorted').mpr fun x => ManifestStore.declare_cabinOk hn (h.cabinOk x)

/-- R70: an entry moved to another cabin, both cabins recounted. -/
def ManifestStore.moveEntry (old e : TagEntry) (m : ManifestStore) : ManifestStore :=
  ((m.withTable (putEntry e m.table)).recount old.cabin).recount e.cabin

/-- R70: an entry that moves leaves one cabin and joins another, which has room for it; a cabin record is free, or the last
entry of the old cabin frees one. -/
theorem ManifestStore.sliceOk.moveEntry (h : m.sliceOk) (hold : m.entry e.tag = some old) (hcabin : old.cabin ≠ e.cabin)
    (hunplaced : e.placement = .unplaced → old.placement = .unplaced ∨ unplacedCount m.table < 512)
    (hpieces : m.naming e.cabin < 15)
    (hcabins : m.cabin e.cabin = none → m.cabins.length < 1024 ∨ m.naming old.cabin = 1) : (m.moveEntry old e).sliceOk := by
  obtain ⟨⟨hlengthMax, hunplacedMax, hcabinsMax, -, -⟩, -⟩ := id h
  change m.cabins.length ≤ 1024 at hcabinsMax
  change unplacedCount m.table ≤ 512 at hunplacedMax
  have hpos := ManifestStore.naming_pos (ManifestStore.entry_mem hold)
  have hnaming := ManifestStore.naming_replaced h hold
  have hold_e : (old.cabin == e.cabin) = false := beq_false_of_ne hcabin
  have he_old : (e.cabin == old.cabin) = false := beq_false_of_ne hcabin.symm
  have hleft : (m.withTable (putEntry e m.table)).naming old.cabin + 1 = m.naming old.cabin := by
    simpa [he_old] using hnaming old.cabin
  have hjoined : (m.withTable (putEntry e m.table)).naming e.cabin = m.naming e.cabin + 1 := by
    simpa [hold_e] using hnaming e.cabin
  have hrecord : (m.cabin old.cabin).isSome = true := by
    obtain ⟨y, hy, -⟩ := h.record (ManifestStore.entry_mem hold)
    rw [hy]
    rfl
  have hlength := ManifestStore.recount_length (m := m.withTable (putEntry e m.table)) h.cabins_sorted old.cabin
  have hlength' : ((m.withTable (putEntry e m.table)).recount old.cabin).cabins.length + 1 =
      m.cabins.length + (if m.naming old.cabin = 1 then 0 else 1) := by
    have hiff : (m.withTable (putEntry e m.table)).naming old.cabin = 0 ↔ m.naming old.cabin = 1 := by omega
    simp only [hiff] at hlength
    rw [show ((m.withTable (putEntry e m.table)).cabin old.cabin).isSome = true from hrecord, if_pos rfl] at hlength
    exact hlength
  refine ManifestStore.OkBut.recount (u := (m.withTable (putEntry e m.table)).recount old.cabin)
    ⟨?_, ?_, ?_, ManifestStore.recount_sorted (m := m.withTable (putEntry e m.table)) h.cabins_sorted _, fun x hx => ?_, ?_,
      fun r hr => ?_, ?_, fun hnone _ => ?_⟩
  · rw [ManifestStore.recount_table]
    exact (ManifestStore.length_replaced h hold).trans_le hlengthMax
  · rw [ManifestStore.recount_table]
    exact ManifestStore.unplaced_replaced h hold hunplaced
  · rw [ManifestStore.recount_table]
    exact m.putEntry_sorted h.table_sorted e
  · by_cases hxold : x = old.cabin
    · have := (h.cabinOk old.cabin).naming_le
      subst hxold
      exact ManifestStore.recount_cabinOk (by omega) fun r => (h.cabinOk _).expected
    · have hne : (e.cabin == x) = false := beq_false_of_ne (Ne.symm hx)
      have hne' : (old.cabin == x) = false := beq_false_of_ne (Ne.symm hxold)
      have hsame := hnaming x
      have hmarked := ManifestStore.markedIn_replaced h hold x
      rw [hne, hne'] at hsame
      rw [hne, hne', Bool.and_false, Bool.and_false] at hmarked
      exact ManifestStore.recount_cabinOk_of_ne hxold ((h.cabinOk x).congr rfl hsame hmarked)
  · rw [ManifestStore.recount_naming, hjoined]
    exact hpieces
  · rw [ManifestStore.recount_cabin_of_ne hcabin.symm] at hr
    exact (h.cabinOk _).expected hr
  · split at hlength' <;> omega
  · rw [ManifestStore.recount_cabin_of_ne hcabin.symm] at hnone
    have := hcabins hnone
    split at hlength' <;> omega

end

end Sys2Proof.Machine
end

section
/-! SUPPORT. The rules of the Manifest Store (chapter 4) and the slice: what each leaves keeps the capacities and the agreement
of the cabin records (R62, R63). -/

open Sys2Proof

namespace Sys2Proof.Machine

section
variable {m : ManifestStore} {e old : TagEntry} {f : ManifestFields}

/-- R66: the checks on a MANIFEST. -/
theorem manifestRefused_iff (f : ManifestFields) :
    manifestRefused f = true ↔ f.tag = 0 ∨ f.cabin = 0 ∨ 32767 < f.cabin ∨ f.pieces = 0 ∨ 15 < f.pieces := by
  simp only [manifestRefused, Bool.or_eq_true, beq_iff_eq, Bool.not_eq_true', Bool.eq_false_iff, ne_eq, inRange_iff,
    Config.maxCabin, Config.maxPieces]
  omega

theorem manifestRefused_eq_false (h : manifestRefused f = false) : f.tag ≠ 0 ∧ 1 ≤ f.pieces ∧ f.pieces ≤ 15 := by
  have := (not_congr (manifestRefused_iff f)).mp (by simp [h])
  omega

theorem placementOf_eq (look : CabinLookup) : placementOf look = if look = .unmapped then .unplaced else .placed := by
  cases look <;> rfl

theorem placementOf_unplaced {look : CabinLookup} : placementOf look = .unplaced ↔ look = .unmapped := by
  cases look <;> simp [placementOf]

theorem ManifestStore.sliceOk.tally (h : m.sliceOk) (g : MsCounters → MsCounters) : (m.tally g).sliceOk := h.of_eq rfl rfl

/-! ## MANIFEST (R67 to R70) -/

theorem ManifestStore.sliceOk.insert (h : m.sliceOk) (hf : manifestRefused f = false) (hnone : m.entry f.tag = none)
    (c : NodeConfig) : (m.insert c f).sliceOk := by
  obtain ⟨-, -, hpieces⟩ := manifestRefused_eq_false hf
  unfold ManifestStore.insert
  dsimp only
  split
  · exact h.tally _
  split
  · exact h.tally _
  split
  · exact h.tally _
  split
  · exact h.tally _
  split
  · exact h.tally _
  rename_i hlength hunplaced hcabins hentries
  rw [ManifestStore.length_entriesOf] at hentries
  refine ManifestStore.sliceOk.tally (.declare (.put_fresh h hnone (Nat.lt_of_not_le hlength) (fun hp => ?_) (fun hcabin => ?_)
    (Nat.lt_of_not_le (show ¬ 15 ≤ m.naming f.cabin from hentries))) hpieces f.cabin) _
  · exact Nat.lt_of_not_le fun hfull => hunplaced ⟨placementOf_unplaced.mp hp, hfull⟩
  · exact Nat.lt_of_not_le fun hfull => hcabins ⟨hcabin, hfull⟩

theorem ManifestStore.sliceOk.amend (h : m.sliceOk) (hf : manifestRefused f = false) (hold : m.entry f.tag = some e) :
    (m.amend f e).sliceOk := by
  obtain ⟨-, -, hpieces⟩ := manifestRefused_eq_false hf
  rw [← ManifestStore.entry_tag hold] at hold
  exact .tally (.declare (.put_replaced h (e := { e with pieces := f.pieces, oversize := f.oversize }) hold rfl .inl) hpieces _) _

/-- R70: the entry that moves, by its new lookup. -/
theorem TagEntry.moved_eq (f : ManifestFields) (keep : Bool) (look : CabinLookup) (e : TagEntry) :
    e.moved f keep look = ⟨e.tag, f.cabin, f.pieces, f.oversize, if look = .unmapped then .unplaced else .placed,
      if keep then e.mark else .none, e.strayed⟩ := by
  rw [← placementOf_eq]
  rfl

/-- R71: the reports of a cabin move, none where the mark is kept. -/
def ManifestStore.moveReports (f : ManifestFields) (e : TagEntry) (m : ManifestStore) : List MisplacedReport :=
  if keepsMark (lookupCabin m.map e.cabin) (lookupCabin m.map f.cabin) e.mark then [] else e.misplaced .moved (some f.cabin)

/-- R70: the entry of a cabin move that moves. -/
def ManifestStore.movedEntry (f : ManifestFields) (e : TagEntry) (m : ManifestStore) : TagEntry :=
  e.moved f (keepsMark (lookupCabin m.map e.cabin) (lookupCabin m.map f.cabin) e.mark) (lookupCabin m.map f.cabin)

/-! ### The cases of R70, in its order -/

section
variable {c : NodeConfig}

theorem ManifestStore.move_unserved (h : (lookupCabin m.map f.cabin).unserved c = true) :
    m.move c f e = ⟨(m.drop e).tally fun c => { c with amendments := c.amendments + 1 }, m.moveReports f e⟩ := if_pos h

theorem ManifestStore.move_piecesFull (hserved : (lookupCabin m.map f.cabin).unserved c = false) (h : 15 ≤ m.naming f.cabin) :
    m.move c f e = ⟨m.tally fun c => { c with piecesFull := c.piecesFull + 1 }, []⟩ := by
  rw [← ManifestStore.length_entriesOf] at h
  exact (if_neg (by simp [hserved])).trans (if_pos h)

theorem ManifestStore.move_cabinFull (hserved : (lookupCabin m.map f.cabin).unserved c = false) (hpieces : m.naming f.cabin < 15)
    (h : m.cabin f.cabin = none ∧ 1024 ≤ m.cabins.length ∧ 1 < m.naming e.cabin) :
    m.move c f e = ⟨m.tally fun c => { c with cabinFull := c.cabinFull + 1 }, []⟩ := by
  rw [← ManifestStore.length_entriesOf] at h hpieces
  exact (if_neg (by simp [hserved])).trans ((if_neg (Nat.not_le.mpr hpieces)).trans (if_pos h))

theorem ManifestStore.move_unplacedFull (hserved : (lookupCabin m.map f.cabin).unserved c = false)
    (hpieces : m.naming f.cabin < 15)
    (hcabins : ¬ (m.cabin f.cabin = none ∧ 1024 ≤ m.cabins.length ∧ 1 < m.naming e.cabin))
    (h : lookupCabin m.map f.cabin = .unmapped ∧ e.placement = .placed ∧ 512 ≤ unplacedCount m.table) :
    m.move c f e =
      ⟨((m.drop e).tally fun c => { c with unplacedFull := c.unplacedFull + 1 }).tally
        fun c => { c with amendments := c.amendments + 1 }, e.misplaced .moved (some f.cabin)⟩ := by
  rw [← ManifestStore.length_entriesOf] at hcabins hpieces
  exact (if_neg (by simp [hserved])).trans ((if_neg (Nat.not_le.mpr hpieces)).trans ((if_neg hcabins).trans (if_pos h)))

theorem ManifestStore.move_moved (hserved : (lookupCabin m.map f.cabin).unserved c = false)
    (hpieces : m.naming f.cabin < 15)
    (hcabins : ¬ (m.cabin f.cabin = none ∧ 1024 ≤ m.cabins.length ∧ 1 < m.naming e.cabin))
    (h : ¬ (lookupCabin m.map f.cabin = .unmapped ∧ e.placement = .placed ∧ 512 ≤ unplacedCount m.table)) :
    m.move c f e =
      ⟨((m.moveEntry e (m.movedEntry f e)).declare f.cabin f.pieces).tally
        fun c => { c with amendments := c.amendments + 1 }, m.moveReports f e⟩ := by
  rw [← ManifestStore.length_entriesOf] at hcabins hpieces
  exact (if_neg (by simp [hserved])).trans ((if_neg (Nat.not_le.mpr hpieces)).trans ((if_neg hcabins).trans (if_neg h)))

end

/-- R70: an entry that moves has the pieces and a cabin record free for it, and a place among the unplaced. -/
theorem ManifestStore.sliceOk.moved (h : m.sliceOk) (hold : m.entry f.tag = some e) (hcabin : e.cabin ≠ f.cabin)
    (hpieces : m.naming f.cabin < 15)
    (hcabins : ¬ (m.cabin f.cabin = none ∧ 1024 ≤ m.cabins.length ∧ 1 < m.naming e.cabin))
    (hunplaced : ¬ (lookupCabin m.map f.cabin = .unmapped ∧ e.placement = .placed ∧ 512 ≤ unplacedCount m.table)) :
    (m.moveEntry e (m.movedEntry f e)).sliceOk := by
  have hpos := ManifestStore.naming_pos (ManifestStore.entry_mem hold)
  rw [← ManifestStore.entry_tag hold] at hold
  refine .moveEntry (e := m.movedEntry f e) h hold hcabin (fun hp => ?_) hpieces fun hnone => ?_
  · by_contra hno
    rw [not_or] at hno
    refine hunplaced ⟨placementOf_unplaced.mp hp, ?_, Nat.le_of_not_lt hno.2⟩
    cases hplace : e.placement with
    | placed => rfl
    | unplaced => exact absurd hplace hno.1
  · by_contra hno
    exact hcabins ⟨hnone, by omega, by omega⟩

/-- R70: what holds of the store where nothing moves, where the entry is removed, and where it moves with room for it, holds
after a cabin move, whatever is counted. -/
theorem ManifestStore.move_induction {c : NodeConfig} {P : ManifestStore → Prop} (hsame : P m) (hdrop : P (m.drop e))
    (htally : ∀ m' g, P m' → P (m'.tally g))
    (hmoved : m.naming f.cabin < 15 → ¬ (m.cabin f.cabin = none ∧ 1024 ≤ m.cabins.length ∧ 1 < m.naming e.cabin) →
      ¬ (lookupCabin m.map f.cabin = .unmapped ∧ e.placement = .placed ∧ 512 ≤ unplacedCount m.table) →
      P ((m.moveEntry e (m.movedEntry f e)).declare f.cabin f.pieces)) : P (m.move c f e).store := by
  cases hserved : (lookupCabin m.map f.cabin).unserved c with
  | true =>
    rw [ManifestStore.move_unserved hserved]
    dsimp only
    exact htally _ _ hdrop
  | false =>
    by_cases hpieces : m.naming f.cabin < 15
    case neg =>
      rw [ManifestStore.move_piecesFull hserved (Nat.le_of_not_lt hpieces)]
      dsimp only
      exact htally _ _ hsame
    by_cases hcabins : m.cabin f.cabin = none ∧ 1024 ≤ m.cabins.length ∧ 1 < m.naming e.cabin
    · rw [ManifestStore.move_cabinFull hserved hpieces hcabins]
      dsimp only
      exact htally _ _ hsame
    by_cases hunplaced : lookupCabin m.map f.cabin = .unmapped ∧ e.placement = .placed ∧ 512 ≤ unplacedCount m.table
    · rw [ManifestStore.move_unplacedFull hserved hpieces hcabins hunplaced]
      dsimp only
      exact htally _ _ (htally _ _ hdrop)
    · rw [ManifestStore.move_moved hserved hpieces hcabins hunplaced]
      dsimp only
      exact htally _ _ (hmoved hpieces hcabins hunplaced)

theorem ManifestStore.sliceOk.move (h : m.sliceOk) (hf : manifestRefused f = false) (hold : m.entry f.tag = some e)
    (hcabin : e.cabin ≠ f.cabin) (c : NodeConfig) : (m.move c f e).store.sliceOk := by
  obtain ⟨-, -, hdeclared⟩ := manifestRefused_eq_false hf
  exact ManifestStore.move_induction (P := ManifestStore.sliceOk) h (h.drop (ManifestStore.entry_mem hold)) (fun _ g h => h.tally g)
    fun hpieces hcabins hunplaced => (h.moved hold hcabin hpieces hcabins hunplaced).declare hdeclared _

theorem ManifestStore.sliceOk.applyManifest (h : m.sliceOk) (c : NodeConfig) (f : ManifestFields) :
    (m.applyManifest c f).store.sliceOk := by
  unfold ManifestStore.applyManifest
  cases hf : manifestRefused f with
  | true => exact h.tally _
  | false =>
    simp only [Bool.false_eq_true, if_false]
    cases hentry : m.entry f.tag with
    | none => exact h.insert hf hentry c
    | some e =>
      dsimp only
      split
      · exact h.amend hf hentry
      · exact h.move hf hentry ‹_› c

/-! ## Withdrawals, marks and the sweep (R72 to R75, R80) -/

theorem ManifestStore.sliceOk.applyWithdraw (h : m.sliceOk) (tag : Nat) : (m.applyWithdraw tag).store.sliceOk := by
  unfold ManifestStore.applyWithdraw
  cases hentry : m.entry tag with
  | none => exact h
  | some e => exact .tally (.drop h (ManifestStore.entry_mem hentry)) _

theorem ManifestStore.lookup_cases (m : ManifestStore) (tag : Nat) :
    m.lookup tag = none ∨ m.lookup tag = m.entry tag := by
  unfold ManifestStore.lookup
  split
  · exact .inl rfl
  · exact .inr rfl

theorem ManifestStore.entry_of_lookup {tag : Nat} (h : m.lookup tag = some e) : m.entry tag = some e := by
  rcases m.lookup_cases tag with hnone | heq
  · rw [hnone] at h
    cases h
  · exact heq ▸ h

/-- R73, R74: an entry takes a mark. -/
theorem ManifestStore.sliceOk.put_mark (h : m.sliceOk) {tag : Nat} (hold : m.entry tag = some e) (mark : DeliveredMark) :
    (m.put { e with mark := mark }).sliceOk := by
  cases ManifestStore.entry_tag hold
  exact .put_replaced (e := { e with mark := mark }) h hold rfl .inl

theorem ManifestStore.sliceOk.takeDelivered (h : m.sliceOk) (f : DeliveredFields) : (m.takeDelivered f).sliceOk := by
  unfold ManifestStore.takeDelivered
  split
  · exact h.tally _
  · cases hentry : m.lookup f.tag with
    | none => exact h
    | some e =>
      dsimp only
      split
      · exact h.put_mark (ManifestStore.entry_of_lookup hentry) _
      · exact h.tally _

theorem ManifestStore.sliceOk.markSelf (h : m.sliceOk) (tag : Nat) (k : OutletNo) (deck : Nat) :
    (m.markSelf tag k deck).sliceOk := by
  unfold ManifestStore.markSelf
  cases hentry : m.lookup tag with
  | none => exact h.tally _
  | some e =>
    have hput := h.put_mark (ManifestStore.entry_of_lookup hentry) (.self k deck)
    dsimp only
    split
    · exact hput
    · exact hput.tally _
    · exact h.tally _

/-- R63: a record that stands as its entries have it is recounted without effect. -/
theorem ManifestStore.recount_self {c x : Nat} (hsorted : (m.cabins.map CabinRecord.cabin).Pairwise (· < ·))
    (hrecord : m.cabin c = some ⟨c, x, m.markedIn c⟩) (hpos : m.naming c ≠ 0) (hle : m.markedIn c ≤ x) :
    m.recount c = m := by
  have hsame : m.recounted c = some ⟨c, x, m.markedIn c⟩ := by
    rw [ManifestStore.recounted, if_neg hpos, hrecord, Option.map_some, Option.getD_some, max_eq_left hle]
  have hcabins : (m.recount c).cabins = m.cabins := by
    rw [ManifestStore.recount_cabins, hsame]
    exact putByKey_self hsorted hrecord
  have hrest : m.recount c = { m with cabins := (m.recount c).cabins } := by
    unfold ManifestStore.recount
    split <;> rfl
  rw [hrest, hcabins]

/-- An entry put in place of one with the same cabin and mark leaves the cabin records as they are. -/
theorem ManifestStore.put_unmarked (h : m.sliceOk) (hold : m.entry e.tag = some old) (hcabin : old.cabin = e.cabin)
    (hmark : old.marked = e.marked) : m.put e = m.withTable (putEntry e m.table) := by
  have hnaming : (m.withTable (putEntry e m.table)).naming e.cabin = m.naming e.cabin := by
    have := ManifestStore.naming_replaced h hold e.cabin
    rw [hcabin] at this
    omega
  have hmarked : (m.withTable (putEntry e m.table)).markedIn e.cabin = m.markedIn e.cabin := by
    have := ManifestStore.markedIn_replaced h hold e.cabin
    rw [hcabin, hmark] at this
    omega
  have hmem := ManifestStore.entry_mem hold
  obtain ⟨x, hx, hle, -⟩ := h.record hmem
  have hpos := ManifestStore.naming_pos hmem
  rw [hcabin] at hx hle hpos
  exact ManifestStore.recount_self (m := m.withTable _) h.cabins_sorted (hmarked ▸ hx) (by omega) (by omega)

theorem ManifestStore.sliceOk.markStrayed (h : m.sliceOk) (tag : Nat) : (m.markStrayed tag).sliceOk := by
  unfold ManifestStore.markStrayed
  cases hentry : m.lookup tag with
  | none => exact h
  | some e =>
    have hold := ManifestStore.entry_of_lookup hentry
    cases ManifestStore.entry_tag hold
    have hput := ManifestStore.sliceOk.put_replaced (e := e.stray) h hold rfl .inl
    rw [ManifestStore.put_unmarked (e := e.stray) h hold rfl rfl] at hput
    exact hput

theorem ManifestStore.sliceOk.examine (h : m.sliceOk) (c : NodeConfig) (he : e ∈ m.table) :
    (m.examine c e).store.sliceOk := by
  have hold := ManifestStore.entry_of_mem h.table_sorted he
  have hremoved := (h.drop he).tally fun c => { c with sweepRemovals := c.sweepRemovals + 1 }
  have hplaced : ∀ mark, (m.put { e with placement := .placed, mark := mark }).sliceOk := fun mark =>
    .put_replaced (e := { e with placement := .placed, mark := mark }) h hold rfl fun hp => by cases hp
  unfold ManifestStore.examine
  dsimp only
  split
  · split
    · split
      · exact hplaced e.mark
      · exact hplaced .none
    · exact hremoved
  · exact hplaced e.mark
  · split
    · rename_i hroom
      exact .put_replaced (e := { e with placement := .unplaced }) h hold rfl fun _ => hroom
    · exact hremoved

end

end Sys2Proof.Machine
end

section
/-! SUPPORT. The Manifest Store along the commands: which operations leave it alone, and the changes that every command's effect on
it is made of. -/

open Sys2Proof

namespace Sys2Proof.Machine

/-! ## Operations that leave the Manifest Store alone -/

section
variable (s : State)

theorem State.ms_of_pointFrame {s t : State} (h : t.pointFrame = s.pointFrame) : t.ms = s.ms := congrArg Prod.fst h

/-! ### Shared operations -/

@[simp] theorem State.endRecord_ms (n) : (s.endRecord n).ms = s.ms := State.ms_of_pointFrame (s.endRecord_pointFrame n)
@[simp] theorem State.reportLost_ms (r) : (s.reportLost r).ms = s.ms := State.ms_of_pointFrame (s.reportLost_pointFrame r)
@[simp] theorem State.rederive_ms (k first) : (s.rederive k first).ms = s.ms :=
  State.ms_of_pointFrame (s.rederive_pointFrame k first)
@[simp] theorem State.closeWindow_ms (n x) : (s.closeWindow n x).ms = s.ms := rfl

@[simp] theorem State.rederiveDecks_ms (ds) : (s.rederiveDecks ds).ms = s.ms := by
  rw [State.rederiveDecks_eq_foldl]
  refine foldl_keeps (g := State.ms) (fun u k => ?_) _ _
  unfold State.rederiveAmong
  repeat' split
  all_goals simp

@[simp] theorem State.clearClosedDecks_ms : s.clearClosedDecks.ms = s.ms := State.rederiveDecks_ms ..

@[simp] theorem State.clearLog_ms : s.clearLog.ms = s.ms := by
  unfold State.clearLog; dsimp only; split <;> rfl

@[simp] theorem State.wakeUp_ms : s.wakeUp.ms = s.ms := by
  rw [State.wakeUp_eq]; split <;> rfl

@[simp] theorem State.wakeIfAddressed_ms (rx) : (s.wakeIfAddressed rx).ms = s.ms := by
  unfold State.wakeIfAddressed; split <;> simp

@[simp] theorem State.queueOutletStates_ms : s.queueOutletStates.ms = s.ms := by
  rw [State.queueOutletStates_eq]; rfl

@[simp] theorem State.discard_ms (j) : (s.discard j).ms = s.ms := by
  cases j <;> rfl

/-! ### The Section Tracker, the reader port and the outlets -/

@[simp] theorem State.inductionBlocked_ms : s.inductionBlocked.ms = s.ms := by
  unfold State.inductionBlocked; dsimp only; split
  · exact s.wakeUp_ms
  · exact s.wakeUp_ms

@[simp] theorem State.bindIfAwaiting_ms (n l) : (s.bindIfAwaiting n l).ms = s.ms := by
  unfold State.bindIfAwaiting State.bindAtTrailing; repeat' split
  all_goals simp

@[simp] theorem State.withdraw_ms (n) : (s.withdraw n).ms = s.ms := by simp [State.withdraw]

@[simp] theorem State.takeClosePoint_ms (n) : (s.takeClosePoint n).ms = s.ms :=
  State.ms_of_pointFrame (s.takeClosePoint_pointFrame n)

@[simp] theorem State.trailingEdge_ms (n x) : (s.trailingEdge n x).ms = s.ms := by
  unfold State.trailingEdge State.registerClosePoint; dsimp only; repeat' split
  all_goals simp

@[simp] theorem State.inductionCleared_ms : s.inductionCleared.ms = s.ms := by
  unfold State.inductionCleared; dsimp only; repeat' split
  all_goals simp

@[simp] theorem State.handoffBlocked_ms : s.handoffBlocked.ms = s.ms := by
  unfold State.handoffBlocked State.handOff; repeat' split
  all_goals simp

@[simp] theorem State.bindRead_ms (tag) : (s.bindRead tag).ms = s.ms := by
  unfold State.bindRead; split <;> rfl

@[simp] theorem State.bindBreak_ms : s.bindBreak.ms = s.ms := by
  unfold State.bindBreak; split <;> rfl

@[simp] theorem State.judgeReport_ms (cs) : (s.judgeReport cs).ms = s.ms := by
  unfold State.judgeReport; dsimp only; split <;> simp

@[simp] theorem State.assemble_ms (ch) : (s.assemble ch).ms = s.ms := by
  unfold State.assemble; repeat' split
  all_goals simp

@[simp] theorem State.takeCharacter_ms (e) : (State.takeCharacter e s).ms = s.ms := by
  unfold State.takeCharacter State.receiveCharacter; repeat' split
  all_goals simp

@[simp] theorem State.takeBreak_ms : s.takeBreak.ms = s.ms := by
  unfold State.takeBreak; split <;> simp

@[simp] theorem State.takeRate_ms (e) : (State.takeRate e s).ms = s.ms := by
  unfold State.takeRate; split <;> rfl

@[simp] theorem State.takeConversions_ms (k cs) : (s.takeConversions k cs).ms = s.ms := by
  simp [State.takeConversions]

@[simp] theorem State.takeRestore_ms (rx n) : (s.takeRestore rx n).ms = s.ms := by
  unfold State.takeRestore; split <;> simp

@[simp] theorem State.takeDeckClose_ms (d) : (s.takeDeckClose d).ms = s.ms := by
  unfold State.takeDeckClose; split <;> simp

@[simp] theorem State.takeDeckOpen_ms (d) : (s.takeDeckOpen d).ms = s.ms := by
  unfold State.takeDeckOpen; split <;> simp

/-! ### The Stray Unit, the Hall Line Controller and Node Control -/

@[simp] theorem State.takeLost_ms (r) : (s.takeLost r).ms = s.ms := by
  unfold State.takeLost; repeat' split
  all_goals rfl

@[simp] theorem State.takeMisplaced_ms (n r) : (s.takeMisplaced n r).ms = s.ms := by
  unfold State.takeMisplaced; repeat' split
  all_goals rfl

@[simp] theorem State.takeClaim_ms (rx q f) : (s.takeClaim rx q f).ms = s.ms := by
  unfold State.takeClaim; dsimp only; split <;> rfl

@[simp] theorem State.startAttempt_ms : s.startAttempt.ms = s.ms := by
  unfold State.startAttempt; split <;> rfl

@[simp] theorem State.endAttempt_ms (e) : (State.endAttempt e s).ms = s.ms := by
  unfold State.endAttempt; split <;> simp

@[simp] theorem State.takeIdleGap_ms : s.takeIdleGap.ms = s.ms := by
  unfold State.takeIdleGap State.detach State.rejoin; dsimp only; repeat' split
  all_goals simp [State.queueHello]

@[simp] theorem State.takeDiscarded_ms (cls rx p) : (s.takeDiscarded cls rx p).ms = s.ms := by
  unfold State.takeDiscarded; repeat' split
  all_goals simp [State.takeInFault]

@[simp] theorem State.abandon_ms : s.abandon.ms = s.ms := by
  unfold State.abandon
  rw [foldl_keeps (g := State.ms) fun _ _ => State.endRecord_ms _ _]
  rfl

@[simp] theorem State.takeReset_ms : s.takeReset.ms = s.ms := by
  unfold State.takeReset; dsimp only
  split <;> simp [State.rejoinHall, State.resetBlocks, State.startPass, State.enterJoining, State.queueHello]

@[simp] theorem State.takeStandby_ms : s.takeStandby.ms = s.ms := by
  unfold State.takeStandby; split <;> simp [State.ignoreCommand]

@[simp] theorem State.takeWake_ms : s.takeWake.ms = s.ms := by
  unfold State.takeWake; split <;> simp [State.ignoreCommand]

@[simp] theorem State.takeQuery_ms (rx k b) : (s.takeQuery rx k b).ms = s.ms := by
  unfold State.takeQuery; split <;> simp [State.discardQuery, State.reply]

@[simp] theorem State.takeLogQuery_ms (rx c p) : (s.takeLogQuery rx c p).ms = s.ms := by
  unfold State.takeLogQuery; dsimp only; split <;> simp

@[simp] theorem State.takeMapQuery_ms (rx c) : (s.takeMapQuery rx c).ms = s.ms := by
  unfold State.takeMapQuery; dsimp only; split <;> simp

end

/-! ## The changes of the Manifest Store -/

/-- What the invariants of the store speak of. -/
def ManifestStore.stores (m : ManifestStore) : List TagEntry × List CabinRecord × List MapRange × List HeldTelegram × Bool :=
  (m.table, m.cabins, m.map, m.hold, m.purgeRunning)

/-- One change of the Manifest Store. -/
inductive ManifestStore.Change (m : ManifestStore) : ManifestStore → Prop
  /-- R80, R87, R88, R90: the counters, the sweep's place and the indicators change. -/
  | note (m' : ManifestStore) (h : m'.stores = m.stores) : m.Change m'
  /-- R66. -/
  | manifest (c : NodeConfig) (f : ManifestFields) : m.Change (m.applyManifest c f).store
  /-- R72. -/
  | withdraw (tag : Nat) : m.Change (m.applyWithdraw tag).store
  /-- R74. -/
  | delivered (f : DeliveredFields) : m.Change (m.takeDelivered f)
  /-- R73. -/
  | markSelf (tag : Nat) (k : OutletNo) (deck : Nat) : m.Change (m.markSelf tag k deck)
  /-- R75. -/
  | markStrayed (tag : Nat) : m.Change (m.markStrayed tag)
  /-- R77, R79: a DECK-MAP that passes its checks changes the map. -/
  | map (f : DeckMapFields) (rs : List MapRange) (hf : deckMapRefused f = false) (h : f.change m.map = .changed rs) :
      m.Change { m with map := recontest rs }
  /-- R83. -/
  | hold (t : HeldTelegram) (hpurge : m.purgeRunning = true) : m.Change (m.holdTelegram t)
  /-- R80. -/
  | examine (c : NodeConfig) (e : TagEntry) (he : e ∈ m.table) : m.Change (m.examine c e).store
  /-- R82, R85 to R88: the stores are emptied, as a purge starts or ends or as their supply has failed; the hold queue is emptied,
  or left where no purge ends. -/
  | clear (m' : ManifestStore) (htable : m'.table = []) (hcabins : m'.cabins = []) (hmap : m'.map = [])
      (hhold : m'.hold = [] ∨ m'.hold = m.hold ∧ (m.purgeRunning = true → m'.purgeRunning = true)) : m.Change m'
  /-- R196. -/
  | powerLoss : m.Change m.retained

/-- The Manifest Store of `t` comes from that of `s` by changes alone. -/
def State.StoreTracks (s t : State) : Prop := Relation.ReflTransGen ManifestStore.Change s.ms t.ms

section
variable {s t u : State}

theorem State.StoreTracks.refl (s : State) : s.StoreTracks s := Relation.ReflTransGen.refl

theorem State.StoreTracks.trans (h : s.StoreTracks t) (h' : t.StoreTracks u) : s.StoreTracks u := Relation.ReflTransGen.trans h h'

theorem State.StoreTracks.of_eq (h : t.ms = s.ms) : s.StoreTracks t := by
  rw [State.StoreTracks, h]

theorem State.StoreTracks.of_change (h : s.ms.Change t.ms) : s.StoreTracks t := .single h

theorem State.StoreTracks.of_stores (h : t.ms.stores = s.ms.stores) : s.StoreTracks t := .of_change (.note _ h)

/-- What comes after a state of the same Manifest Store comes after this one. -/
theorem State.StoreTracks.after (h : u.StoreTracks t) (heq : u.ms = s.ms) : s.StoreTracks t :=
  (State.StoreTracks.of_eq heq).trans h

theorem State.StoreTracks.ite {p : Prop} [Decidable p] (h : p → s.StoreTracks t) : s.StoreTracks (if p then t else s) := by
  split
  · exact h ‹_›
  · exact .refl s

/-- A fold of operations that each track. -/
theorem State.StoreTracks.foldl {α : Type} {f : State → α → State} (h : ∀ (u : State) a, u.StoreTracks (f u a)) (l : List α)
    (s : State) : s.StoreTracks (l.foldl f s) := by
  induction l generalizing s with
  | nil => exact .refl s
  | cons a l ih => exact (h s a).trans (ih _)

/-! ## The operations that change it -/

theorem State.StoreTracks.reportMisplaced (s : State) (r : MisplacedReport) : s.StoreTracks (s.reportMisplaced r) := by
  rw [State.reportMisplaced_eq]
  exact .of_stores rfl

theorem State.StoreTracks.commitStores {x : StoreChange} (h : s.ms.Change x.store) : s.StoreTracks (s.commitStores x) :=
  (State.StoreTracks.of_change (t := s.onMs fun _ => x.store) h).trans (.foldl .reportMisplaced _ _)

theorem ManifestStore.startSweep_stores (m : ManifestStore) : m.startSweep.stores = m.stores := by
  unfold ManifestStore.startSweep; split <;> rfl

theorem ManifestStore.advanceSweep_stores (last : Nat) (m : ManifestStore) : (m.advanceSweep last).stores = m.stores := by
  unfold ManifestStore.advanceSweep; split <;> rfl

theorem State.StoreTracks.applyDeckMap (s : State) (f : DeckMapFields) : s.StoreTracks (s.applyDeckMap f) := by
  unfold State.applyDeckMap
  cases hf : deckMapRefused f with
  | true => exact .of_stores rfl
  | false =>
    simp only [Bool.false_eq_true, if_false]
    cases hchange : f.change s.ms.map with
    | unchanged => exact .refl s
    | full | notFound => exact .of_stores rfl
    | changed rs =>
      have hmap : s.StoreTracks (s.onMs fun m => { m with map := recontest rs }) := .of_change (.map f rs hf hchange)
      exact hmap.trans (.of_stores (ManifestStore.startSweep_stores _))

theorem State.StoreTracks.applyHeld (s : State) (t : HeldTelegram) : s.StoreTracks (s.applyHeld t) := by
  cases t with
  | manifest f => exact .commitStores (.manifest s.config f)
  | withdraw tag => exact .commitStores (.withdraw tag)
  | deckMap f => exact .applyDeckMap s f

theorem State.StoreTracks.takeManifestTelegram (s : State) (t : HeldTelegram) : s.StoreTracks (s.takeManifestTelegram t) := by
  unfold State.takeManifestTelegram
  split
  · exact .of_change (.hold t ‹_›)
  · exact .applyHeld s t

theorem State.StoreTracks.examineNext (s : State) (last : Nat) : s.StoreTracks (s.examineNext last) := by
  unfold State.examineNext
  split
  · exact .of_stores (ManifestStore.advanceSweep_stores last _)
  · rename_i e he
    exact (State.StoreTracks.commitStores (.examine s.config e (List.mem_of_find?_eq_some he))).trans
      (.of_stores (ManifestStore.advanceSweep_stores e.tag _))

theorem State.StoreTracks.takePurge (s : State) : s.StoreTracks s.takePurge := by
  have hms : s.takePurge.ms = if s.ms.purgeRunning then s.ms.restartPurge else s.ms.startPurge := by
    simp [State.takePurge]
  refine .of_change ?_
  rw [hms]
  split
  · exact .clear _ rfl rfl rfl (.inl rfl)
  · exact .clear _ rfl rfl rfl (.inr ⟨rfl, fun _ => rfl⟩)

theorem State.StoreTracks.finishPurge (s : State) : s.StoreTracks (s.onMs ManifestStore.finishPurge) :=
  .of_change (.clear _ rfl rfl rfl (.inl rfl))

theorem State.StoreTracks.completePurge (s : State) : s.StoreTracks s.completePurge :=
  (State.StoreTracks.finishPurge s).trans (.foldl .applyHeld _ _)

theorem State.StoreTracks.markStrayed (s : State) (tag : Nat) : s.StoreTracks (s.onMs (ManifestStore.markStrayed tag)) :=
  .of_change (.markStrayed tag)

theorem State.StoreTracks.logStray (s : State) (tags : List Nat) (reason : Option StrayReason) (lap : Nat)
    (length : Option Nat) : s.StoreTracks (s.logStray tags reason lap length) := by
  unfold State.logStray
  split
  · exact .of_eq rfl
  · have hmark : s.StoreTracks (tags.foldl (fun t tag => t.onMs (ManifestStore.markStrayed tag)) s) := .foldl .markStrayed _ _
    refine hmark.trans (.of_eq ?_)
    exact List.foldl_hom (g₁ := fun t tag => t.onMs (ManifestStore.markStrayed tag)) (g₂ := fun m tag => m.markStrayed tag)
      (l := tags) (init := s) State.ms fun _ _ => rfl

theorem State.StoreTracks.followDelivery (s : State) (k : OutletNo) (r : BagRecord) (kind : CommitmentKind) :
    s.StoreTracks (s.followDelivery k r kind) := by
  cases kind with
  | deck tag cabin deck => exact .of_change (.markSelf tag k deck)
  | stray => exact .after (.logStray _ r.tags r.reason r.lap r.length) rfl

theorem State.StoreTracks.exitBlocked (s : State) (k : OutletNo) : s.StoreTracks (s.exitBlocked k) := by
  unfold State.exitBlocked
  split
  · exact .after ((State.StoreTracks.followDelivery _ k _ _).trans (.of_eq (State.standbyTest_ms _)))
      (by simp [State.deliverPush, State.reportConfirmation])
  · exact .of_eq rfl

theorem State.StoreTracks.takeCall (s : State) (caller : Nat) (sequence : Count) (tags : List Nat) :
    s.StoreTracks (s.takeCall caller sequence tags) := by
  unfold State.takeCall
  split
  · exact .of_eq rfl
  · refine .after (.foldl (fun u tag => ?_) tags _) rfl
    unfold State.answerCall
    split
    · exact .after (.markStrayed u tag) rfl
    · exact .refl u

/-! ### Power and START -/

theorem State.StoreTracks.startStages (s : State) :
    s.StoreTracks s.checkRetention.finishPendingPurge.endStaleWindows := by
  have hcheck : s.StoreTracks s.checkRetention := by
    by_cases hlow : s.ms.lowMark = true
    · have hms : s.checkRetention.ms = { s.ms with
          table := [], cabins := [], map := [], purgePending := false, retentionLost := true, lowMark := false } :=
        if_pos hlow
      refine .of_change ?_
      rw [hms]
      exact .clear _ rfl rfl rfl (.inr ⟨rfl, id⟩)
    · exact .of_eq (if_neg hlow)
  refine hcheck.trans ?_
  unfold State.finishPendingPurge
  split
  · exact .after (.finishPurge _) rfl
  · exact .of_eq rfl

theorem State.StoreTracks.startComplete (s : State) (straps : BitVec 6) (image : List Byte) :
    s.StoreTracks (match startFault straps image with
      | some code => s.enterConfigFault code
      | none => ((s.startBlocks (configOf straps image)).onNc NodeControl.markBoth).enterJoining) := by
  split
  · exact .of_eq rfl
  · exact .of_stores s.ms.startSweep_stores

end

/-! ## The commands -/

section
variable {s : State}

/-- The outcome of a command whose effect on the Manifest Store is made of its changes. -/
def outcomeStoreTracks (s : State) (o : Host.Outcome State Fault Refusal) : Prop := ∃ t, o = .next t ∧ s.StoreTracks t

theorem storeTracks_ite {t : State} {p : Prop} [Decidable p] (h : p → s.StoreTracks t) :
    outcomeStoreTracks s (.next (if p then t else s)) := ⟨_, rfl, .ite h⟩

/-- R182, R183: a telegram is given to its owner, or at most counted. -/
theorem State.StoreTracks.receive {owner : State → State} (h : ∀ u : State, u.StoreTracks (owner u)) (cls : Byte) (rx : Rx)
    (p : List Byte) : s.StoreTracks (s.receive cls rx p owner) := by
  unfold State.receive
  split
  · exact .refl s
  · exact .of_eq rfl
  · split
    · exact .after (h _) (s.takeTelegram_ms rx)
    · exact .of_eq (by simp)

theorem storeTracks_receive {owner : State → State} {cls : Byte} {rx : Rx} {p : List Byte}
    (h : ∀ u : State, u.StoreTracks (owner u)) : outcomeStoreTracks s (.next (s.receive cls rx p owner)) :=
  ⟨_, rfl, .receive h cls rx p⟩

/-- The samples of a command, and the effect of their event. -/
theorem storeTracks_heard {σ ε : Type} {r : Option (σ × Option ε)} {store : σ → State → State} {act : ε → State → State}
    {p : Prop} [Decidable p] (hstore : ∀ f, (store f s).ms = s.ms) (hact : ∀ e (u : State), u.StoreTracks (act e u)) :
    outcomeStoreTracks s (.next (if p then s.heard r store act else s)) := by
  refine storeTracks_ite fun _ => ?_
  rcases s.heard_cases r store act with ⟨-, he⟩ | ⟨f, -, he⟩ | ⟨f, e, -, he⟩ <;> rw [he]
  · exact .refl s
  · exact .of_eq (hstore f)
  · exact .after (hact e _) (hstore f)

theorem exec_storeTracks (c : Instr) (s : State) : outcomeStoreTracks s (exec c s) := by
  cases c with
  | powerOn =>
    refine ⟨_, rfl, ?_⟩
    split
    · exact .refl s
    · exact .after (.startStages _) rfl
  | startComplete straps image => exact storeTracks_ite fun _ => .startComplete s straps image
  | powerLoss => exact storeTracks_ite fun _ => .of_change .powerLoss
  | retentionLow =>
    refine ⟨_, rfl, ?_⟩
    split
    · exact .refl s
    · exact .of_stores rfl
  | encoderPulse => exact storeTracks_ite fun _ => .of_eq ((State.ms_of_pointFrame (State.settlePoints_pointFrame _)).trans rfl)
  | speedWindowEnd => exact storeTracks_ite fun _ => .of_eq rfl
  | inductionBlockedEdge samples => exact storeTracks_heard (fun _ => rfl) fun _ u => .of_eq u.inductionBlocked_ms
  | inductionClearedEdge samples => exact storeTracks_heard (fun _ => rfl) fun _ u => .of_eq u.inductionCleared_ms
  | handoffEyeBlockedEdge samples => exact storeTracks_heard (fun _ => rfl) fun _ u => .of_eq u.handoffBlocked_ms
  | exitEyeBlockedEdge k samples => exact storeTracks_heard (fun _ => rfl) fun _ u => .exitBlocked u k
  | actuatorFaultChange k samples => exact storeTracks_heard (fun _ => rfl) fun _ u => .of_eq (State.rederive_ms ..)
  | framingError line => exact storeTracks_heard (fun _ => rfl) fun _ _ => .of_eq rfl
  | readerBreak line => exact storeTracks_heard (fun _ => rfl) fun _ u => .of_eq u.takeBreak_ms
  | report line => exact storeTracks_heard (fun _ => rfl) fun e u => .of_eq (u.takeCharacter_ms e)
  | characterReceived line => exact storeTracks_heard (fun _ => rfl) fun e u => .of_eq (u.takeCharacter_ms e)
  | rateMeasurement line => exact storeTracks_heard (fun _ => rfl) fun e u => .of_eq (u.takeRate_ms e)
  | rateOverflow line => exact storeTracks_heard (fun _ => rfl) fun e u => .of_eq (u.takeRate_ms e)
  | spanPoint n => exact storeTracks_ite fun _ => .of_eq (State.ms_of_pointFrame (s.takeSpanPoint_pointFrame n))
  | windowEndPoint n => exact storeTracks_ite fun _ => .of_eq (State.ms_of_pointFrame (s.takeWindowEnd_pointFrame n))
  | expiryPoint node bag => exact storeTracks_ite fun _ => .of_eq (State.ms_of_pointFrame (s.takeExpiry_pointFrame node bag))
  | closePoint n => exact storeTracks_ite fun _ => .of_eq (s.takeClosePoint_ms n)
  | armPoint n k => exact storeTracks_ite fun _ => .of_eq (State.ms_of_pointFrame (s.takeArmPoint_pointFrame n k))
  | firePoint n => exact storeTracks_ite fun _ => .of_eq (State.ms_of_pointFrame (s.takeFirePoint_pointFrame n))
  | deadlinePoint n => exact storeTracks_ite fun _ => .of_eq (State.ms_of_pointFrame (s.takeDeadline_pointFrame n))
  | strokeTimerExpiry k => exact storeTracks_ite fun _ => .of_eq (State.standbyTest_ms _)
  | gaugeConversionEnd codes =>
    refine ⟨_, rfl, ?_⟩
    split
    · exact .ite fun _ => .of_eq (s.takeConversions_ms _ codes)
    · exact .refl s
  | gaugePassStart => exact storeTracks_ite fun _ => .of_eq rfl
  | refreshTimerExpiry => exact storeTracks_ite fun _ => .of_eq s.queueOutletStates_ms
  | viewExpiry peer deck time => exact storeTracks_ite fun _ => .of_eq rfl
  | claimWindowEnd sequence => exact storeTracks_ite fun _ => .of_eq (by dsimp only; split <;> rfl)
  | joinTimerExpiry => exact storeTracks_ite fun _ => .of_eq rfl
  | sweepExamination =>
    refine ⟨_, rfl, ?_⟩
    split
    · exact .ite fun _ => .examineNext s _
    · exact .refl s
  | purgeComplete => exact storeTracks_ite fun _ => .completePurge s
  | attemptStart line =>
    refine storeTracks_ite fun _ => .of_eq ?_
    split <;> simp
  | attemptEnd line => exact storeTracks_heard (fun _ => rfl) fun e u => .of_eq (u.endAttempt_ms e)
  | receiveError line => exact storeTracks_heard (fun _ => rfl) fun _ _ => .of_eq rfl
  | detachment line => exact storeTracks_heard (fun _ => rfl) fun _ u => .of_eq u.takeIdleGap_ms
  | rejoin line => exact storeTracks_heard (fun _ => rfl) fun _ u => .of_eq u.takeIdleGap_ms
  | idleGap line => exact storeTracks_heard (fun _ => rfl) fun _ u => .of_eq u.takeIdleGap_ms
  | telegramDiscarded cls rx p => exact ⟨_, rfl, .of_eq (s.takeDiscarded_ms cls rx p)⟩
  | handoff rx p => exact storeTracks_receive fun u => .of_eq (u.wakeIfAddressed_ms rx)
  | manifest rx p => exact storeTracks_receive fun u => .takeManifestTelegram u _
  | manifestWithdraw rx p => exact storeTracks_receive fun u => .takeManifestTelegram u _
  | deckMap rx p => exact storeTracks_receive fun u => .takeManifestTelegram u _
  | delivered rx p => exact storeTracks_receive fun _ => .of_change (.delivered _)
  | purge rx p => exact storeTracks_receive .takePurge
  | outletState rx p => exact storeTracks_receive fun _ => .of_eq rfl
  | deckClose rx p => exact storeTracks_receive fun u => .of_eq (u.takeDeckClose_ms _)
  | deckOpen rx p => exact storeTracks_receive fun u => .of_eq (u.takeDeckOpen_ms _)
  | outletRestore rx p =>
    exact storeTracks_receive fun u => .of_eq ((State.takeRestore_ms ..).trans (u.wakeIfAddressed_ms rx))
  | strayCall rx p => exact storeTracks_receive fun u => .takeCall u ..
  | claim rx p => exact storeTracks_receive fun u => .of_eq ((State.takeClaim_ms ..).trans (u.wakeIfAddressed_ms rx))
  | lost rx p => exact storeTracks_receive fun u => .of_eq (u.takeLost_ms _)
  | misplaced rx p => exact storeTracks_receive fun u => .of_eq (u.takeMisplaced_ms ..)
  | reset rx p => exact storeTracks_receive fun u => .of_eq u.takeReset_ms
  | standby rx p => exact storeTracks_receive fun u => .of_eq u.takeStandby_ms
  | wake rx p => exact storeTracks_receive fun u => .of_eq u.takeWake_ms
  | hello rx p => exact storeTracks_receive fun _ => .of_eq rfl
  | identity rx a => exact storeTracks_receive fun u => .of_eq (u.takeQuery_ms ..)
  | outlet rx a => exact storeTracks_receive fun u => .of_eq (u.takeQuery_ms ..)
  | tag rx a => exact storeTracks_receive fun u => .of_eq (u.takeQuery_ms ..)
  | cabin rx a => exact storeTracks_receive fun u => .of_eq (u.takeQuery_ms ..)
  | counters rx a => exact storeTracks_receive fun u => .of_eq (u.takeQuery_ms ..)
  | strayLog rx a => exact storeTracks_receive fun u => .of_eq (u.takeLogQuery_ms ..)
  | map rx a => exact storeTracks_receive fun u => .of_eq (u.takeMapQuery_ms ..)
  | queryKindUnknown rx kind a =>
    refine ⟨_, rfl, ?_⟩
    unfold State.takeUnknownKind
    split
    · exact .refl s
    · exact .receive (fun u => .of_eq (u.takeQuery_ms ..)) ..

/-- What every change of the Manifest Store keeps, every step does. -/
theorem step_keeps_store {P : ManifestStore → Prop} (hP : ∀ m m', P m → m.Change m' → P m') {s t : State}
    (hstep : step s = .next t) (hs : P s.ms) : P t.ms := by
  refine step_of_exec (P := fun s t => P s.ms → P t.ms) (fun _ => id) (fun c cs s => ?_) hstep hs
  obtain ⟨t, ht, htracks⟩ := exec_storeTracks c { s with pending := cs }
  refine ⟨t, ht, fun hs => ?_⟩
  unfold State.StoreTracks at htracks
  generalize t.ms = m at htracks ⊢
  induction htracks with
  | refl => exact hs
  | tail _ hchange ih => exact hP _ _ ih hchange

end

/-! ## What the changes keep of the slice and of the hold queue -/

section
variable {m m' : ManifestStore}

theorem ManifestStore.sliceOk.change (h : m.sliceOk) (hchange : m.Change m') : m'.sliceOk := by
  cases hchange with
  | note _ hstores =>
    exact h.of_eq (congrArg Prod.fst hstores) (congrArg (fun x => x.2.1) hstores)
  | manifest c f => exact h.applyManifest c f
  | withdraw tag => exact h.applyWithdraw tag
  | delivered f => exact h.takeDelivered f
  | markSelf tag k deck => exact h.markSelf tag k deck
  | markStrayed tag => exact h.markStrayed tag
  | map f rs hf hmap => exact h.of_eq rfl rfl
  | hold t hpurge =>
    unfold ManifestStore.holdTelegram
    split
    · exact h.of_eq rfl rfl
    · exact h.tally _
  | examine c e he => exact h.examine c he
  | clear _ htable hcabins => exact ManifestStore.sliceOk_empty htable hcabins
  | powerLoss => exact h.of_eq rfl rfl

end

end Sys2Proof.Machine

open Sys2Proof.Machine

/-- Settles O12: every step's effect on the store is made of changes, each of which puts, removes or moves an entry with room for
it and recounts the cabins it touches, or does not concern the slice. -/
theorem sliceKept : Obligations.SliceKept := by
  unfold Obligations.SliceKept
  exact fun s t hcapacities hcabins hstep =>
    step_keeps_store (fun _ _ h hchange => ManifestStore.sliceOk.change h hchange) hstep ⟨hcapacities, hcabins⟩

end

section
/-! SUPPORT. What the rules of the tag table leave of the Manifest Store (R63): the map, the sweep, the purge and the hold queue. -/

open Sys2Proof

namespace Sys2Proof.Machine

section
variable {m m' m'' : ManifestStore}

theorem ManifestStore.keepsRest.refl (m : ManifestStore) : m.keepsRest m := rfl

theorem ManifestStore.keepsRest.trans (h : m.keepsRest m') (h' : m'.keepsRest m'') : m.keepsRest m'' := by
  unfold ManifestStore.keepsRest at h h' ⊢
  rw [h', h]

/-- The parts that an operation on the tag table leaves. -/
theorem ManifestStore.keepsRest.fields (h : m.keepsRest m') :
    m'.map = m.map ∧ m'.hold = m.hold ∧ m'.purgeRunning = m.purgeRunning ∧ m'.sweep = m.sweep := by
  unfold ManifestStore.keepsRest at h
  rw [h]
  exact ⟨rfl, rfl, rfl, rfl⟩

theorem ManifestStore.keepsRest.symm (h : m.keepsRest m') : m'.keepsRest m := by
  unfold ManifestStore.keepsRest at h ⊢
  rw [h]

/-- What an operation leaves alone does not change what came before it. -/
theorem ManifestStore.keepsRest.iff (h : m'.keepsRest m'') : m.keepsRest m'' ↔ m.keepsRest m' :=
  ⟨fun h' => h'.trans h.symm, fun h' => h'.trans h⟩

/-! ## The operations on the tag table -/

section
variable (m m' : ManifestStore) (c n : Nat) (e old : TagEntry) (t : List TagEntry) (g : MsCounters → MsCounters)

@[simp] theorem ManifestStore.keepsRest_tally : m.keepsRest (m'.tally g) ↔ m.keepsRest m' :=
  ManifestStore.keepsRest.iff rfl
@[simp] theorem ManifestStore.keepsRest_withTable : m.keepsRest (m'.withTable t) ↔ m.keepsRest m' :=
  ManifestStore.keepsRest.iff rfl
@[simp] theorem ManifestStore.keepsRest_recount : m.keepsRest (m'.recount c) ↔ m.keepsRest m' :=
  ManifestStore.keepsRest.iff (by unfold ManifestStore.recount; split <;> rfl)
@[simp] theorem ManifestStore.keepsRest_declare : m.keepsRest (m'.declare c n) ↔ m.keepsRest m' :=
  ManifestStore.keepsRest.iff (by unfold ManifestStore.declare; split <;> rfl)
@[simp] theorem ManifestStore.keepsRest_put : m.keepsRest (m'.put e) ↔ m.keepsRest m' := by
  simp [ManifestStore.put_eq]
@[simp] theorem ManifestStore.keepsRest_drop : m.keepsRest (m'.drop e) ↔ m.keepsRest m' := by
  simp [ManifestStore.drop_eq]
@[simp] theorem ManifestStore.keepsRest_moveEntry : m.keepsRest (m'.moveEntry old e) ↔ m.keepsRest m' := by
  simp [ManifestStore.moveEntry]
@[simp] theorem ManifestStore.keepsRest_self : m.keepsRest m := .refl m

end

/-! ## The rules of the tag table -/

theorem ManifestStore.keepsRest_insert (c : NodeConfig) (f : ManifestFields) (m : ManifestStore) : m.keepsRest (m.insert c f) := by
  unfold ManifestStore.insert
  dsimp only
  repeat' split
  all_goals simp

theorem ManifestStore.keepsRest_amend (f : ManifestFields) (e : TagEntry) (m : ManifestStore) : m.keepsRest (m.amend f e) := by
  simp [ManifestStore.amend]

theorem ManifestStore.keepsRest_move (c : NodeConfig) (f : ManifestFields) (e : TagEntry) (m : ManifestStore) :
    m.keepsRest (m.move c f e).store :=
  ManifestStore.move_induction (P := m.keepsRest) (.refl m) (by simp) (fun _ _ h => by simpa using h) fun _ _ _ => by simp

theorem ManifestStore.keepsRest_applyManifest (c : NodeConfig) (f : ManifestFields) (m : ManifestStore) :
    m.keepsRest (m.applyManifest c f).store := by
  unfold ManifestStore.applyManifest
  repeat' split
  · simp
  · exact m.keepsRest_insert c f
  · exact m.keepsRest_amend f _
  · exact m.keepsRest_move c f _

theorem ManifestStore.keepsRest_applyWithdraw (tag : Nat) (m : ManifestStore) : m.keepsRest (m.applyWithdraw tag).store := by
  unfold ManifestStore.applyWithdraw; split <;> simp

theorem ManifestStore.keepsRest_takeDelivered (f : DeliveredFields) (m : ManifestStore) : m.keepsRest (m.takeDelivered f) := by
  unfold ManifestStore.takeDelivered
  repeat' split
  all_goals simp

theorem ManifestStore.keepsRest_markSelf (tag : Nat) (k : OutletNo) (deck : Nat) (m : ManifestStore) :
    m.keepsRest (m.markSelf tag k deck) := by
  unfold ManifestStore.markSelf
  repeat' split
  all_goals simp

theorem ManifestStore.keepsRest_markStrayed (tag : Nat) (m : ManifestStore) : m.keepsRest (m.markStrayed tag) := by
  unfold ManifestStore.markStrayed
  split
  · exact .refl m
  · exact rfl

theorem ManifestStore.keepsRest_examine (c : NodeConfig) (e : TagEntry) (m : ManifestStore) :
    m.keepsRest (m.examine c e).store := by
  unfold ManifestStore.examine
  dsimp only
  repeat' split
  all_goals simp

/-! ## The changes, by what they leave -/

/-- A change of the store leaves the map, the hold queue and the purge, or is one of the map, one of the hold queue, an emptying
or the loss of power. -/
theorem ManifestStore.Change.cases_rest (h : m.Change m') :
    (m'.map = m.map ∧ m'.hold = m.hold ∧ m'.purgeRunning = m.purgeRunning)
      ∨ (∃ f rs, deckMapRefused f = false ∧ DeckMapFields.change f m.map = .changed rs ∧ m' = { m with map := recontest rs })
      ∨ (∃ t, m.purgeRunning = true ∧ m' = m.holdTelegram t)
      ∨ (m'.map = [] ∧ (m'.hold = [] ∨ m'.hold = m.hold ∧ (m.purgeRunning = true → m'.purgeRunning = true)))
      ∨ m' = m.retained := by
  have hrest : m.keepsRest m' → m'.map = m.map ∧ m'.hold = m.hold ∧ m'.purgeRunning = m.purgeRunning := fun hkeep => by
    obtain ⟨hmap, hhold, hpurge, -⟩ := hkeep.fields
    exact ⟨hmap, hhold, hpurge⟩
  cases h with
  | note _ hstores =>
    simp only [ManifestStore.stores, Prod.mk.injEq] at hstores
    obtain ⟨-, -, hmap, hhold, hpurge⟩ := hstores
    exact .inl ⟨hmap, hhold, hpurge⟩
  | manifest c f => exact .inl (hrest (m.keepsRest_applyManifest c f))
  | withdraw tag => exact .inl (hrest (m.keepsRest_applyWithdraw tag))
  | delivered f => exact .inl (hrest (m.keepsRest_takeDelivered f))
  | markSelf tag k deck => exact .inl (hrest (m.keepsRest_markSelf tag k deck))
  | markStrayed tag => exact .inl (hrest (m.keepsRest_markStrayed tag))
  | examine c e he => exact .inl (hrest (m.keepsRest_examine c e))
  | map f rs hf hchange => exact .inr (.inl ⟨f, rs, hf, hchange, rfl⟩)
  | hold t hpurge => exact .inr (.inr (.inl ⟨t, hpurge, rfl⟩))
  | clear _ _ _ hmap hhold => exact .inr (.inr (.inr (.inl ⟨hmap, hhold⟩)))
  | powerLoss => exact .inr (.inr (.inr (.inr rfl)))

theorem ManifestStore.holdOk.change (h : m.holdOk) (hchange : m.Change m') : m'.holdOk := by
  obtain ⟨hlength, hidle⟩ := h
  rcases hchange.cases_rest with
    ⟨-, hhold, hpurge⟩ | ⟨f, rs, -, -, rfl⟩ | ⟨t, hpurge, rfl⟩ | ⟨-, hhold | ⟨hhold, hpurge⟩⟩ | rfl
  · exact ⟨hhold ▸ hlength, fun hp => hhold.trans (hidle (hpurge ▸ hp))⟩
  · exact ⟨hlength, hidle⟩
  · unfold ManifestStore.holdTelegram
    split
    · rename_i hroom
      refine ⟨?_, fun hp => ?_⟩
      · simpa using hroom
      · exact absurd (hpurge.symm.trans hp) (by decide)
    · exact ⟨hlength, hidle⟩
  · exact ⟨by simp [hhold], fun _ => hhold⟩
  · refine ⟨hhold ▸ hlength, fun hp => hhold.trans (hidle ?_)⟩
    cases hm : m.purgeRunning with
    | false => rfl
    | true => exact absurd ((hpurge hm).symm.trans hp) (by decide)
  · exact ⟨Nat.zero_le _, fun _ => rfl⟩

end

end Sys2Proof.Machine

open Sys2Proof.Machine

/-- Settles O14: a telegram is held only while a purge runs and while there is room, and what ends a purge empties the queue. -/
theorem holdQueueKept : Obligations.HoldQueueKept := by
  unfold Obligations.HoldQueueKept
  exact fun s t hhold hstep => step_keeps_store (fun _ _ h hchange => ManifestStore.holdOk.change h hchange) hstep hhold

end

section
/-! SUPPORT. The deck map (R64, R76 to R79): spans that overlap, the union that a new span makes with the ranges of its deck, and the
map that a DECK-MAP leaves. -/

open Sys2Proof

namespace Sys2Proof.Machine

section
variable {d c : Nat} {span u : Nat × Nat} {rs : List MapRange} {r q : MapRange}

/-! ## Spans and ranges -/

theorem spansOverlap_iff {a b : Nat × Nat} : spansOverlap a b = true ↔ a.1 ≤ b.2 ∧ b.1 ≤ a.2 := by
  simp [spansOverlap]

theorem spansOverlap_comm (a b : Nat × Nat) : spansOverlap a b = spansOverlap b a := Bool.and_comm ..

/-- R64: no two ranges of one deck overlap. -/
def deckDisjoint (a b : MapRange) : Prop := a.deck = b.deck → spansOverlap a.span b.span = false

theorem deckDisjoint_symm : Std.Symm deckDisjoint :=
  ⟨fun a b h heq => (spansOverlap_comm b.span a.span).trans (h heq.symm)⟩

/-- R64: what a map keeps whatever the contests: at most 32 ranges, in order, each of some cabins, and no two of one deck that
overlap. -/
structure RangesOk (rs : List MapRange) : Prop where
  length   : rs.length ≤ 32
  ordered  : rs.Pairwise fun a b => a.before b = true
  spans    : ∀ r ∈ rs, r.first ≤ r.last
  disjoint : rs.Pairwise deckDisjoint

theorem ManifestStore.mapOk.rangesOk {m : ManifestStore} (h : m.mapOk) : RangesOk m.map := by
  obtain ⟨hlength, hordered, hspans, hdisjoint⟩ := h
  exact ⟨hlength, hordered, fun r hr => (hspans r hr).1, hdisjoint⟩

/-- R64: two ranges of a deck that share a cabin are one. -/
theorem RangesOk.eq_of_overlap (h : RangesOk rs) (hr : r ∈ rs) (hq : q ∈ rs) (hdeck : r.deck = q.deck)
    (hoverlap : spansOverlap r.span q.span = true) : r = q := by
  by_contra hne
  have := deckDisjoint_symm
  have hfalse := h.disjoint.forall hr hq hne hdeck
  rw [hoverlap] at hfalse
  cases hfalse

/-! ## The contests marked anew (R64) -/

theorem rangeStateIn_recontest (rs : List MapRange) (r : MapRange) (x : RangeState) :
    rangeStateIn (recontest rs) { r with state := x } = rangeStateIn rs r := by
  simp only [rangeStateIn, recontest, List.any_map]
  rfl

/-- R64: a map whose contests are marked anew is in order. -/
theorem RangesOk.recontest (h : RangesOk rs) (m : ManifestStore) :
    ({ m with map := Machine.recontest rs } : ManifestStore).mapOk := by
  refine ⟨(List.length_map ..).trans_le h.length, List.pairwise_map.mpr h.ordered, ?_, List.pairwise_map.mpr h.disjoint⟩
  intro r hr
  obtain ⟨q, hq, rfl⟩ := List.mem_map.mp hr
  exact ⟨h.spans q hq, (rangeStateIn_recontest rs q _).symm⟩

/-- The contests are no concern of where the ranges lie. -/
theorem exists_mem_recontest {p : Nat → Nat → Nat → Prop} :
    (∃ r ∈ recontest rs, p r.first r.last r.deck) ↔ ∃ r ∈ rs, p r.first r.last r.deck := by
  simp [recontest]

/-! ## A range entered in order -/

theorem MapRange.before_iff (a b : MapRange) :
    a.before b = true ↔
      a.first < b.first ∨ a.first = b.first ∧ (a.last < b.last ∨ a.last = b.last ∧ a.deck ≤ b.deck) := by
  simp [MapRange.before]

theorem MapRange.before_trans {a b c : MapRange} (hab : a.before b = true) (hbc : b.before c = true) : a.before c = true := by
  rw [MapRange.before_iff] at hab hbc ⊢
  omega

theorem MapRange.before_total {a b : MapRange} (h : a.before b ≠ true) : b.before a = true := by
  rw [ne_eq, MapRange.before_iff] at h
  rw [MapRange.before_iff]
  omega

theorem insertRange_perm (r : MapRange) (rs : List MapRange) : (insertRange r rs).Perm (r :: rs) := by
  induction rs with
  | nil => exact .refl _
  | cons x xs ih =>
    unfold insertRange
    split
    · exact .refl _
    · exact (ih.cons x).trans (.swap r x xs)

theorem insertRange_ordered (h : rs.Pairwise fun a b => a.before b = true) (r : MapRange) :
    (insertRange r rs).Pairwise fun a b => a.before b = true := by
  induction rs with
  | nil => exact List.pairwise_singleton ..
  | cons x xs ih =>
    obtain ⟨hx, hxs⟩ := List.pairwise_cons.mp h
    unfold insertRange
    split
    · rename_i hbefore
      refine List.pairwise_cons.mpr ⟨fun y hy => ?_, h⟩
      rcases List.mem_cons.mp hy with rfl | hy
      · exact hbefore
      · exact MapRange.before_trans hbefore (hx y hy)
    · rename_i hafter
      refine List.pairwise_cons.mpr ⟨fun y hy => ?_, ih hxs⟩
      rcases List.mem_cons.mp ((insertRange_perm r xs).mem_iff.mp hy) with rfl | hy
      · exact MapRange.before_total hafter
      · exact hx y hy

/-! ## The union of a new span (R77) -/

/-- R77: a span `u` grown from a new span of deck d over the ranges of `seen`: it holds the new span and every range of the deck
that overlaps it among those seen, and no cabin that is in none of these. -/
structure Grown (rs : List MapRange) (d : Nat) (span : Nat × Nat) (seen : List MapRange) (u : Nat × Nat) : Prop where
  low    : u.1 ≤ span.1
  high   : span.2 ≤ u.2
  takes  : ∀ r ∈ seen, r.deck = d → spansOverlap r.span span = true → u.1 ≤ r.first ∧ r.last ≤ u.2
  within : ∀ c, u.1 ≤ c → c ≤ u.2 →
    span.1 ≤ c ∧ c ≤ span.2 ∨ ∃ r ∈ rs, r.deck = d ∧ spansOverlap r.span span = true ∧ r.first ≤ c ∧ c ≤ r.last

/-- R77: a span grown overlaps no other ranges of the deck than the new span does. -/
theorem Grown.overlap_iff (hok : RangesOk rs) (hspan : span.1 ≤ span.2) {seen : List MapRange} (h : Grown rs d span seen u)
    (hr : r ∈ rs) (hdeck : r.deck = d) : spansOverlap r.span u = true ↔ spansOverlap r.span span = true := by
  have hr' := hok.spans r hr
  have hlow := h.low
  have hhigh := h.high
  constructor
  · intro hoverlap
    obtain ⟨hfirst, hlast⟩ := spansOverlap_iff.mp hoverlap
    change r.first ≤ u.2 at hfirst
    change u.1 ≤ r.last at hlast
    rcases h.within (max r.first u.1) (by omega) (by omega) with hc | ⟨q, hq, hqdeck, hqspan, hqc⟩
    · exact spansOverlap_iff.mpr ⟨by show r.first ≤ _; omega, by show _ ≤ r.last; omega⟩
    · have heq : r = q := hok.eq_of_overlap hr hq (hdeck.trans hqdeck.symm)
        (spansOverlap_iff.mpr ⟨by show r.first ≤ q.last; omega, by show q.first ≤ r.last; omega⟩)
      exact heq ▸ hqspan
  · intro hoverlap
    obtain ⟨hfirst, hlast⟩ := spansOverlap_iff.mp hoverlap
    exact spansOverlap_iff.mpr ⟨by omega, by omega⟩

theorem widenOnce_cons (d : Nat) (r : MapRange) (rs : List MapRange) (span : Nat × Nat) :
    widenOnce d (r :: rs) span =
      widenOnce d rs (if r.deck == d && spansOverlap r.span span then (min span.1 r.first, max span.2 r.last) else span) := rfl

/-- R77: one turn over more ranges of the map. -/
theorem Grown.widenOnce (hok : RangesOk rs) (hspan : span.1 ≤ span.2) {l seen : List MapRange} (hl : ∀ r ∈ l, r ∈ rs)
    (h : Grown rs d span seen u) : Grown rs d span (l ++ seen) (Machine.widenOnce d l u) := by
  induction l generalizing seen u with
  | nil => exact h
  | cons r l ih =>
    obtain ⟨hr, hrest⟩ := List.forall_mem_cons.mp hl
    have hr' := hok.spans r hr
    rw [widenOnce_cons]
    have hstep : Grown rs d span (r :: seen)
        (if r.deck == d && spansOverlap r.span u then (min u.1 r.first, max u.2 r.last) else u) := by
      by_cases htaken : r.deck = d ∧ spansOverlap r.span u = true
      · rw [if_pos (by simpa using htaken)]
        obtain ⟨hdeck, hoverlap⟩ := htaken
        have hoverlap' := (h.overlap_iff hok hspan hr hdeck).mp hoverlap
        refine ⟨(min_le_left _ _).trans h.low, h.high.trans (le_max_left _ _), ?_, fun c hlow hhigh => ?_⟩
        · rintro q hq hqdeck hqspan
          rcases List.mem_cons.mp hq with rfl | hq
          · exact ⟨min_le_right _ _, le_max_right _ _⟩
          · obtain ⟨hfirst, hlast⟩ := h.takes q hq hqdeck hqspan
            exact ⟨(min_le_left _ _).trans hfirst, hlast.trans (le_max_left _ _)⟩
        · obtain ⟨hfirst, hlast⟩ := spansOverlap_iff.mp hoverlap
          change r.first ≤ u.2 at hfirst
          change u.1 ≤ r.last at hlast
          change min u.1 r.first ≤ c at hlow
          change c ≤ max u.2 r.last at hhigh
          by_cases hin : r.first ≤ c ∧ c ≤ r.last
          · exact .inr ⟨r, hr, hdeck, hoverlap', hin⟩
          · exact h.within c (by omega) (by omega)
      · rw [if_neg (by simpa using htaken)]
        refine ⟨h.low, h.high, ?_, h.within⟩
        rintro q hq hqdeck hqspan
        rcases List.mem_cons.mp hq with rfl | hq
        · exact absurd ⟨hqdeck, (h.overlap_iff hok hspan hr hqdeck).mpr hqspan⟩ htaken
        · exact h.takes q hq hqdeck hqspan
    obtain ⟨hlow, hhigh, htakes, hwithin⟩ := ih hrest hstep
    refine ⟨hlow, hhigh, fun q hq => htakes q ?_, hwithin⟩
    simp only [List.cons_append, List.mem_cons, List.mem_append] at hq ⊢
    tauto

/-- R77: the union, however many turns it takes. -/
theorem Grown.widen (hok : RangesOk rs) (hspan : span.1 ≤ span.2) (n : Nat) (h : Grown rs d span rs u) :
    Grown rs d span rs (Machine.widen d rs n u) := by
  induction n generalizing u with
  | zero => exact h
  | succ n ih =>
    obtain ⟨hlow, hhigh, htakes, hwithin⟩ := h.widenOnce hok hspan (l := rs) fun _ hr => hr
    exact ih ⟨hlow, hhigh, fun q hq => htakes q (List.mem_append_left _ hq), hwithin⟩

theorem unionOf_grown (hok : RangesOk rs) (d : Nat) (hspan : span.1 ≤ span.2) : Grown rs d span rs (unionOf d rs span) := by
  have hstart : Grown rs d span [] span :=
    ⟨le_rfl, le_rfl, fun _ hr => absurd hr List.not_mem_nil, fun _ hlow hhigh => .inl ⟨hlow, hhigh⟩⟩
  have honce := hstart.widenOnce hok hspan (l := rs) fun _ hr => hr
  rw [List.append_nil] at honce
  exact honce.widen hok hspan rs.length

/-! ## The map that a DECK-MAP leaves (R77, R79) -/

/-- R77: the ranges once a union of deck d has taken in those it overlaps. -/
def withUnion (d : Nat) (u : Nat × Nat) (rs : List MapRange) : List MapRange :=
  insertRange ⟨u.1, u.2, d, .clear⟩ (rs.filter fun r => !takenIn d u r)

theorem takenIn_iff : takenIn d u r = true ↔ r.deck = d ∧ spansOverlap r.span u = true := by simp [takenIn]

theorem mem_withUnion : q ∈ withUnion d u rs ↔ q = ⟨u.1, u.2, d, .clear⟩ ∨ q ∈ rs ∧ takenIn d u q = false := by
  rw [withUnion, (insertRange_perm _ _).mem_iff, List.mem_cons, List.mem_filter, Bool.not_eq_true']

theorem RangesOk.withUnion (hok : RangesOk rs) (hu : u.1 ≤ u.2)
    (hroom : rs.any (takenIn d u) = true ∨ rs.length < 32) : RangesOk (Machine.withUnion d u rs) := by
  have hsub : (rs.filter fun r => !takenIn d u r).Sublist rs := List.filter_sublist
  refine ⟨?_, insertRange_ordered (hok.ordered.sublist hsub) _, fun q hq => ?_, ?_⟩
  · have hlength : (rs.filter fun r => !takenIn d u r).length < 32 := by
      rcases hroom with hany | hroom
      · obtain ⟨r, hr, htaken⟩ := List.any_eq_true.mp hany
        refine lt_of_lt_of_le ?_ hok.length
        exact List.length_filter_lt_length_iff_exists.mpr ⟨r, hr, by simp [htaken]⟩
      · exact hsub.length_le.trans_lt hroom
    exact ((insertRange_perm _ _).length_eq.trans (List.length_cons ..)).trans_le hlength
  · rcases mem_withUnion.mp hq with rfl | ⟨hq, -⟩
    · exact hu
    · exact hok.spans q hq
  · have := deckDisjoint_symm
    refine ((insertRange_perm _ _).pairwise_iff (fun h => deckDisjoint_symm.symm _ _ h)).mpr
      (List.pairwise_cons.mpr ⟨fun q hq hdeck => ?_, hok.disjoint.sublist hsub⟩)
    have hnot := (List.mem_filter.mp hq).2
    rw [spansOverlap_comm]
    show spansOverlap q.span u = false
    simpa [takenIn, ← hdeck] using hnot

theorem RangesOk.filter (hok : RangesOk rs) (p : MapRange → Bool) : RangesOk (rs.filter p) :=
  ⟨List.filter_sublist.length_le.trans hok.length, hok.ordered.sublist List.filter_sublist,
    fun r hr => hok.spans r (List.mem_of_mem_filter hr), hok.disjoint.sublist List.filter_sublist⟩

/-- R76: the checks on a DECK-MAP. -/
theorem deckMapRefused_iff (f : DeckMapFields) :
    deckMapRefused f = true ↔ f.first = 0 ∨ 32767 < f.first ∨ f.last = 0 ∨ 32767 < f.last ∨ f.last < f.first
      ∨ (f.withdraw = false ∧ (f.deck = 0 ∨ 20 < f.deck)) := by
  simp only [deckMapRefused, Bool.or_eq_true, Bool.and_eq_true, Bool.not_eq_true', Bool.eq_false_iff (b := inRange _ _ _), ne_eq,
    inRange_iff, decide_eq_true_eq, Config.maxCabin, Config.maxDeck]
  cases f.withdraw with
  | false => simp only [true_and]; omega
  | true => simp only [Bool.true_eq_false, false_and, or_false]; omega

theorem addRange_changed {map : List MapRange} (h : addRange d span rs = .changed map) :
    map = withUnion d (unionOf d rs span) rs
      ∧ (rs.any (takenIn d (unionOf d rs span)) = true ∨ rs.length < 32) := by
  unfold addRange at h
  dsimp only at h
  split at h
  · cases h
  split at h
  · rename_i hroom
    cases h
    rw [Bool.or_eq_true, decide_eq_true_iff] at hroom
    exact ⟨rfl, hroom⟩
  · cases h

theorem withdrawRanges_changed {map : List MapRange} (h : withdrawRanges span rs = .changed map) :
    map = rs.filter fun r => r.span != span := by
  unfold withdrawRanges at h
  split at h <;> cases h
  rfl

theorem RangesOk.change {f : DeckMapFields} {map : List MapRange} (hok : RangesOk rs) (hf : deckMapRefused f = false)
    (h : f.change rs = .changed map) : RangesOk map := by
  have hchecks := (not_congr (deckMapRefused_iff f)).mp (by simp [hf])
  have hspan : f.first ≤ f.last := by omega
  unfold DeckMapFields.change at h
  split at h
  · rw [withdrawRanges_changed h]
    exact hok.filter _
  · obtain ⟨rfl, hroom⟩ := addRange_changed h
    have hgrown := unionOf_grown hok f.deck (span := (f.first, f.last)) hspan
    exact hok.withUnion (hgrown.low.trans (hspan.trans hgrown.high)) hroom

theorem ManifestStore.mapOk.of_eq {m m' : ManifestStore} (h : m.mapOk) (hmap : m'.map = m.map) : m'.mapOk := by
  unfold ManifestStore.mapOk at h ⊢
  rw [hmap]
  exact h

theorem ManifestStore.mapOk_empty {m : ManifestStore} (h : m.map = []) : m.mapOk := by
  simp [ManifestStore.mapOk, h]

theorem ManifestStore.mapOk.change {m m' : ManifestStore} (h : m.mapOk) (hchange : m.Change m') : m'.mapOk := by
  rcases hchange.cases_rest with ⟨hmap, -⟩ | ⟨f, rs, hf, hrs, rfl⟩ | ⟨t, -, rfl⟩ | ⟨hmap, -⟩ | rfl
  · exact h.of_eq hmap
  · exact (h.rangesOk.change hf hrs).recontest m
  · refine h.of_eq ?_
    unfold ManifestStore.holdTelegram
    split <;> rfl
  · exact ManifestStore.mapOk_empty hmap
  · exact h.of_eq rfl

end

end Sys2Proof.Machine

open Sys2Proof.Machine

/-- Settles O13: a changed map is the one before with ranges taken out and at most their union with the new span put in, its
contests marked anew; nothing else touches the map but what empties it. -/
theorem deckMapKept : Obligations.DeckMapKept := by
  unfold Obligations.DeckMapKept
  exact fun s t hmap hstep => step_keeps_store (fun _ _ h hchange => ManifestStore.mapOk.change h hchange) hstep hmap

end

section
/-! SUPPORT. The DECK-MAP telegram (R76 to R79), case by case. -/

open Sys2Proof

namespace Sys2Proof.Machine

/-! ## The manifest telegrams given to the Manifest Store -/

section
variable {s : State} {rx : Rx} {p : List Byte}

theorem exec_manifest (h : s.delivers classManifest rx p) :
    exec (.manifest rx p) s = .next ((s.takeTelegram rx).takeManifestTelegram (.manifest (readManifest p))) :=
  congrArg Host.Outcome.next (State.receive_of_delivers h _)

theorem exec_manifestWithdraw (h : s.delivers classManifestWithdraw rx p) :
    exec (.manifestWithdraw rx p) s = .next ((s.takeTelegram rx).takeManifestTelegram (.withdraw (tagAt p 0))) :=
  congrArg Host.Outcome.next (State.receive_of_delivers h _)

theorem exec_deckMap (h : s.delivers classDeckMap rx p) :
    exec (.deckMap rx p) s = .next ((s.takeTelegram rx).takeManifestTelegram (.deckMap (readDeckMap p))) :=
  congrArg Host.Outcome.next (State.receive_of_delivers h _)

theorem State.takeManifestTelegram_applied (h : s.ms.purgeRunning = false) (t : HeldTelegram) :
    s.takeManifestTelegram t = s.applyHeld t := if_neg (by simp [h])

theorem State.takeManifestTelegram_held (h : s.ms.purgeRunning = true) (t : HeldTelegram) :
    s.takeManifestTelegram t = s.onMs (ManifestStore.holdTelegram t) := if_pos h

theorem exec_deckMap_applied (h : s.delivers classDeckMap rx p) (hpurge : s.ms.purgeRunning = false) :
    exec (.deckMap rx p) s = .next ((s.takeTelegram rx).applyDeckMap (readDeckMap p)) :=
  (exec_deckMap h).trans (congrArg Host.Outcome.next
    (State.takeManifestTelegram_applied (s := s.takeTelegram rx) hpurge (.deckMap (readDeckMap p))))

end

/-! ## The cases of a DECK-MAP -/

section
variable {s : State} {f : DeckMapFields} {rs : List MapRange} {d : Nat} {span : Nat × Nat}

theorem State.applyDeckMap_refused (h : deckMapRefused f = true) :
    s.applyDeckMap f = s.onMs fun m => m.tally fun c => { c with mapRefused := c.mapRefused + 1 } := if_pos h

theorem State.applyDeckMap_unchanged (h : deckMapRefused f = false) (hchange : f.change s.ms.map = .unchanged) :
    s.applyDeckMap f = s := by
  simp [State.applyDeckMap, h, hchange]

theorem State.applyDeckMap_full (h : deckMapRefused f = false) (hchange : f.change s.ms.map = .full) :
    s.applyDeckMap f = s.onMs fun m => m.tally fun c => { c with mapFull := c.mapFull + 1 } := by
  simp [State.applyDeckMap, h, hchange]

theorem State.applyDeckMap_notFound (h : deckMapRefused f = false) (hchange : f.change s.ms.map = .notFound) :
    s.applyDeckMap f = s.onMs fun m => m.tally fun c => { c with mapNotFound := c.mapNotFound + 1 } := by
  simp [State.applyDeckMap, h, hchange]

theorem State.applyDeckMap_changed {map : List MapRange} (h : deckMapRefused f = false)
    (hchange : f.change s.ms.map = .changed map) :
    s.applyDeckMap f = (s.onMs (ManifestStore.changeMap map)).markMap := by
  simp [State.applyDeckMap, h, hchange]

theorem DeckMapFields.change_withdraw (h : f.withdraw = true) (rs : List MapRange) :
    f.change rs = withdrawRanges (f.first, f.last) rs := if_pos h

theorem DeckMapFields.change_add (h : f.withdraw = false) (rs : List MapRange) :
    f.change rs = addRange f.deck (f.first, f.last) rs := if_neg (by simp [h])

theorem withdrawRanges_none (h : ∀ r ∈ rs, r.span ≠ span) : withdrawRanges span rs = .notFound :=
  if_neg (by simpa using h)

theorem withdrawRanges_some (h : ∃ r ∈ rs, r.span = span) :
    withdrawRanges span rs = .changed (rs.filter fun r => r.span != span) := if_pos (by simpa using h)

/-- R77: a span that lies within a range of its deck brings nothing new: the union is that range. -/
theorem addRange_unchanged (hok : RangesOk rs) (hspan : span.1 ≤ span.2)
    (h : ∃ r ∈ rs, r.deck = d ∧ r.first ≤ span.1 ∧ span.2 ≤ r.last) : addRange d span rs = .unchanged := by
  obtain ⟨r, hr, hdeck, hfirst, hlast⟩ := h
  have hgrown := unionOf_grown hok d hspan
  have hlow := hgrown.low
  have hhigh := hgrown.high
  obtain ⟨hr1, hr2⟩ := hgrown.takes r hr hdeck (spansOverlap_iff.mpr ⟨by show r.first ≤ _; omega, by show _ ≤ r.last; omega⟩)
  have hholds : ∀ c, (unionOf d rs span).1 ≤ c → c ≤ (unionOf d rs span).2 → r.first ≤ c ∧ c ≤ r.last := by
    intro c hc1 hc2
    rcases hgrown.within c hc1 hc2 with hc | ⟨q, hq, hqdeck, hqspan, hqc⟩
    · omega
    · obtain ⟨hq1, hq2⟩ := spansOverlap_iff.mp hqspan
      change q.first ≤ span.2 at hq1
      change span.1 ≤ q.last at hq2
      have heq : r = q := hok.eq_of_overlap hr hq (hdeck.trans hqdeck.symm)
        (spansOverlap_iff.mpr ⟨by show r.first ≤ q.last; omega, by show q.first ≤ r.last; omega⟩)
      exact heq ▸ hqc
  have h1 := hholds (unionOf d rs span).1 le_rfl (by omega)
  have h2 := hholds (unionOf d rs span).2 (by omega) le_rfl
  have hunion : r.span = unionOf d rs span :=
    Prod.ext (show r.first = (unionOf d rs span).1 by omega) (show r.last = (unionOf d rs span).2 by omega)
  exact if_pos (List.any_eq_true.mpr ⟨r, hr, by simp [hdeck, hunion]⟩)

theorem any_takenIn_unionOf (hok : RangesOk rs) (hspan : span.1 ≤ span.2) :
    rs.any (takenIn d (unionOf d rs span)) = true ↔ ∃ r ∈ rs, r.deck = d ∧ spansOverlap r.span span = true := by
  rw [List.any_eq_true]
  refine exists_congr fun r => and_congr_right fun hr => ?_
  rw [takenIn_iff]
  exact and_congr_right fun hdeck => (unionOf_grown hok d hspan).overlap_iff hok hspan hr hdeck

/-- R77: a span that lies within no range of its deck is not a range already there. -/
theorem any_span_unionOf (hok : RangesOk rs) (hspan : span.1 ≤ span.2)
    (h : ∀ r ∈ rs, ¬ (r.deck = d ∧ r.first ≤ span.1 ∧ span.2 ≤ r.last)) :
    ¬ (rs.any fun r => r.deck == d && r.span == unionOf d rs span) = true := by
  intro hany
  obtain ⟨r, hr, hsame⟩ := List.any_eq_true.mp hany
  rw [Bool.and_eq_true, beq_iff_eq, beq_iff_eq] at hsame
  obtain ⟨hdeck, hunion⟩ := hsame
  have hgrown := unionOf_grown hok d hspan
  refine h r hr ⟨hdeck, ?_, ?_⟩
  · exact (congrArg Prod.fst hunion).trans_le hgrown.low
  · exact hgrown.high.trans_eq (congrArg Prod.snd hunion).symm

theorem addRange_full (hok : RangesOk rs) (hspan : span.1 ≤ span.2)
    (h : ∀ r ∈ rs, r.deck = d → spansOverlap r.span span = false) (hfull : rs.length = 32) : addRange d span rs = .full := by
  have hnew := any_span_unionOf (d := d) hok hspan fun r hr ⟨hdeck, hfirst, hlast⟩ => by
    have hoverlap : spansOverlap r.span span = true :=
      spansOverlap_iff.mpr ⟨by show r.first ≤ _; omega, by show _ ≤ r.last; omega⟩
    rw [h r hr hdeck] at hoverlap
    cases hoverlap
  have hnone : ¬ rs.any (takenIn d (unionOf d rs span)) = true := by
    rw [any_takenIn_unionOf hok hspan]
    rintro ⟨r, hr, hdeck, hoverlap⟩
    rw [h r hr hdeck] at hoverlap
    cases hoverlap
  refine (if_neg hnew).trans (if_neg ?_)
  rw [Bool.or_eq_true, not_or, decide_eq_true_iff, hfull]
  exact ⟨hnone, by decide⟩

theorem addRange_new (hok : RangesOk rs) (hspan : span.1 ≤ span.2)
    (h : ∀ r ∈ rs, ¬ (r.deck = d ∧ r.first ≤ span.1 ∧ span.2 ≤ r.last))
    (hroom : rs.length < 32 ∨ ∃ r ∈ rs, r.deck = d ∧ spansOverlap r.span span = true) :
    addRange d span rs = .changed (withUnion d (unionOf d rs span) rs) := by
  refine (if_neg (any_span_unionOf hok hspan h)).trans (if_pos ?_)
  rw [Bool.or_eq_true, any_takenIn_unionOf hok hspan, decide_eq_true_iff]
  exact hroom.symm

/-- R77: with the union the map places on the deck the cabins placed there before and those of the new span, and on every other
deck those placed there before. -/
theorem withUnion_places (hok : RangesOk rs) (hspan : span.1 ≤ span.2) (deck cabin : Nat) :
    (∃ r ∈ withUnion d (unionOf d rs span) rs, r.deck = deck ∧ r.first ≤ cabin ∧ cabin ≤ r.last)
      ↔ (∃ r ∈ rs, r.deck = deck ∧ r.first ≤ cabin ∧ cabin ≤ r.last)
        ∨ (deck = d ∧ span.1 ≤ cabin ∧ cabin ≤ span.2) := by
  have hgrown := unionOf_grown hok d hspan
  have hlow := hgrown.low
  have hhigh := hgrown.high
  constructor
  · rintro ⟨r, hr, hdeck, hfirst, hlast⟩
    rcases mem_withUnion.mp hr with rfl | ⟨hr, -⟩
    · rcases hgrown.within cabin hfirst hlast with hc | ⟨q, hq, hqdeck, -, hqc⟩
      · exact .inr ⟨hdeck.symm, hc⟩
      · exact .inl ⟨q, hq, hqdeck.trans hdeck, hqc⟩
    · exact .inl ⟨r, hr, hdeck, hfirst, hlast⟩
  · rintro (⟨r, hr, hdeck, hfirst, hlast⟩ | ⟨rfl, hfirst, hlast⟩)
    · cases htaken : takenIn d (unionOf d rs span) r with
      | false => exact ⟨r, mem_withUnion.mpr (.inr ⟨hr, htaken⟩), hdeck, hfirst, hlast⟩
      | true =>
        obtain ⟨hd, hoverlap⟩ := takenIn_iff.mp htaken
        obtain ⟨h1, h2⟩ := hgrown.takes r hr hd ((hgrown.overlap_iff hok hspan hr hd).mp hoverlap)
        exact ⟨_, mem_withUnion.mpr (.inl rfl), hd.symm.trans hdeck, h1.trans hfirst, hlast.trans h2⟩
    · exact ⟨_, mem_withUnion.mpr (.inl rfl), rfl, hlow.trans hfirst, hlast.trans hhigh⟩

end

end Sys2Proof.Machine

open Sys2Proof.Machine

/-- Settles O52: the span's union with the ranges of its deck decides the case, and a changed map is the one with that union, or
without the ranges of the span withdrawn. -/
theorem deckMapChanges : Obligations.DeckMapChanges := by
  unfold Obligations.DeckMapChanges
  rintro s u rx p f hdelivers rfl hf hpurge hmap
  rw [exec_deckMap_applied hdelivers hpurge, ← hf]
  have hok : RangesOk s.ms.map := hmap.rangesOk
  have hspan_iff : ∀ r : MapRange, r.span = (f.first, f.last) ↔ r.first = f.first ∧ r.last = f.last :=
    fun r => Prod.mk.injEq .. ▸ Iff.rfl
  refine ⟨fun h => congrArg Host.Outcome.next (State.applyDeckMap_refused ((deckMapRefused_iff f).mpr h)),
    fun h1 h2 h3 hw => ?_, fun h1 h2 h3 hw hd1 hd2 => ?_⟩
  · have hchecks : deckMapRefused f = false := by
      rw [Bool.eq_false_iff, ne_eq, deckMapRefused_iff, hw]
      simp only [Bool.true_eq_false, false_and, or_false]
      omega
    have hchange := DeckMapFields.change_withdraw hw s.ms.map
    refine ⟨fun hnone => ?_, fun hsome => ?_⟩
    · rw [withdrawRanges_none fun r hr => mt (hspan_iff r).mp (hnone r hr)] at hchange
      exact congrArg Host.Outcome.next (State.applyDeckMap_notFound (s := s.takeTelegram rx) hchecks hchange)
    · rw [withdrawRanges_some (hsome.imp fun r h => ⟨h.1, (hspan_iff r).mpr h.2⟩)] at hchange
      exact congrArg Host.Outcome.next (State.applyDeckMap_changed (s := s.takeTelegram rx) hchecks hchange)
  · have hchecks : deckMapRefused f = false := by
      rw [Bool.eq_false_iff, ne_eq, deckMapRefused_iff, hw]
      simp only [true_and]
      omega
    have hchange := DeckMapFields.change_add hw s.ms.map
    refine ⟨fun hwithin => ?_, fun hapart hfull => ?_, fun hnew hroom => ?_⟩
    · rw [addRange_unchanged hok h2 hwithin] at hchange
      exact congrArg Host.Outcome.next (State.applyDeckMap_unchanged (s := s.takeTelegram rx) hchecks hchange)
    · rw [addRange_full hok h2 (fun r hr hdeck => ?_) hfull] at hchange
      · exact congrArg Host.Outcome.next (State.applyDeckMap_full (s := s.takeTelegram rx) hchecks hchange)
      · have := hapart r hr hdeck
        rw [Bool.eq_false_iff, ne_eq, spansOverlap_iff]
        show ¬ (r.first ≤ f.last ∧ f.first ≤ r.last)
        omega
    · have hgrown := unionOf_grown hok f.deck (span := (f.first, f.last)) h2
      have hroom' : s.ms.map.length < 32
          ∨ ∃ r ∈ s.ms.map, r.deck = f.deck ∧ spansOverlap r.span (f.first, f.last) = true :=
        hroom.imp_right fun ⟨r, hr, hdeck, h⟩ => ⟨r, hr, hdeck, spansOverlap_iff.mpr h⟩
      rw [addRange_new hok h2 hnew hroom'] at hchange
      refine ⟨_, congrArg Host.Outcome.next (State.applyDeckMap_changed (s := s.takeTelegram rx) hchecks hchange),
        (hok.change hchecks hchange).recontest s.ms, fun deck cabin => ?_, ?_⟩
      · rw [exists_mem_recontest (p := fun first last d => d = deck ∧ first ≤ cabin ∧ cabin ≤ last)]
        exact withUnion_places hok h2 deck cabin
      · rw [exists_mem_recontest (p := fun first last d => d = f.deck ∧ first ≤ f.first ∧ f.last ≤ last)]
        exact ⟨_, mem_withUnion.mpr (.inl rfl), rfl, hgrown.low, hgrown.high⟩

end

section
/-! SUPPORT. POWER_ON, POWER_LOSS and RETENTION_LOW case by case (R87, R88, R165, R188, R196). -/

open Sys2Proof

namespace Sys2Proof.Machine

section
variable {s : State}

/-- R188: main power returns; the stages of START follow. -/
def State.poweredUp (s : State) : State := s.onNc fun n => { n with powered := true, state := .start }

theorem exec_powerOn_unpowered (h : s.nc.powered = false) :
    exec .powerOn s = .next s.poweredUp.checkRetention.finishPendingPurge.endStaleWindows :=
  congrArg Host.Outcome.next (if_neg (by simp [h]))

theorem exec_powerOn_powered (h : s.nc.powered = true) : exec .powerOn s = .next s :=
  congrArg Host.Outcome.next (if_pos h)

theorem exec_powerLoss_powered (h : s.nc.powered = true) :
    exec .powerLoss s = .next { State.reset with pending := s.pending, ms := s.ms.retained, su := s.su.retained } :=
  congrArg Host.Outcome.next (if_pos h)

theorem exec_powerLoss_unpowered (h : s.nc.powered = false) : exec .powerLoss s = .next s :=
  congrArg Host.Outcome.next (if_neg (by simp [h]))

theorem exec_retentionLow_powered (h : s.nc.powered = true) : exec .retentionLow s = .next s :=
  congrArg Host.Outcome.next (if_pos h)

theorem exec_retentionLow_unpowered (h : s.nc.powered = false) :
    exec .retentionLow s = .next { s with ms := { s.ms with lowMark := true } } :=
  congrArg Host.Outcome.next (if_neg (by simp [h]))

/-! ## The stages of START -/

theorem State.checkRetention_lost (h : s.ms.lowMark = true) :
    s.checkRetention = { s with
      ms := { s.ms with table := [], cabins := [], map := [], purgePending := false, retentionLost := true, lowMark := false }
      su := { s.su with ring := [], nextSequence := 0, timers := [] } } := by
  simp [State.checkRetention, State.onMs, State.onSu, ManifestStore.checkRetention, StrayUnit.checkRetention, h]

theorem State.checkRetention_kept (h : s.ms.lowMark = false) : s.checkRetention = s := by
  simp [State.checkRetention, State.onMs, State.onSu, ManifestStore.checkRetention, StrayUnit.checkRetention, h]

theorem State.finishPendingPurge_pending (h : s.ms.purgePending = true) :
    s.finishPendingPurge =
      (s.onMs ManifestStore.finishPurge).onSu fun u => { u with ring := [], timers := [] } := if_pos h

theorem State.finishPendingPurge_none (h : s.ms.purgePending = false) : s.finishPendingPurge = s :=
  if_neg (by simp [h])

/-- R160: the windows that end unclaimed are those of the OPEN entries without a claim. -/
theorem LogEntry.goesUnclaimed_eq (e : LogEntry) : e.goesUnclaimed = (e.state == .opened && e.claims.isEmpty) := by
  rw [LogEntry.goesUnclaimed, LogEntry.endWindow]
  cases e.claims with
  | nil => rfl
  | cons c cs =>
    simp only [claimStateOf]
    split <;> rfl

theorem StrayUnit.endAllWindows_counters_empty {u : StrayUnit} (h : u.ring = []) : u.endAllWindows.counters = u.counters := by
  simp [StrayUnit.endAllWindows, StrayUnit.tally, h]

theorem StrayUnit.endAllWindows_counters (u : StrayUnit) :
    u.endAllWindows.counters = { u.counters with
      endedUnclaimed := u.counters.endedUnclaimed
        + BitVec.ofNat 32 (u.ring.countP fun e => e.window == .running && e.state == .opened && e.claims.isEmpty) } := by
  simp only [StrayUnit.endAllWindows, StrayUnit.tally, LogEntry.goesUnclaimed_eq, Bool.and_assoc]

/-- R87: a low mark found leaves no interrupted purge to finish. -/
theorem State.poweredUp_lost (h : s.ms.lowMark = true) :
    s.poweredUp.checkRetention.finishPendingPurge = s.poweredUp.checkRetention := by
  rw [State.checkRetention_lost (s := s.poweredUp) h]
  exact State.finishPendingPurge_none rfl

end

end Sys2Proof.Machine

open Sys2Proof.Machine

/-- Settles O21: the low mark, an interrupted purge, or neither, and then the windows that still ran. -/
theorem powerOnRunsStart : Obligations.PowerOnRunsStart := by
  unfold Obligations.PowerOnRunsStart
  refine ⟨fun s hoff => ⟨_, exec_powerOn_unpowered hoff, ?_⟩, fun s => exec_powerOn_powered⟩
  cases hlow : s.ms.lowMark with
  | true =>
    rw [State.poweredUp_lost hlow, State.checkRetention_lost (s := s.poweredUp) hlow]
    refine ⟨rfl, fun _ => ⟨rfl, rfl, rfl, ?_⟩, nofun, nofun, rfl, rfl, rfl, rfl, rfl, rfl, rfl, rfl, rfl⟩
    exact (StrayUnit.endAllWindows_counters_empty (u := { s.su with ring := [], nextSequence := 0, timers := [] }) rfl)
  | false =>
    rw [State.checkRetention_kept (s := s.poweredUp) hlow]
    cases hpending : s.ms.purgePending with
    | true =>
      rw [State.finishPendingPurge_pending (s := s.poweredUp) hpending]
      refine ⟨rfl, nofun, fun _ _ => ⟨rfl, rfl, rfl, rfl, rfl, rfl, rfl, rfl, ?_⟩, nofun, rfl, rfl, rfl,
        rfl, rfl, rfl, rfl, rfl, rfl⟩
      exact (StrayUnit.endAllWindows_counters_empty (u := { s.su with ring := [], timers := [] }) rfl)
    | false =>
      rw [State.finishPendingPurge_none (s := s.poweredUp) hpending]
      refine ⟨rfl, nofun, nofun, fun _ _ => ⟨rfl, rfl, ?_, ?_, fun i e he => ?_⟩, rfl, rfl, rfl, rfl, rfl,
        rfl, rfl, rfl, rfl⟩
      · exact List.length_map _
      · exact StrayUnit.endAllWindows_counters s.su
      · exact (List.getElem?_map).trans (congrArg (Option.map _) he)

/-- Settles O24: what is not named as retained is the reset state's. -/
theorem powerLossKeepsRetained : Obligations.PowerLossKeepsRetained := by
  unfold Obligations.PowerLossKeepsRetained
  refine ⟨fun s hon => ⟨_, exec_powerLoss_powered hon, ?_⟩,
    fun s hoff => ⟨exec_powerLoss_unpowered hoff, exec_retentionLow_unpowered hoff⟩, fun s => exec_retentionLow_powered⟩
  refine ⟨rfl, rfl, rfl, rfl, rfl, rfl, rfl, rfl, rfl, rfl, rfl, rfl, rfl, rfl, rfl, rfl, rfl, rfl, rfl, rfl, rfl, rfl, rfl, rfl,
    fun k => ?_, rfl⟩
  cases k <;> rfl

end

section
/-! SUPPORT. What a change of one entry leaves in its cabin's record (R63), the reports it gives (R71), and withdrawals, marks
and held telegrams (R72 to R74, R83, R84). -/

open Sys2Proof

namespace Sys2Proof.Machine

/-! ## Reports (R71) -/

theorem TagEntry.misplaced_eq (e : TagEntry) (cause : MisplacedCause) (cabin : Option Nat) :
    e.misplaced cause cabin = (e.lostMark cause cabin).toList := by
  unfold TagEntry.misplaced TagEntry.lostMark
  cases e.mark <;> rfl

theorem TagEntry.lostMark_of_none {e : TagEntry} (h : e.mark = .none) (cause : MisplacedCause) (cabin : Option Nat) :
    e.lostMark cause cabin = none := by
  rw [TagEntry.lostMark, h]

/-- R71: a change of the store is committed with the report it gives, if it gives one. -/
theorem State.commitStores_eq {s : State} {x : StoreChange} {m : ManifestStore} {lost : Option MisplacedReport}
    (h : x = ⟨m, lost.toList⟩) : s.commitStores x = State.misplacedGiven { s with ms := m } lost := by
  rw [h]
  cases lost with
  | none => rfl
  | some r => exact State.reportMisplaced_eq _ r

/-! ## The record of a cabin after a change of one entry (R63) -/

section
variable {m m' u : ManifestStore} {e old : TagEntry} {r : CabinRecord} {c n d : Nat}

theorem TagEntry.marked_toNat (e : TagEntry) : e.marked.toNat = if e.mark = .none then 0 else 1 := by
  unfold TagEntry.marked
  cases e.mark <;> rfl

/-- R63: what a cabin's record says. -/
theorem ManifestStore.sliceOk.record_eq (h : m.sliceOk) (hr : m.cabin c = some r) :
    r.cabin = c ∧ r.delivered = m.markedIn c ∧ r.delivered ≤ r.expected := by
  rcases h.cabinOk c with ⟨hnone, -⟩ | ⟨x, hx, -, -, hle, -⟩
  · cases hnone.symm.trans hr
  · cases hx.symm.trans hr
    exact ⟨rfl, rfl, hle⟩

/-- R63: the pieces delivered of a cabin, with a record or without. -/
theorem ManifestStore.sliceOk.delivered_eq (h : m.sliceOk) (c : Nat) :
    ((m.cabin c).map CabinRecord.delivered).getD 0 = m.markedIn c := by
  have hle := m.markedIn_le c
  rcases h.cabinOk c with ⟨hnone, hzero⟩ | ⟨x, hx, -⟩
  · rw [hnone]
    exact (Nat.le_zero.mp (hzero ▸ hle)).symm
  · rw [hx]
    rfl

/-- R63: the record of a cabin recounted whose entries bear this many marks. -/
theorem ManifestStore.recounted_record (hr : u.cabin c = some r) (hcabin : r.cabin = c) (hpos : u.naming c ≠ 0)
    (hd : u.markedIn c = d) : u.recounted c = some { r with delivered := d, expected := max r.expected d } := by
  rw [ManifestStore.recounted, if_neg hpos, hr, hd, ← hcabin]
  rfl

/-- R63, R67, R70: the record of a cabin recounted and then declared with a piece total. -/
theorem ManifestStore.declare_recount_cabin (hpos : u.naming c ≠ 0) (hd : u.markedIn c = d) (n : Nat) :
    ((u.recount c).declare c n).cabin c = some ⟨c, max n d, d⟩ := by
  rw [ManifestStore.declare_cabin, ManifestStore.recount_cabin, ManifestStore.recounted, if_neg hpos, hd]
  rfl

theorem ManifestStore.put_cabin_of_ne (h : c ≠ e.cabin) (m : ManifestStore) : (m.put e).cabin c = m.cabin c :=
  ManifestStore.recount_cabin_of_ne h _

theorem ManifestStore.drop_cabin_of_ne (h : c ≠ e.cabin) (m : ManifestStore) : (m.drop e).cabin c = m.cabin c :=
  ManifestStore.recount_cabin_of_ne h _

/-- R63: the record of a cabin an entry of which is replaced: the marks of its entries are counted again. -/
theorem ManifestStore.sliceOk.put_cabin (h : m.sliceOk) (hold : m.entry e.tag = some old) (hcabin : old.cabin = e.cabin)
    (hr : m.cabin e.cabin = some r) (hd : d + old.marked.toNat = r.delivered + e.marked.toNat) :
    (m.put e).cabin e.cabin = some { r with delivered := d, expected := max r.expected d } := by
  obtain ⟨hrc, hdelivered, -⟩ := h.record_eq hr
  have hpos := ManifestStore.naming_pos (ManifestStore.entry_mem hold)
  have hnaming := ManifestStore.naming_replaced h hold e.cabin
  have hmarked := ManifestStore.markedIn_replaced h hold e.cabin
  rw [hcabin] at hpos
  rw [hcabin] at hnaming
  rw [hcabin, beq_self_eq_true, Bool.and_true, Bool.and_true] at hmarked
  exact (ManifestStore.recount_cabin ..).trans (ManifestStore.recounted_record (u := m.withTable _) hr hrc (by omega) (by omega))

/-- R63: the record of a cabin that an entry leaves, once recounted. -/
theorem ManifestStore.sliceOk.recounted_left (h : m.sliceOk) (he : e ∈ m.table) (hcabins : u.cabin e.cabin = m.cabin e.cabin)
    (hnaming : u.naming e.cabin + 1 = m.naming e.cabin) (hmarked : u.markedIn e.cabin + e.marked.toNat = m.markedIn e.cabin) :
    (m.entriesOf e.cabin = [e] → u.recounted e.cabin = none)
      ∧ ∀ r, m.cabin e.cabin = some r → m.entriesOf e.cabin ≠ [e] →
          u.recounted e.cabin = some { r with delivered := r.delivered - (if e.mark = .none then 0 else 1) } := by
  rw [ne_eq, ManifestStore.entriesOf_eq_singleton he]
  refine ⟨fun hone => if_pos (by omega), fun r hr hmore => ?_⟩
  obtain ⟨hrc, hdelivered, hle⟩ := h.record_eq hr
  rw [← TagEntry.marked_toNat,
    ManifestStore.recounted_record (d := r.delivered - e.marked.toNat) (hcabins.trans hr) hrc (by omega) (by omega),
    max_eq_left (by omega)]

/-! ## An entry removed, and an entry marked -/

theorem ManifestStore.sliceOk.entryRemoved_drop (h : m.sliceOk) (he : e ∈ m.table) : m.entryRemoved (m.drop e) e := by
  have hold := ManifestStore.entry_of_mem h.table_sorted he
  have hnaming := ManifestStore.naming_dropped h hold e.cabin
  have hmarked := ManifestStore.markedIn_dropped h hold e.cabin
  rw [beq_self_eq_true] at hnaming
  rw [beq_self_eq_true, Bool.and_true] at hmarked
  have hleft := h.recounted_left he (u := m.withTable (m.table.filter fun x => x.tag != e.tag)) rfl hnaming hmarked
  rw [← ManifestStore.recount_cabin] at hleft
  exact ⟨by simp, m.drop_entry e, fun x hx => ManifestStore.drop_entry_of_ne hx m,
    fun c hc => ManifestStore.drop_cabin_of_ne hc m, hleft⟩

/-- What is counted besides leaves an entry removed. -/
theorem ManifestStore.entryRemoved.tally (h : m.entryRemoved m' e) (g : MsCounters → MsCounters) :
    m.entryRemoved (m'.tally g) e := by
  obtain ⟨hkeep, hrest⟩ := h
  exact ⟨(ManifestStore.keepsRest_tally ..).mpr hkeep, hrest⟩

theorem ManifestStore.entryMarked.tally {mark : DeliveredMark} (h : m.entryMarked m' e mark) (g : MsCounters → MsCounters) :
    m.entryMarked (m'.tally g) e mark := by
  obtain ⟨hkeep, hrest⟩ := h
  exact ⟨(ManifestStore.keepsRest_tally ..).mpr hkeep, hrest⟩

@[simp] theorem ManifestStore.put_counters (e : TagEntry) (m : ManifestStore) : (m.put e).counters = m.counters :=
  ManifestStore.recount_counters ..
@[simp] theorem ManifestStore.drop_counters (e : TagEntry) (m : ManifestStore) : (m.drop e).counters = m.counters :=
  ManifestStore.recount_counters ..

/-- R73, R74: an entry of the table takes a mark. -/
theorem ManifestStore.sliceOk.entryMarked_put (h : m.sliceOk) {tag : Nat} (hold : m.entry tag = some e) {mark : DeliveredMark}
    (hmark : mark ≠ .none) : m.entryMarked (m.put { e with mark := mark }) e mark := by
  cases ManifestStore.entry_tag hold
  refine ⟨by simp, m.put_entry { e with mark := mark },
    fun x hx => ManifestStore.put_entry_of_ne (e := { e with mark := mark }) hx m, fun c hc => ManifestStore.put_cabin_of_ne (e := { e with mark := mark }) hc m, fun r d hr hd => ?_⟩
  refine h.put_cabin (e := { e with mark := mark }) hold rfl hr ?_
  rw [TagEntry.marked_toNat, TagEntry.marked_toNat, if_neg hmark, hd]
  split <;> rfl

end

/-! ## Withdrawals (R72) -/

section
variable {m : ManifestStore} {e : TagEntry} {tag : Nat}

theorem ManifestStore.applyWithdraw_none (h : m.entry tag = none) : m.applyWithdraw tag = ⟨m, []⟩ := by
  rw [ManifestStore.applyWithdraw, h]

theorem ManifestStore.applyWithdraw_some (h : m.entry tag = some e) :
    m.applyWithdraw tag =
      ⟨(m.drop e).tally fun c => { c with withdrawals := c.withdrawals + 1 }, (e.lostMark .withdrawn none).toList⟩ := by
  rw [ManifestStore.applyWithdraw, h, ← TagEntry.misplaced_eq]

/-! ## Marks (R73, R74, R84) -/

theorem deliveredRefused_iff (f : DeliveredFields) :
    deliveredRefused f = true ↔ f.tag = 0 ∨ f.cabin = 0 ∨ 32767 < f.cabin ∨ f.deck = 0 ∨ 20 < f.deck ∨ f.node = 0
      ∨ 60 < f.node ∨ f.outlet = 0 ∨ 4 < f.outlet := by
  simp only [deliveredRefused, Bool.or_eq_true, beq_iff_eq, Bool.not_eq_true', Bool.eq_false_iff, ne_eq, inRange_iff,
    Config.maxCabin, Config.maxDeck, Config.maxNode]
  omega

theorem ManifestStore.lookup_eq_none (h : m.purgeRunning = true ∨ m.entry tag = none) : m.lookup tag = none := by
  rcases h with hpurge | hnone
  · exact if_pos hpurge
  · rcases m.lookup_cases tag with h | h
    · exact h
    · exact h.trans hnone

theorem ManifestStore.lookup_eq_some (hpurge : m.purgeRunning = false) (h : m.entry tag = some e) : m.lookup tag = some e :=
  (if_neg (by simp [hpurge])).trans h

section
variable {f : DeliveredFields}

theorem ManifestStore.takeDelivered_refused (h : deliveredRefused f = true) :
    m.takeDelivered f = m.tally fun c => { c with deliveredRefused := c.deliveredRefused + 1 } := if_pos h

theorem ManifestStore.takeDelivered_none (h : deliveredRefused f = false) (hnone : m.lookup f.tag = none) :
    m.takeDelivered f = m := by
  simp [ManifestStore.takeDelivered, h, hnone]

theorem ManifestStore.takeDelivered_first (h : deliveredRefused f = false) (hsome : m.lookup f.tag = some e)
    (hmark : e.mark = .none) : m.takeDelivered f = m.put { e with mark := .peer f.node } := by
  simp [ManifestStore.takeDelivered, h, hsome, hmark]

theorem ManifestStore.takeDelivered_again (h : deliveredRefused f = false) (hsome : m.lookup f.tag = some e)
    (hmark : e.mark ≠ .none) : m.takeDelivered f = m.tally fun c => { c with doubleDeliveries := c.doubleDeliveries + 1 } := by
  cases hm : e.mark with
  | none => exact absurd hm hmark
  | self k d => simp [ManifestStore.takeDelivered, h, hsome, hm]
  | peer n => simp [ManifestStore.takeDelivered, h, hsome, hm]

theorem exec_delivered {s : State} {rx : Rx} {p : List Byte} (h : s.delivers classDelivered rx p) :
    exec (.delivered rx p) s = .next { s.takeTelegram rx with ms := s.ms.takeDelivered (readDelivered p) } :=
  congrArg Host.Outcome.next (State.receive_of_delivers h _)

end

section
variable {k : OutletNo} {deck : Nat}

theorem ManifestStore.markSelf_none (h : m.lookup tag = none) :
    m.markSelf tag k deck = m.tally fun c => { c with deliveredUnrecorded := c.deliveredUnrecorded + 1 } := by
  rw [ManifestStore.markSelf, h]

theorem ManifestStore.markSelf_again (h : m.lookup tag = some e) {j : OutletNo} {d : Nat} (hmark : e.mark = .self j d) :
    m.markSelf tag k deck = m.tally fun c => { c with doubleDeliveries := c.doubleDeliveries + 1 } := by
  simp [ManifestStore.markSelf, h, hmark]

theorem ManifestStore.markSelf_first (h : m.lookup tag = some e) (hmark : e.mark = .none) :
    m.markSelf tag k deck = m.put { e with mark := .self k deck } := by
  simp [ManifestStore.markSelf, h, hmark]

theorem ManifestStore.markSelf_peer (h : m.lookup tag = some e) {n : Nat} (hmark : e.mark = .peer n) :
    m.markSelf tag k deck = (m.put { e with mark := .self k deck }).tally
      fun c => { c with doubleDeliveries := c.doubleDeliveries + 1 } := by
  simp [ManifestStore.markSelf, h, hmark]

end

end

/-! ## The telegrams of the manifest (R83) -/

section
variable {s : State} {rx : Rx} {p : List Byte}

/-- R83: each telegram of the manifest is given to the MS as what it carries. -/
theorem exec_manifestTelegram {c : Instr} {t : HeldTelegram}
    (h : (s.delivers classManifest rx p ∧ c = .manifest rx p ∧ t = .manifest (readManifest p))
      ∨ (s.delivers classManifestWithdraw rx p ∧ c = .manifestWithdraw rx p ∧ t = .withdraw (tagAt p 0))
      ∨ (s.delivers classDeckMap rx p ∧ c = .deckMap rx p ∧ t = .deckMap (readDeckMap p))) :
    exec c s = .next ((s.takeTelegram rx).takeManifestTelegram t) := by
  rcases h with ⟨hdelivers, rfl, rfl⟩ | ⟨hdelivers, rfl, rfl⟩ | ⟨hdelivers, rfl, rfl⟩
  · exact exec_manifest hdelivers
  · exact exec_manifestWithdraw hdelivers
  · exact exec_deckMap hdelivers

theorem exec_manifestWithdraw_applied (h : s.delivers classManifestWithdraw rx p) (hpurge : s.ms.purgeRunning = false)
    {m : ManifestStore} {lost : Option MisplacedReport} (hchange : s.ms.applyWithdraw (tagAt p 0) = ⟨m, lost.toList⟩) :
    exec (.manifestWithdraw rx p) s = .next (State.misplacedGiven { s.takeTelegram rx with ms := m } lost) := by
  rw [exec_manifestWithdraw h, State.takeManifestTelegram_applied (s := s.takeTelegram rx) hpurge]
  exact congrArg Host.Outcome.next (State.commitStores_eq hchange)

theorem exec_manifest_applied (h : s.delivers classManifest rx p) (hpurge : s.ms.purgeRunning = false)
    {m : ManifestStore} {lost : Option MisplacedReport}
    (hchange : s.ms.applyManifest s.config (readManifest p) = ⟨m, lost.toList⟩) :
    exec (.manifest rx p) s = .next (State.misplacedGiven { s.takeTelegram rx with ms := m } lost) := by
  rw [exec_manifest h, State.takeManifestTelegram_applied (s := s.takeTelegram rx) hpurge]
  exact congrArg Host.Outcome.next (State.commitStores_eq hchange)

theorem ManifestStore.holdTelegram_room {m : ManifestStore} (h : m.hold.length < 6) (t : HeldTelegram) :
    m.holdTelegram t = { m with hold := m.hold ++ [t] } := if_pos h

theorem ManifestStore.holdTelegram_full {m : ManifestStore} (h : 6 ≤ m.hold.length) (t : HeldTelegram) :
    m.holdTelegram t = m.tally fun c => { c with holdOverruns := c.holdOverruns + 1 } := if_neg (Nat.not_lt.mpr h)

end

end Sys2Proof.Machine

open Sys2Proof.Machine

/-- Settles O51: a withdrawal drops its entry, a mark is put on it, and while a purge runs neither finds one. -/
theorem withdrawnMarkedHeld : Obligations.WithdrawnMarkedHeld := by
  unfold Obligations.WithdrawnMarkedHeld
  refine ⟨?_, ?_, ?_, ?_⟩
  · rintro s u rx p hdelivers rfl hpurge hcap hcab
    have hslice : s.ms.sliceOk := ⟨hcap, hcab⟩
    refine ⟨fun hnone => ?_, fun e he => ?_⟩
    · exact exec_manifestWithdraw_applied (lost := none) hdelivers hpurge (ManifestStore.applyWithdraw_none hnone)
    · refine ⟨_, exec_manifestWithdraw_applied hdelivers hpurge (ManifestStore.applyWithdraw_some he),
        (hslice.entryRemoved_drop (ManifestStore.entry_mem he)).tally _, ?_⟩
      rw [ManifestStore.tally_counters, ManifestStore.drop_counters]
  · rintro s u rx p f hdelivers rfl hf hcap hcab
    have hslice : s.ms.sliceOk := ⟨hcap, hcab⟩
    rw [exec_delivered hdelivers, ← hf]
    refine ⟨fun h => ?_, fun h1 h2 h3 h4 h5 h6 h7 h8 h9 => ?_⟩
    · rw [ManifestStore.takeDelivered_refused ((deliveredRefused_iff f).mpr h)]
      rfl
    have hchecks : deliveredRefused f = false := by
      rw [Bool.eq_false_iff, ne_eq, deliveredRefused_iff]
      omega
    refine ⟨fun hnone => ?_, fun e hpurge he => ?_⟩
    · rw [ManifestStore.takeDelivered_none hchecks (ManifestStore.lookup_eq_none hnone)]
      rfl
    have hlookup := ManifestStore.lookup_eq_some hpurge he
    refine ⟨fun hmark => ⟨_, rfl, ?_⟩, fun hmark => ?_⟩
    · rw [ManifestStore.takeDelivered_first hchecks hlookup hmark]
      exact ⟨hslice.entryMarked_put he (by simp), ManifestStore.put_counters ..⟩
    · rw [ManifestStore.takeDelivered_again hchecks hlookup hmark]
      rfl
  · intro m tag k deck hcap hcab
    have hslice : m.sliceOk := ⟨hcap, hcab⟩
    refine ⟨fun hnone => ManifestStore.markSelf_none (ManifestStore.lookup_eq_none hnone), fun e hpurge he => ?_⟩
    have hlookup := ManifestStore.lookup_eq_some hpurge he
    have hmarked : m.entryMarked (m.put { e with mark := .self k deck }) e (.self k deck) :=
      hslice.entryMarked_put he (by simp)
    refine ⟨fun j d hmark => ManifestStore.markSelf_again hlookup hmark, fun hother => ?_⟩
    cases hmark : e.mark with
    | none =>
      rw [ManifestStore.markSelf_first hlookup hmark]
      exact ⟨hmarked, ManifestStore.put_counters ..⟩
    | self j d => exact absurd hmark (hother j d)
    | peer n =>
      rw [ManifestStore.markSelf_peer hlookup hmark]
      refine ⟨hmarked.tally _, ?_⟩
      rw [ManifestStore.tally_counters, ManifestStore.put_counters]
      rfl
  · rintro s u rx p c t rfl hc
    rw [exec_manifestTelegram hc]
    refine ⟨fun hpurge => ?_, fun hpurge hroom => ?_, fun hpurge hfull => ?_⟩
    · rw [State.takeManifestTelegram_applied (s := s.takeTelegram rx) hpurge]
    · rw [State.takeManifestTelegram_held (s := s.takeTelegram rx) hpurge]
      exact congrArg (fun m => Host.Outcome.next { s.takeTelegram rx with ms := m }) (ManifestStore.holdTelegram_room hroom t)
    · rw [State.takeManifestTelegram_held (s := s.takeTelegram rx) hpurge]
      exact congrArg (fun m => Host.Outcome.next { s.takeTelegram rx with ms := m }) (ManifestStore.holdTelegram_full hfull t)

end

section
/-! SUPPORT. The MANIFEST telegram (R66 to R70), case by case: what it inserts, amends, moves or refuses. -/

open Sys2Proof

namespace Sys2Proof.Machine

section
variable {m : ManifestStore} {c : NodeConfig} {f : ManifestFields} {e : TagEntry}

theorem CabinLookup.unserved_iff {look : CabinLookup} : look.unserved c = true ↔ ∃ d, look = .deck d ∧ c.serves d = false := by
  cases look <;> simp [CabinLookup.unserved]

theorem CabinLookup.unserved_eq_false_iff {look : CabinLookup} :
    look.unserved c = false ↔ ∀ d, look = .deck d → c.serves d = true := by
  cases look <;> simp [CabinLookup.unserved]

/-! ## The MANIFEST by what it finds (R66) -/

theorem ManifestStore.applyManifest_refused (h : manifestRefused f = true) :
    m.applyManifest c f = ⟨m.tally fun c => { c with manifestsRefused := c.manifestsRefused + 1 }, []⟩ := if_pos h

theorem ManifestStore.applyManifest_new (h : manifestRefused f = false) (hnone : m.entry f.tag = none) :
    m.applyManifest c f = ⟨m.insert c f, []⟩ := by
  simp [ManifestStore.applyManifest, h, hnone]

theorem ManifestStore.applyManifest_same (h : manifestRefused f = false) (hsome : m.entry f.tag = some e)
    (hcabin : f.cabin = e.cabin) : m.applyManifest c f = ⟨m.amend f e, []⟩ := by
  simp [ManifestStore.applyManifest, h, hsome, hcabin]

theorem ManifestStore.applyManifest_move (h : manifestRefused f = false) (hsome : m.entry f.tag = some e)
    (hcabin : f.cabin ≠ e.cabin) : m.applyManifest c f = m.move c f e := by
  simp [ManifestStore.applyManifest, h, hsome, hcabin.symm]

theorem manifestRefused_of_valid (h1 : f.tag ≠ 0) (h2 : 1 ≤ f.cabin) (h3 : f.cabin ≤ 32767) (h4 : 1 ≤ f.pieces)
    (h5 : f.pieces ≤ 15) : manifestRefused f = false := by
  rw [Bool.eq_false_iff, ne_eq, manifestRefused_iff]
  omega

/-! ## The cases of R67, in its order -/

theorem ManifestStore.insert_unserved (h : (lookupCabin m.map f.cabin).unserved c = true) :
    m.insert c f = m.tally fun c => { c with outsideSlice := c.outsideSlice + 1 } := if_pos h

section
variable (hserved : (lookupCabin m.map f.cabin).unserved c = false)
include hserved

theorem ManifestStore.insert_tableFull (h : 3072 ≤ m.table.length) :
    m.insert c f = m.tally fun c => { c with tableFull := c.tableFull + 1 } :=
  (if_neg (by simp [hserved])).trans (if_pos h)

variable (htable : m.table.length < 3072)
include htable

theorem ManifestStore.insert_unplacedFull (h : lookupCabin m.map f.cabin = .unmapped ∧ 512 ≤ unplacedCount m.table) :
    m.insert c f = m.tally fun c => { c with unplacedFull := c.unplacedFull + 1 } :=
  (if_neg (by simp [hserved])).trans ((if_neg (Nat.not_le.mpr htable)).trans (if_pos h))

variable (hunplaced : ¬ (lookupCabin m.map f.cabin = .unmapped ∧ 512 ≤ unplacedCount m.table))
include hunplaced

theorem ManifestStore.insert_cabinFull (h : m.cabin f.cabin = none ∧ 1024 ≤ m.cabins.length) :
    m.insert c f = m.tally fun c => { c with cabinFull := c.cabinFull + 1 } :=
  (if_neg (by simp [hserved])).trans ((if_neg (Nat.not_le.mpr htable)).trans ((if_neg hunplaced).trans (if_pos h)))

variable (hcabins : ¬ (m.cabin f.cabin = none ∧ 1024 ≤ m.cabins.length))
include hcabins

theorem ManifestStore.insert_piecesFull (h : 15 ≤ (m.entriesOf f.cabin).length) :
    m.insert c f = m.tally fun c => { c with piecesFull := c.piecesFull + 1 } :=
  (if_neg (by simp [hserved])).trans ((if_neg (Nat.not_le.mpr htable)).trans ((if_neg hunplaced).trans
    ((if_neg hcabins).trans (if_pos h))))

theorem ManifestStore.insert_inserted (h : (m.entriesOf f.cabin).length < 15) :
    m.insert c f = ((m.put (insertedEntry f (lookupCabin m.map f.cabin))).declare f.cabin f.pieces).tally
      fun c => { c with inserted := c.inserted + 1 } :=
  (if_neg (by simp [hserved])).trans ((if_neg (Nat.not_le.mpr htable)).trans ((if_neg hunplaced).trans
    ((if_neg hcabins).trans (if_neg (Nat.not_le.mpr h)))))

end

end

/-! ## An entry put and its cabin declared -/

section
variable {m : ManifestStore} {e old : TagEntry} {n : Nat}

theorem ManifestStore.put_declare_entry (e : TagEntry) (c n : Nat) (m : ManifestStore) :
    ((m.put e).declare c n).entry e.tag = some e := by
  rw [ManifestStore.declare_entry, ManifestStore.put_entry]

theorem ManifestStore.put_declare_entry_of_ne {x : Nat} (h : x ≠ e.tag) (c n : Nat) (m : ManifestStore) :
    ((m.put e).declare c n).entry x = m.entry x := by
  rw [ManifestStore.declare_entry, ManifestStore.put_entry_of_ne h]

theorem ManifestStore.put_declare_cabin_of_ne {x : Nat} (h : x ≠ e.cabin) (n : Nat) (m : ManifestStore) :
    ((m.put e).declare e.cabin n).cabin x = m.cabin x := by
  rw [ManifestStore.declare_cabin_of_ne h, ManifestStore.put_cabin_of_ne h]

/-- R63, R67: the cabin of an entry inserted without a mark. -/
theorem ManifestStore.sliceOk.put_fresh_cabin (h : m.sliceOk) (hnone : m.entry e.tag = none) (hmark : e.mark = .none) (n : Nat) :
    ((m.put e).declare e.cabin n).cabin e.cabin = some ⟨e.cabin, max n (m.markedIn e.cabin), m.markedIn e.cabin⟩ := by
  have hnaming := ManifestStore.naming_fresh h hnone e.cabin
  have hmarked := ManifestStore.markedIn_fresh h hnone e.cabin
  rw [beq_self_eq_true] at hnaming
  rw [beq_self_eq_true, Bool.and_true, TagEntry.marked_toNat, if_pos hmark] at hmarked
  exact ManifestStore.declare_recount_cabin (u := m.withTable _) (by rw [hnaming]; exact Nat.succ_ne_zero _) hmarked n

/-- R63, R68: the cabin of an entry amended. -/
theorem ManifestStore.sliceOk.put_amended_cabin (h : m.sliceOk) (hold : m.entry e.tag = some old) (hcabin : old.cabin = e.cabin)
    (hmark : old.marked = e.marked) {r : CabinRecord} (hr : m.cabin e.cabin = some r) (n : Nat) :
    ((m.put e).declare e.cabin n).cabin e.cabin = some { r with expected := max n r.delivered } := by
  rw [ManifestStore.declare_cabin, h.put_cabin hold hcabin hr (by rw [hmark])]
  rfl

end

/-- R68: the entry that an amendment of its own cabin leaves. -/
def TagEntry.amended (f : ManifestFields) (e : TagEntry) : TagEntry := { e with pieces := f.pieces, oversize := f.oversize }

theorem ManifestStore.amend_eq {f : ManifestFields} {e : TagEntry} (hcabin : f.cabin = e.cabin) (m : ManifestStore) :
    m.amend f e = ((m.put (e.amended f)).declare (e.amended f).cabin f.pieces).tally
      fun c => { c with amendments := c.amendments + 1 } := by
  rw [ManifestStore.amend, hcabin]
  rfl

/-! ## A cabin move (R69 to R71) -/

section
variable {m : ManifestStore} {f : ManifestFields} {e old : TagEntry} {x : Nat}

/-- R71: a move reports the mark it takes away. -/
theorem ManifestStore.moveReports_eq (f : ManifestFields) (e : TagEntry) (m : ManifestStore) :
    m.moveReports f e =
      (if (m.movedEntry f e).mark = .none then e.lostMark .moved (some f.cabin) else none).toList := by
  have hmark : (m.movedEntry f e).mark =
      if keepsMark (lookupCabin m.map e.cabin) (lookupCabin m.map f.cabin) e.mark then e.mark else .none := rfl
  unfold ManifestStore.moveReports
  cases hkeep : keepsMark (lookupCabin m.map e.cabin) (lookupCabin m.map f.cabin) e.mark with
  | false => rw [hmark, hkeep, TagEntry.misplaced_eq]; rfl
  | true =>
    rw [hmark, hkeep]
    simp only [if_true]
    split
    · rw [TagEntry.lostMark_of_none ‹_›]; rfl
    · rfl

theorem ManifestStore.moveEntry_declare_entry (old e : TagEntry) (c n x : Nat) (m : ManifestStore) :
    ((m.moveEntry old e).declare c n).entry x = (m.put e).entry x := by
  simp [ManifestStore.entry, ManifestStore.moveEntry, ManifestStore.put_eq]

@[simp] theorem ManifestStore.moveEntry_counters (old e : TagEntry) (m : ManifestStore) :
    (m.moveEntry old e).counters = m.counters := by
  simp only [ManifestStore.moveEntry, ManifestStore.recount_counters]
  rfl

section
variable (h : m.sliceOk) (hold : m.entry e.tag = some old) (hcabin : old.cabin ≠ e.cabin)
include h hold hcabin

/-- R63, R70: the cabin that an entry moves to. -/
theorem ManifestStore.sliceOk.moveEntry_new_cabin (n : Nat) {d : Nat} (hd : d = m.markedIn e.cabin + e.marked.toNat) :
    ((m.moveEntry old e).declare e.cabin n).cabin e.cabin = some ⟨e.cabin, max n d, d⟩ := by
  have hne : (old.cabin == e.cabin) = false := beq_false_of_ne hcabin
  have hnaming := ManifestStore.naming_replaced h hold e.cabin
  have hmarked := ManifestStore.markedIn_replaced h hold e.cabin
  rw [hne, beq_self_eq_true] at hnaming
  rw [hne, beq_self_eq_true, Bool.and_false, Bool.and_true] at hmarked
  refine ManifestStore.declare_recount_cabin ?_ ?_ n
  · rw [ManifestStore.recount_naming]
    exact ne_of_eq_of_ne (b := m.naming e.cabin + 1) hnaming (Nat.succ_ne_zero _)
  · rw [ManifestStore.recount_markedIn]
    exact hmarked.trans hd.symm

/-- R63, R70: the cabin that an entry moves from. -/
theorem ManifestStore.sliceOk.moveEntry_old_cabin (n : Nat) :
    (m.entriesOf old.cabin = [old] → ((m.moveEntry old e).declare e.cabin n).cabin old.cabin = none)
      ∧ ∀ r, m.cabin old.cabin = some r → m.entriesOf old.cabin ≠ [old] →
          ((m.moveEntry old e).declare e.cabin n).cabin old.cabin =
            some { r with delivered := r.delivered - (if old.mark = .none then 0 else 1) } := by
  have hne : (e.cabin == old.cabin) = false := beq_false_of_ne hcabin.symm
  have hnaming := ManifestStore.naming_replaced h hold old.cabin
  have hmarked := ManifestStore.markedIn_replaced h hold old.cabin
  rw [hne, beq_self_eq_true] at hnaming
  rw [hne, beq_self_eq_true, Bool.and_false, Bool.and_true] at hmarked
  rw [ManifestStore.declare_cabin_of_ne hcabin, ManifestStore.moveEntry, ManifestStore.recount_cabin_of_ne hcabin,
    ManifestStore.recount_cabin]
  exact h.recounted_left (ManifestStore.entry_mem hold) rfl hnaming hmarked

end

theorem ManifestStore.moveEntry_cabin_of_ne (h1 : x ≠ e.cabin) (h2 : x ≠ old.cabin) (n : Nat) (m : ManifestStore) :
    ((m.moveEntry old e).declare e.cabin n).cabin x = m.cabin x := by
  rw [ManifestStore.declare_cabin_of_ne h1, ManifestStore.moveEntry, ManifestStore.recount_cabin_of_ne h1,
    ManifestStore.recount_cabin_of_ne h2]
  rfl

end

end Sys2Proof.Machine

open Sys2Proof.Machine

/-- Settles O49: the cases of R67 in order, and the entry put with its cabin declared. -/
theorem manifestInserts : Obligations.ManifestInserts := by
  unfold Obligations.ManifestInserts
  rintro s u rx p f look hdelivers rfl hf hpurge rfl hcap hcab
  have hslice : s.ms.sliceOk := ⟨hcap, hcab⟩
  have happlied : ∀ m, s.ms.applyManifest s.config f = ⟨m, []⟩ →
      exec (.manifest rx p) s = .next { s.takeTelegram rx with ms := m } := fun m hm =>
    exec_manifest_applied (lost := none) hdelivers hpurge (hf ▸ hm)
  refine ⟨fun h => happlied _ (ManifestStore.applyManifest_refused ((manifestRefused_iff f).mpr h)),
    fun h1 h2 h3 h4 h5 hnone => ?_⟩
  have hinsert : ∀ m, s.ms.insert s.config f = m → exec (.manifest rx p) s = .next { s.takeTelegram rx with ms := m } :=
    fun m hm => happlied m (hm ▸ ManifestStore.applyManifest_new (manifestRefused_of_valid h1 h2 h3 h4 h5) hnone)
  refine ⟨fun hunserved => hinsert _ (ManifestStore.insert_unserved (CabinLookup.unserved_iff.mpr hunserved)), fun hserved => ?_⟩
  rw [← CabinLookup.unserved_eq_false_iff] at hserved
  refine ⟨fun hfull => hinsert _ (ManifestStore.insert_tableFull hserved hfull.ge),
    fun htable hlook hfull => hinsert _ (ManifestStore.insert_unplacedFull hserved htable ⟨hlook, hfull.ge⟩),
    fun htable hroom => ?_⟩
  have hunplaced : ¬ (lookupCabin s.ms.map f.cabin = .unmapped ∧ 512 ≤ unplacedCount s.ms.table) :=
    fun ⟨hlook, hfull⟩ => Nat.not_le.mpr (hroom hlook) hfull
  refine ⟨fun hcabin hfull => hinsert _ (ManifestStore.insert_cabinFull hserved htable hunplaced ⟨hcabin, hfull.ge⟩),
    fun hroom => ?_⟩
  have hcabins : ¬ (s.ms.cabin f.cabin = none ∧ 1024 ≤ s.ms.cabins.length) :=
    fun ⟨hcabin, hfull⟩ => Nat.not_le.mpr (hroom hcabin) hfull
  refine ⟨fun hfull => hinsert _ (ManifestStore.insert_piecesFull hserved htable hunplaced hcabins hfull.ge),
    fun hpieces => ?_⟩
  refine ⟨_, _, hinsert _ (ManifestStore.insert_inserted hserved htable hunplaced hcabins hpieces), rfl, ?_,
    fun x hx => ManifestStore.put_declare_entry_of_ne (e := insertedEntry f _) hx .., ?_,
    fun c hc => ManifestStore.put_declare_cabin_of_ne (e := insertedEntry f _) hc .., by simp, by simp⟩
  · rw [← placementOf_eq]
    exact ManifestStore.put_declare_entry (insertedEntry f _) ..
  · rw [hslice.delivered_eq]
    exact hslice.put_fresh_cabin (e := insertedEntry f _) hnone rfl _

/-- Settles O50: an amendment puts the entry in its place, and a move takes the cases of R70 in order. -/
theorem manifestAmends : Obligations.ManifestAmends := by
  unfold Obligations.ManifestAmends
  rintro s u rx p f e hdelivers rfl hf hpurge hcap hcab h1 h2 h3 h4 h5 he
  have hslice : s.ms.sliceOk := ⟨hcap, hcab⟩
  have hchecks := manifestRefused_of_valid h1 h2 h3 h4 h5
  have hold : s.ms.entry e.tag = some e := ManifestStore.entry_tag he ▸ he
  have hmem := ManifestStore.entry_mem he
  have happlied : ∀ m lost, s.ms.applyManifest s.config f = ⟨m, lost.toList⟩ →
      exec (.manifest rx p) s = .next (State.misplacedGiven { s.takeTelegram rx with ms := m } lost) := fun m lost hm =>
    exec_manifest_applied hdelivers hpurge (hf ▸ hm)
  refine ⟨fun hcabin => ?_, ?_⟩
  · refine ⟨_, happlied _ none (ManifestStore.applyManifest_same hchecks he hcabin), ?_⟩
    rw [ManifestStore.amend_eq hcabin]
    exact ⟨ManifestStore.put_declare_entry (e.amended f) ..,
      fun x hx => ManifestStore.put_declare_entry_of_ne (e := e.amended f) hx ..,
      fun r hr => hslice.put_amended_cabin (e := e.amended f) hold rfl rfl hr _,
      fun c hc => ManifestStore.put_declare_cabin_of_ne (e := e.amended f) hc .., by simp, by simp⟩
  · rintro old new mark lost hcabin rfl rfl hmark hlost
    have hkept : (s.ms.movedEntry f e).mark = mark := by
      rw [hmark]
      show (if keepsMark (lookupCabin s.ms.map e.cabin) (lookupCabin s.ms.map f.cabin) e.mark then e.mark else .none) = _
      generalize e.mark = was, lookupCabin s.ms.map e.cabin = old, lookupCabin s.ms.map f.cabin = new
      cases was with
      | none => rfl
      | self k d => cases new <;> simp [keepsMark]
      | peer n => cases old <;> cases new <;> simp [keepsMark]
    have hreports : s.ms.moveReports f e = lost.toList := by rw [ManifestStore.moveReports_eq, hkept, hlost]
    have hmove : ∀ m lost, s.ms.move s.config f e = ⟨m, lost.toList⟩ →
        exec (.manifest rx p) s = .next (State.misplacedGiven { s.takeTelegram rx with ms := m } lost) := fun m lost hm =>
      happlied m lost ((ManifestStore.applyManifest_move hchecks he hcabin).trans hm)
    refine ⟨fun hunserved => ⟨_, hmove _ lost ((ManifestStore.move_unserved (CabinLookup.unserved_iff.mpr hunserved)).trans
      (congrArg (StoreChange.mk _) hreports)), (hslice.entryRemoved_drop hmem).tally _, by simp⟩, fun hserved => ?_⟩
    rw [← CabinLookup.unserved_eq_false_iff] at hserved
    have hone := ManifestStore.entriesOf_eq_singleton hmem
    have hpos := ManifestStore.naming_pos hmem
    have hmany : s.ms.entriesOf e.cabin ≠ [e] ↔ 1 < s.ms.naming e.cabin := by
      rw [ne_eq, hone]
      omega
    rw [ManifestStore.length_entriesOf]
    refine ⟨fun hfull => hmove _ none (ManifestStore.move_piecesFull hserved hfull.ge), fun hnone hfull hmore => ?_,
      fun hpieces hrecord => ?_⟩
    · have hempty := (hslice.cabinOk _).naming_eq_zero hnone
      exact hmove _ none (ManifestStore.move_cabinFull hserved (by omega) ⟨hnone, hfull.ge, hmany.mp hmore⟩)
    have hcabins : ¬ (s.ms.cabin f.cabin = none ∧ 1024 ≤ s.ms.cabins.length ∧ 1 < s.ms.naming e.cabin) :=
      fun ⟨hnone, hfull, hmore⟩ => (hrecord hnone).elim (Nat.not_lt.mpr hfull) (hmany.mpr hmore)
    refine ⟨fun hlook hplaced hfull => ⟨_, hmove _ _ ((ManifestStore.move_unplacedFull hserved hpieces hcabins
      ⟨hlook, hplaced, hfull.ge⟩).trans (congrArg (StoreChange.mk _) (TagEntry.misplaced_eq ..))),
      ((hslice.entryRemoved_drop hmem).tally _).tally _, by simp⟩, fun hroom => ?_⟩
    have hunplaced : ¬ (lookupCabin s.ms.map f.cabin = .unmapped ∧ e.placement = .placed ∧ 512 ≤ unplacedCount s.ms.table) :=
      fun ⟨hlook, hplaced, hfull⟩ => Nat.not_le.mpr (hroom hlook hplaced) hfull
    obtain ⟨hlast, hleft⟩ := hslice.moveEntry_old_cabin (e := s.ms.movedEntry f e) hold hcabin.symm f.pieces
    refine ⟨_, _, hmove _ lost ((ManifestStore.move_moved hserved hpieces hcabins hunplaced).trans
      (congrArg (StoreChange.mk _) hreports)), rfl, ?_, fun x hx => ?_, ?_, hlast, hleft,
      fun c hnew hold => ManifestStore.moveEntry_cabin_of_ne (e := s.ms.movedEntry f e) hnew hold .., by simp, by simp⟩
    · rw [← hkept]
      exact (ManifestStore.moveEntry_declare_entry ..).trans
        ((s.ms.put_entry (s.ms.movedEntry f e)).trans (congrArg some (TagEntry.moved_eq ..)))
    · exact (ManifestStore.moveEntry_declare_entry ..).trans (ManifestStore.put_entry_of_ne (e := s.ms.movedEntry f e) hx s.ms)
    · refine hslice.moveEntry_new_cabin (e := s.ms.movedEntry f e) hold hcabin.symm f.pieces ?_
      rw [hslice.delivered_eq, TagEntry.marked_toNat, hkept]
      rfl

end

section
/-! SUPPORT. The sweep (R80, R81): the entry it examines, its place afterwards, and each case of an examination. -/

open Sys2Proof

namespace Sys2Proof.Machine

section
variable {m m' : ManifestStore} {c : NodeConfig} {e : TagEntry} {last d : Nat}

/-! ## The sweep's place -/

/-- R80: the entry with the lowest tag above the last is the one found. -/
theorem ManifestStore.nextToExamine_eq_some (hsorted : (m.table.map TagEntry.tag).Pairwise (· < ·)) (he : e ∈ m.table)
    (hlast : last < e.tag) (hlowest : ∀ x ∈ m.table, last < x.tag → e.tag ≤ x.tag) : m.nextToExamine last = some e := by
  obtain ⟨low, old, high, h⟩ := exists_splitAt hsorted e.tag
  have hold : old = some e := h.find.symm.trans (find_of_mem hsorted he)
  have hlow : low.find? (fun x => decide (last < x.tag)) = none := List.find?_eq_none.mpr fun x hx habove => by
    have hbelow := h.below x hx
    have := hlowest x (h.eq ▸ List.mem_append_left _ hx) (of_decide_eq_true habove)
    omega
  rw [ManifestStore.nextToExamine, h.eq, hold, List.find?_append, hlow, Option.none_or]
  exact List.find?_cons_of_pos (decide_eq_true hlast)

theorem ManifestStore.nextToExamine_eq_none : m.nextToExamine last = none ↔ ∀ x ∈ m.table, x.tag ≤ last := by
  simp [ManifestStore.nextToExamine]

theorem ManifestStore.advanceSweep_last (h : ∀ x ∈ m.table, x.tag ≤ last) :
    m.advanceSweep last = { m with
      sweep := none, counters := { m.counters with sweepsCompleted := m.counters.sweepsCompleted + 1 } } := by
  rw [ManifestStore.advanceSweep, ManifestStore.nextToExamine_eq_none.mpr h]
  rfl

theorem ManifestStore.advanceSweep_more (h : ¬ ∀ x ∈ m.table, x.tag ≤ last) :
    m.advanceSweep last = { m with sweep := some last } := by
  rw [← ManifestStore.nextToExamine_eq_none, ← ne_eq, Option.ne_none_iff_exists'] at h
  obtain ⟨x, hx⟩ := h
  rw [ManifestStore.advanceSweep, hx]

theorem ManifestStore.advanceSweep_reported (last : Nat) (m : ManifestStore) :
    (m.tally fun c => { c with misplacedReports := c.misplacedReports + 1 }).advanceSweep last =
      (m.advanceSweep last).tally fun c => { c with misplacedReports := c.misplacedReports + 1 } := by
  by_cases h : ∀ x ∈ m.table, x.tag ≤ last
  · rw [ManifestStore.advanceSweep_last (m := m) h, ManifestStore.advanceSweep_last (m := m.tally _) h]
    rfl
  · rw [ManifestStore.advanceSweep_more (m := m) h, ManifestStore.advanceSweep_more (m := m.tally _) h]
    rfl

/-- R80, R81: the sweep's place and the completed sweeps are all that moves on. -/
theorem ManifestStore.advanceSweep_eq (last : Nat) (m : ManifestStore) :
    ∃ place n, m.advanceSweep last = { m with sweep := place, counters := { m.counters with sweepsCompleted := n } } := by
  by_cases h : ∀ x ∈ m.table, x.tag ≤ last
  · exact ⟨_, _, ManifestStore.advanceSweep_last h⟩
  · exact ⟨_, _, ManifestStore.advanceSweep_more h⟩

@[simp] theorem ManifestStore.advanceSweep_table (last : Nat) (m : ManifestStore) : (m.advanceSweep last).table = m.table := by
  obtain ⟨place, n, h⟩ := m.advanceSweep_eq last
  rw [h]
@[simp] theorem ManifestStore.advanceSweep_cabins (last : Nat) (m : ManifestStore) : (m.advanceSweep last).cabins = m.cabins := by
  obtain ⟨place, n, h⟩ := m.advanceSweep_eq last
  rw [h]
@[simp] theorem ManifestStore.advanceSweep_sweepRemovals (last : Nat) (m : ManifestStore) :
    (m.advanceSweep last).counters.sweepRemovals = m.counters.sweepRemovals := by
  obtain ⟨place, n, h⟩ := m.advanceSweep_eq last
  rw [h]

theorem ManifestStore.advanceSweep_cabin (last c : Nat) (m : ManifestStore) : (m.advanceSweep last).cabin c = m.cabin c := by
  simp [ManifestStore.cabin]

/-- R80: but for the sweep's place, an examination is a change of the tag table. -/
theorem ManifestStore.keepsRest.advanceSweep (h : m.keepsRest m') (last : Nat) :
    ∃ n, { m'.advanceSweep last with sweep := m.sweep } = m'.tally fun c => { c with sweepsCompleted := n } := by
  obtain ⟨-, -, -, hsweep⟩ := h.fields
  obtain ⟨place, n, hadvance⟩ := m'.advanceSweep_eq last
  exact ⟨n, by rw [hadvance, ← hsweep]; rfl⟩

/-- R80: the last entry of the table is the one with no tag above its own. -/
theorem ManifestStore.tag_eq_getLast (hsorted : (m.table.map TagEntry.tag).Pairwise (· < ·)) (he : e ∈ m.table) :
    e.tag = (m.table.getLast?.map TagEntry.tag).getD 0 ↔ ∀ x ∈ m.table, x.tag ≤ e.tag := by
  obtain ⟨low, z, hz⟩ := List.eq_nil_or_concat' m.table |>.resolve_left (List.ne_nil_of_mem he)
  have hhighest : ∀ x ∈ m.table, x.tag ≤ z.tag := by
    rw [hz, List.map_append, List.pairwise_append] at hsorted
    obtain ⟨-, -, hbelow⟩ := hsorted
    intro x hx
    rw [hz, List.mem_append, List.mem_singleton] at hx
    rcases hx with hx | rfl
    · exact (hbelow _ (List.mem_map_of_mem hx) _ List.mem_cons_self).le
    · exact le_rfl
  rw [show (m.table.getLast?.map TagEntry.tag).getD 0 = z.tag by rw [hz, List.getLast?_concat]; rfl]
  refine ⟨fun h => h ▸ hhighest, fun h => le_antisymm (hhighest e he) (h z ?_)⟩
  rw [hz]
  exact List.mem_append_right _ List.mem_cons_self

/-- R80: an examination changes no entry above the one examined. -/
theorem ManifestStore.above_iff (h : ∀ x, x ≠ last → m'.entry x = m.entry x) :
    (∀ x ∈ m'.table, x.tag ≤ last) ↔ ∀ x ∈ m.table, x.tag ≤ last := by
  have hentries : ∀ n : ManifestStore, (∀ x ∈ n.table, x.tag ≤ last) ↔ ∀ k, last < k → n.entry k = none := fun n => by
    refine ⟨fun h k hk => List.find?_eq_none.mpr fun x hx htag => ?_, fun h x hx => Nat.le_of_not_lt fun hx' => ?_⟩
    · exact absurd (h x hx) (by rw [beq_iff_eq.mp htag]; omega)
    · exact List.find?_eq_none.mp (h _ hx') x hx (beq_self_eq_true _)
  rw [hentries, hentries]
  exact forall₂_congr fun k hk => by rw [h k (by omega)]

/-! ## The cases of an examination, in the order of R80 -/

theorem ManifestStore.examine_unserved (hlook : lookupCabin m.map e.cabin = .deck d) (h : c.serves d = false) :
    m.examine c e = ⟨(m.drop e).tally fun c => { c with sweepRemovals := c.sweepRemovals + 1 },
      (e.lostMark .remapped (some e.cabin)).toList⟩ := by
  simp [ManifestStore.examine, hlook, h, TagEntry.misplaced_eq]

theorem ManifestStore.examine_unplacedFull (hlook : lookupCabin m.map e.cabin = .unmapped)
    (h : ¬ (e.placement = .unplaced ∨ unplacedCount m.table < 512)) :
    m.examine c e = ⟨(m.drop e).tally fun c => { c with sweepRemovals := c.sweepRemovals + 1 },
      (e.lostMark .remapped (some e.cabin)).toList⟩ := by
  simp only [ManifestStore.examine, hlook, TagEntry.misplaced_eq]
  exact if_neg h

theorem ManifestStore.examine_contested (hlook : lookupCabin m.map e.cabin = .contested) :
    m.examine c e = ⟨m.put { e with placement := .placed }, []⟩ := by
  simp [ManifestStore.examine, hlook]

theorem ManifestStore.examine_unmapped (hlook : lookupCabin m.map e.cabin = .unmapped)
    (h : e.placement = .unplaced ∨ unplacedCount m.table < 512) :
    m.examine c e = ⟨m.put { e with placement := .unplaced }, []⟩ := by
  simp only [ManifestStore.examine, hlook]
  exact if_pos h

theorem keepsMark_same_iff (mark : DeliveredMark) :
    keepsMark (.deck d) (.deck d) mark = true ↔ ∀ k x, mark = .self k x → x = d := by
  cases mark with
  | none => exact iff_of_true rfl nofun
  | peer n => exact iff_of_true (beq_self_eq_true d) nofun
  | self k y =>
    refine beq_iff_eq.trans ⟨fun h j x hx => ?_, fun h => (h k y rfl).symm⟩
    cases hx
    exact h.symm

theorem ManifestStore.examine_served (hlook : lookupCabin m.map e.cabin = .deck d) (h : c.serves d = true)
    (hmark : ∀ k x, e.mark = .self k x → x = d) : m.examine c e = ⟨m.put { e with placement := .placed }, []⟩ := by
  simp [ManifestStore.examine, hlook, h, (keepsMark_same_iff e.mark).mpr hmark]

theorem ManifestStore.examine_remapped (hlook : lookupCabin m.map e.cabin = .deck d) (h : c.serves d = true) {k : OutletNo}
    {x : Nat} (hmark : e.mark = .self k x) (hx : x ≠ d) :
    m.examine c e = ⟨m.put { e with placement := .placed, mark := .none }, [⟨e.tag, x, .remapped, some e.cabin⟩]⟩ := by
  have hlost : keepsMark (.deck d) (.deck d) (.self k x) = false := beq_false_of_ne hx.symm
  simp [ManifestStore.examine, hlook, h, hlost, TagEntry.misplaced, hmark]

/-- R80: an entry goes that has come to a deck not served here, or to none with the unplaced full. -/
theorem ManifestStore.examine_removed (h : (∃ d, lookupCabin m.map e.cabin = .deck d ∧ c.serves d = false)
      ∨ (lookupCabin m.map e.cabin = .unmapped ∧ e.placement = .placed ∧ unplacedCount m.table = 512)) :
    m.examine c e = ⟨(m.drop e).tally fun c => { c with sweepRemovals := c.sweepRemovals + 1 },
      (e.lostMark .remapped (some e.cabin)).toList⟩ := by
  rcases h with ⟨d, hlook, hserves⟩ | ⟨hlook, hplaced, hfull⟩
  · exact ManifestStore.examine_unserved hlook hserves
  · exact ManifestStore.examine_unplacedFull hlook (by simp [hplaced, hfull])

/-- R80: an entry stays that has come to no one deck. -/
theorem ManifestStore.examine_undecked (h : lookupCabin m.map e.cabin = .contested
      ∨ (lookupCabin m.map e.cabin = .unmapped ∧ (e.placement = .unplaced ∨ unplacedCount m.table < 512))) :
    m.examine c e =
      ⟨m.put { e with placement := if lookupCabin m.map e.cabin = .unmapped then .unplaced else .placed }, []⟩ := by
  rcases h with hlook | ⟨hlook, hroom⟩
  · rw [ManifestStore.examine_contested hlook, hlook]
    rfl
  · rw [ManifestStore.examine_unmapped hlook hroom, hlook]
    rfl

/-- R80: an examination puts its entry anew or removes it, and gives at most one report. -/
theorem ManifestStore.examine_cases (c : NodeConfig) (e : TagEntry) (m : ManifestStore) : ∃ lost : Option MisplacedReport,
    (∃ placement mark, m.examine c e = ⟨m.put { e with placement := placement, mark := mark }, lost.toList⟩)
      ∨ m.examine c e = ⟨(m.drop e).tally fun c => { c with sweepRemovals := c.sweepRemovals + 1 }, lost.toList⟩ := by
  cases hlook : lookupCabin m.map e.cabin with
  | contested => exact ⟨none, .inl ⟨_, _, ManifestStore.examine_contested hlook⟩⟩
  | unmapped =>
    by_cases h : e.placement = .unplaced ∨ unplacedCount m.table < 512
    · exact ⟨none, .inl ⟨_, _, ManifestStore.examine_unmapped hlook h⟩⟩
    · exact ⟨_, .inr (ManifestStore.examine_unplacedFull hlook h)⟩
  | deck d =>
    cases hserves : c.serves d with
    | false => exact ⟨_, .inr (ManifestStore.examine_unserved hlook hserves)⟩
    | true =>
      by_cases h : ∀ k x, e.mark = .self k x → x = d
      · exact ⟨none, .inl ⟨_, _, ManifestStore.examine_served hlook hserves h⟩⟩
      · simp only [not_forall] at h
        obtain ⟨k, x, hmark, hx⟩ := h
        exact ⟨some _, .inl ⟨_, _, ManifestStore.examine_remapped hlook hserves hmark hx⟩⟩

/-- R80: what an examination leaves, whatever its case. -/
theorem ManifestStore.examine_eq (c : NodeConfig) (e : TagEntry) (m : ManifestStore) :
    ∃ (m' : ManifestStore) (lost : Option MisplacedReport), m.examine c e = ⟨m', lost.toList⟩ ∧ m.keepsRest m'
      ∧ (∀ x, x ≠ e.tag → m'.entry x = m.entry x) ∧ m'.counters.sweepsCompleted = m.counters.sweepsCompleted := by
  obtain ⟨lost, ⟨placement, mark, h⟩ | h⟩ := m.examine_cases c e
  · exact ⟨_, lost, h, by simp,
      fun x hx => ManifestStore.put_entry_of_ne (e := { e with placement := placement, mark := mark }) hx m, by simp⟩
  · exact ⟨_, lost, h, by simp, fun x hx => ManifestStore.drop_entry_of_ne hx m, by simp⟩

theorem StoreChange.eq_of_reports {x : StoreChange} {lost lost' : Option MisplacedReport} (h : x = ⟨m, lost.toList⟩)
    (h' : x = ⟨m', lost'.toList⟩) : m = m' ∧ lost = lost' := by
  obtain ⟨hstore, hreports⟩ := StoreChange.mk.inj (h.symm.trans h')
  have hhead := congrArg List.head? hreports
  rw [Option.head?_toList, Option.head?_toList] at hhead
  exact ⟨hstore, hhead⟩

/-! ## What an examination does to the table and the entry's record -/

section
variable (h : m.sliceOk) (hold : m.entry e.tag = some e)
include h hold

theorem ManifestStore.sliceOk.putEntry_eq_map {new : TagEntry} (htag : new.tag = e.tag) {f : TagEntry → TagEntry}
    (hf : f e = new) : putEntry new m.table = m.table.map fun x => if x.tag = e.tag then f x else x := by
  rw [putEntry_eq, ← htag]
  exact putByKey_eq_map h.table_sorted (htag ▸ hold) hf

/-- R80: an entry placed keeps its mark and its cabin's record. -/
theorem ManifestStore.sliceOk.put_placement (placement : Placement) :
    m.put { e with placement := placement } =
      m.withTable (m.table.map fun x => if x.tag = e.tag then { x with placement := placement } else x) := by
  rw [ManifestStore.put_unmarked (e := { e with placement := placement }) h hold rfl rfl,
    h.putEntry_eq_map hold (new := { e with placement := placement }) rfl (f := fun x => { x with placement := placement }) rfl]

theorem ManifestStore.sliceOk.put_unmark_table (placement : Placement) :
    (m.put { e with placement := placement, mark := .none }).table =
      m.table.map fun x => if x.tag = e.tag then { x with placement := placement, mark := .none } else x := by
  rw [ManifestStore.put_eq, ManifestStore.recount_table]
  exact h.putEntry_eq_map hold (new := { e with placement := placement, mark := .none }) rfl
    (f := fun x => { x with placement := placement, mark := .none }) rfl

/-- R69, R80: a mark that goes is one piece less delivered of its cabin. -/
theorem ManifestStore.sliceOk.put_unmark_cabin (hmark : e.mark ≠ .none) (placement : Placement) {r : CabinRecord}
    (hr : m.cabin e.cabin = some r) :
    (m.put { e with placement := placement, mark := .none }).cabin e.cabin = some { r with delivered := r.delivered - 1 } := by
  obtain ⟨-, hdelivered, hle⟩ := h.record_eq hr
  have hmarked : e.marked = true := by simpa [TagEntry.marked] using hmark
  have hpos : 1 ≤ m.markedIn e.cabin :=
    List.countP_pos_iff.mpr ⟨e, ManifestStore.entry_mem hold, by rw [hmarked, beq_self_eq_true]; rfl⟩
  rw [h.put_cabin (e := { e with placement := placement, mark := .none }) (d := r.delivered - 1) hold rfl hr ?_,
    max_eq_left (by omega)]
  rw [hmarked]
  show r.delivered - 1 + 1 = r.delivered + 0
  omega

end

end

/-! ## SWEEP_EXAMINATION -/

section
variable {s : State} {last : Nat}

theorem exec_sweepExamination (hrun : s.running = true) (hsweep : s.ms.sweep = some last) :
    exec .sweepExamination s = .next (s.examineNext last) := by
  refine congrArg Host.Outcome.next ?_
  simp [hsweep, hrun]

theorem exec_sweepExamination_idle (hsweep : s.ms.sweep = none) : exec .sweepExamination s = .next s := by
  refine congrArg Host.Outcome.next ?_
  simp [hsweep]

theorem State.examineNext_none (h : ∀ x ∈ s.ms.table, x.tag ≤ last) :
    s.examineNext last = { s with ms := { s.ms with
      sweep := none, counters := { s.ms.counters with sweepsCompleted := s.ms.counters.sweepsCompleted + 1 } } } := by
  rw [State.examineNext, ManifestStore.nextToExamine_eq_none.mpr h]
  exact congrArg (fun m => { s with ms := m }) (ManifestStore.advanceSweep_last h)

/-- A report given is no concern of the sweep's place. -/
theorem State.misplacedGiven_advanceSweep (m : ManifestStore) (lost : Option MisplacedReport) (last : Nat) :
    (State.misplacedGiven { s with ms := m } lost).onMs (ManifestStore.advanceSweep last) =
      State.misplacedGiven { s with ms := m.advanceSweep last } lost := by
  cases lost with
  | none => rfl
  | some r =>
    exact congrArg (fun m' => { State.misplacedGiven { s with ms := m } (some r) with ms := m' })
      (ManifestStore.advanceSweep_reported last m)

theorem State.examineNext_some {e : TagEntry} (hnext : s.ms.nextToExamine last = some e) {m : ManifestStore}
    {lost : Option MisplacedReport} (h : s.ms.examine s.config e = ⟨m, lost.toList⟩) :
    s.examineNext last = State.misplacedGiven { s with ms := m.advanceSweep e.tag } lost := by
  rw [State.examineNext, hnext]
  exact (congrArg (State.onMs · _) (State.commitStores_eq h)).trans (State.misplacedGiven_advanceSweep ..)

end

end Sys2Proof.Machine

end

section
/-! SUPPORT. The PURGE (R82, R85, R86): the stores, the log and the closed-deck set emptied, and the outlets of the decks that
open derived anew (R130 to R132). -/

open Sys2Proof

namespace Sys2Proof.Machine

/-! ## Outlets of decks that open -/

/-- R131: with no deck closed an outlet's state is the one before or one that drops nothing. -/
theorem outletStateOf_opened (role : OutletRole) (o : OutletRecord) (closed : List Nat) :
    outletStateOf role o [] = outletStateOf role o closed ∨ (outletStateOf role o []).drops = false := by
  cases hjam : o.jam with
  | true => exact .inl (by simp [outletStateOf, hjam])
  | false =>
    cases hfault : (o.gaugeFault || o.actuatorFault) with
    | true => exact .inl (by simp [outletStateOf, hfault])
    | false =>
      refine .inr ?_
      cases role <;> cases hlatch : o.fullLatch <;> simp [outletStateOf, hjam, hfault, hlatch, OutletState.drops]

/-- R131: an outlet whose deck was not closed has the same state with no deck closed. -/
theorem outletStateOf_unclosed {role : OutletRole} {closed : List Nat} (h : ∀ d, role = .deck d → d ∉ closed) (o : OutletRecord) :
    outletStateOf role o [] = outletStateOf role o closed := by
  cases role with
  | stray => rfl
  | deck d => simp [outletStateOf, h d rfl]

/-- R131 to R133: the node once the state of a DECK-role outlet has been derived and no commitment is dropped. -/
theorem State.rederive_undropped {s : State} {k : OutletNo} {d : Nat} {o : OutletRecord} (ho : s.om.outlet k = o)
    (hd : (s.config.outlet k).deckServed = some d) {new : OutletState}
    (hnew : outletStateOf (s.config.outlet k).role o s.om.closed = new) (h : new = o.state ∨ new.drops = false) (first : Bool) :
    ∃ counters hlc, s.rederive k first = { s with
      om := { s.om with
        outlets := s.om.outlets.set k { o with state := new, summary := summaryOf (s.config.outlet k) new o.reading }
        counters := counters }
      hlc := hlc } := by
  have hset : s.rederive k first = (s.onOm (OutletMonitor.setOutlet k { o with state := new })).summarise k first := by
    unfold State.rederive
    simp only [ho, hnew]
    by_cases hsame : new = o.state
    · rw [if_pos hsame, hsame, ← ho]
      show s.summarise k first = (s.onOm (OutletMonitor.setOutlet k (s.om.outlet k))).summarise k first
      simp only [State.onOm, OutletMonitor.setOutlet, OutletMonitor.outlet, PerOutlet.set_get]
    · rw [if_neg hsame, if_neg (by simp [h.resolve_left hsame])]
  rw [hset, State.summarise_eq]
  simp only [State.onOm_config, hd, State.onOm_om, OutletMonitor.outlet_setOutlet]
  simp only [State.onOm, OutletMonitor.setOutlet, PerOutlet.set_set]
  exact ⟨_, _, rfl⟩

/-! ## The closed-deck set emptied (R130) -/

/-- R131, R132: an outlet stands as it is derived where its record, its role and the closed-deck set are those of one that
does. -/
theorem State.outletOk.congr {s t : State} {k : OutletNo} (h : s.outletOk k) (hconfig : t.config = s.config)
    (houtlet : t.om.outlet k = s.om.outlet k) (hclosed : t.om.closed = s.om.closed) : t.outletOk k := by
  unfold State.outletOk
  rw [hconfig, houtlet, hclosed]
  exact h

theorem State.outletsOk_of_running {s : State} (h : s.running = true) :
    s.outletsOk ↔ ∀ k, (s.config.outlet k).fitted = true → s.outletOk k :=
  iff_of_eq (if_pos h)

theorem State.outletOk_of_outlet {s : State} {k : OutletNo} {o : OutletRecord} (houtlet : s.om.outlet k = o)
    (hstate : o.state = outletStateOf (s.config.outlet k).role o s.om.closed)
    (hsummary : ∀ d, (s.config.outlet k).deckServed = some d → o.summary = summaryOf (s.config.outlet k) o.state o.reading) :
    s.outletOk k := by
  unfold State.outletOk
  rw [houtlet]
  exact ⟨hstate, hsummary⟩

/-- R130: the outlets of the decks that open are being derived anew: those of `done` have been, the others stand as they did,
and the rest of the node is as it was. -/
structure State.Reopening (s t : State) (done : List OutletNo) : Prop where
  frame   : ∃ outlets counters hlc, t = { s with
    om := { s.om with closed := [], outlets := outlets, counters := counters }, hlc := hlc }
  reading : ∀ k, (t.om.outlet k).reading = (s.om.outlet k).reading
  derived : ∀ k ∈ done, (s.config.outlet k).fitted = true → t.outletOk k
  left    : ∀ k ∉ done, t.om.outlet k = s.om.outlet k

section
variable {s t : State} {done : List OutletNo} {k : OutletNo}

theorem State.Reopening.start (s : State) : s.Reopening (s.onOm fun m => { m with closed := [] }) [] :=
  ⟨⟨_, _, _, rfl⟩, fun _ => rfl, nofun, fun _ _ => rfl⟩

/-- R131: an outlet whose deck was not closed stands as it is derived. -/
theorem State.Reopening.outletOk_unclosed (h : s.Reopening t done) (hk : k ∉ done) (hok : s.outletOk k)
    (hrole : ∀ d, (s.config.outlet k).role = .deck d → d ∉ s.om.closed) : t.outletOk k := by
  have houtlet := h.left k hk
  obtain ⟨outlets, counters, hlc, rfl⟩ := h.frame
  obtain ⟨hstate, hsummary⟩ := hok
  unfold State.outletOk
  rw [houtlet]
  exact ⟨hstate.trans (outletStateOf_unclosed hrole _).symm, hsummary⟩

theorem State.Reopening.turn (h : s.Reopening t done) (hk : k ∉ done) (hok : (s.config.outlet k).fitted = true → s.outletOk k) :
    s.Reopening (t.rederiveAmong s.om.closed k) (k :: done) := by
  have hconfig : t.config = s.config := by
    obtain ⟨outlets, counters, hlc, rfl⟩ := h.frame
    rfl
  by_cases hserved : ∃ d, (s.config.outlet k).deckServed = some d ∧ d ∈ s.om.closed
  · obtain ⟨d, hd, hclosed⟩ := hserved
    obtain ⟨hstate, -⟩ := hok (OutletConfig.deckServed_eq_some.mp hd).1
    have hnew := outletStateOf_opened (s.config.outlet k).role (s.om.outlet k) s.om.closed
    rw [← hstate] at hnew
    have hopen : t.om.closed = [] := by
      obtain ⟨outlets, counters, hlc, rfl⟩ := h.frame
      rfl
    obtain ⟨counters, hlc, hturn⟩ :=
      State.rederive_undropped (s := t) (h.left k hk) (hconfig ▸ hd) (by rw [hconfig, hopen]) hnew false
    rw [State.rederiveAmong_of_served (hconfig ▸ hd) hclosed, hturn]
    have hself : ∀ o, (t.om.outlets.set k o).get k = o := fun o => PerOutlet.get_set_self ..
    have hother : ∀ j o, j ≠ k → (t.om.outlets.set k o).get j = t.om.outlet j := fun j o hj => PerOutlet.get_set_other _ o hj
    refine ⟨?_, fun j => ?_, fun j hj hfitted => ?_, fun j hj => ?_⟩
    · obtain ⟨outlets', counters', hlc', ht⟩ := h.frame
      exact ⟨_, _, _, by rw [ht]⟩
    · by_cases hj : j = k
      · subst hj
        exact (congrArg OutletRecord.reading (hself _)).trans rfl
      · exact (congrArg OutletRecord.reading (hother j _ hj)).trans (h.reading j)
    · by_cases hjk : j = k
      · subst hjk
        refine State.outletOk_of_outlet (hself _) ?_ fun _ _ => rfl
        show _ = outletStateOf (t.config.outlet j).role (s.om.outlet j) t.om.closed
        rw [hconfig, hopen]
      · exact (h.derived j ((List.mem_cons.mp hj).resolve_left hjk) hfitted).congr rfl (hother j _ hjk) rfl
    · rw [List.mem_cons, not_or] at hj
      exact (hother j _ hj.1).trans (h.left j hj.2)
  · have hunserved : ∀ d, (s.config.outlet k).deckServed = some d → d ∉ s.om.closed :=
      fun d hd hclosed => hserved ⟨d, hd, hclosed⟩
    rw [State.rederiveAmong_of_unserved (by rwa [hconfig])]
    refine ⟨h.frame, h.reading, fun j hj hfitted => ?_, fun j hj => h.left j fun hdone => hj (List.mem_cons_of_mem _ hdone)⟩
    rcases List.mem_cons.mp hj with rfl | hj
    · exact h.outletOk_unclosed hk (hok hfitted) fun d hrole =>
        hunserved d (OutletConfig.deckServed_eq_some.mpr ⟨hfitted, hrole⟩)
    · exact h.derived j hj hfitted

theorem State.Reopening.turns {l : List OutletNo} (h : s.Reopening t done) (hl : l.Nodup) (hnew : ∀ k ∈ l, k ∉ done)
    (hok : ∀ k, (s.config.outlet k).fitted = true → s.outletOk k) :
    s.Reopening (l.foldl (State.rederiveAmong s.om.closed) t) (l.reverse ++ done) := by
  induction l generalizing t done with
  | nil => exact h
  | cons k ks ih =>
    obtain ⟨hk, hks⟩ := List.nodup_cons.mp hl
    rw [List.reverse_cons, List.append_assoc, List.singleton_append]
    refine ih (h.turn (hnew k List.mem_cons_self) (hok k)) hks fun j hj => ?_
    rw [List.mem_cons, not_or]
    exact ⟨fun hjk => hk (hjk ▸ hj), hnew j (List.mem_cons_of_mem _ hj)⟩

/-- R130: the closed-deck set is emptied and every outlet stands as it is then derived. -/
theorem State.clearClosedDecks_reopening (hok : ∀ k, (s.config.outlet k).fitted = true → s.outletOk k) :
    s.Reopening s.clearClosedDecks OutletNo.all.reverse := by
  have h := (State.Reopening.start s).turns OutletNo.nodup_all (fun _ _ => List.not_mem_nil) hok
  rwa [List.append_nil] at h

theorem State.clearClosedDecks_open (h : s.om.closed = []) : s.clearClosedDecks = s := by
  have hsame : (s.onOm fun m => { m with closed := [] }) = s := by
    show ({ s with om := { s.om with closed := [] } } : State) = s
    rw [← h]
  rw [State.clearClosedDecks, h, State.rederiveDecks_nil, hsame]

end

/-! ## PURGE and PURGE_COMPLETE -/

section
variable {s : State}

theorem State.clearLog_eq (s : State) : s.clearLog = { s with
    su := { s.su with ring := [], timers := [] }
    nc := { s.nc with logMark := s.nc.logMark || !s.su.ring.isEmpty } } := by
  unfold State.clearLog
  cases h : s.su.ring.isEmpty with
  | true => simp [State.onSu]
  | false => simp [State.onSu, State.markLog, State.onNc]

/-- R82, R86: a purge starts or restarts, with no telegram held. -/
theorem ManifestStore.holdOk.purge {m : ManifestStore} (h : m.holdOk) :
    (if m.purgeRunning then m.restartPurge else m.startPurge) =
    { m with
      table := [], cabins := [], map := [], purgePending := true, sweep := none, purgeRunning := true, hold := []
      counters := { m.counters with heldDiscarded := m.counters.heldDiscarded + BitVec.ofNat 32 m.hold.length } } := by
  obtain ⟨-, hidle⟩ := h
  cases hpurge : m.purgeRunning with
  | true => rfl
  | false => simp [ManifestStore.startPurge, hidle hpurge]

/-- R82, R164: the node once a PURGE has emptied the stores and the log. -/
def State.purged (s : State) : State :=
  { s with
    ms := { s.ms with
      table := [], cabins := [], map := [], purgePending := true, sweep := none, purgeRunning := true, hold := []
      counters := { s.ms.counters with heldDiscarded := s.ms.counters.heldDiscarded + BitVec.ofNat 32 s.ms.hold.length } }
    su := { s.su with ring := [], timers := [] }
    nc := { s.nc with logMark := s.nc.logMark || !s.su.ring.isEmpty } }

theorem State.takePurge_eq (h : s.ms.holdOk) : s.takePurge = s.purged.clearClosedDecks.markMap := by
  rw [State.takePurge, State.clearLog_eq]
  simp only [State.onMs, h.purge]
  rfl

theorem exec_purge {rx : Rx} {p : List Byte} (h : s.delivers classPurge rx p) :
    exec (.purge rx p) s = .next (s.takeTelegram rx).takePurge :=
  congrArg Host.Outcome.next (State.receive_of_delivers h _)

/-- R85: the purge completes, and the telegrams held meanwhile follow. -/
theorem exec_purgeComplete (hrun : s.running = true) (hpurge : s.ms.purgeRunning = true) :
    exec .purgeComplete s = .next s.completePurge :=
  congrArg Host.Outcome.next (if_pos (by rw [hrun, hpurge]; rfl))

theorem exec_purgeComplete_idle (hpurge : s.ms.purgeRunning = false) : exec .purgeComplete s = .next s :=
  congrArg Host.Outcome.next (if_neg (by simp [hpurge]))

end

end Sys2Proof.Machine

open Sys2Proof.Machine

/-- Settles O53: an examination by its cases, the purge by what it empties, and its completion. -/
theorem sweepAndPurgeTaken : Obligations.SweepAndPurgeTaken := by
  unfold Obligations.SweepAndPurgeTaken
  refine ⟨?_, ?_, fun s => exec_sweepExamination_idle, ?_, ?_, fun s => exec_purgeComplete_idle⟩
  · rintro s last e look hrun hsweep hcap hcab he hlast hlowest rfl
    have hslice : s.ms.sliceOk := ⟨hcap, hcab⟩
    have hold := ManifestStore.entry_of_mem hslice.table_sorted he
    obtain ⟨m, lost, hexamine, hkeeps, hothers, hcompleted⟩ := s.ms.examine_eq s.config e
    have hchange : ∀ {m' lost'}, s.ms.examine s.config e = ⟨m', lost'.toList⟩ → m = m' ∧ lost = lost' :=
      StoreChange.eq_of_reports hexamine
    have hplace := (ManifestStore.tag_eq_getLast hslice.table_sorted he).trans (ManifestStore.above_iff hothers).symm
    rw [exec_sweepExamination hrun hsweep, State.examineNext_some
      (ManifestStore.nextToExamine_eq_some hslice.table_sorted he hlast hlowest) hexamine]
    obtain ⟨n, hn⟩ := hkeeps.advanceSweep e.tag
    refine ⟨_, lost, _, rfl, rfl, hn ▸ (ManifestStore.keepsRest_tally ..).mpr hkeeps, fun h => ?_, fun h => ?_,
      fun h => ?_, fun h => ?_, fun d hlook hserves => ⟨fun hmark => ?_, fun k x hmark hx => ?_⟩⟩
    · rw [ManifestStore.advanceSweep_last (hplace.mp h), hcompleted]
      exact ⟨rfl, rfl⟩
    · rw [ManifestStore.advanceSweep_more (mt hplace.mpr h)]
      exact ⟨rfl, hcompleted⟩
    · obtain ⟨rfl, rfl⟩ := hchange (ManifestStore.examine_removed h)
      rw [hn, ManifestStore.advanceSweep_sweepRemovals, ManifestStore.tally_counters, ManifestStore.drop_counters]
      exact ⟨((hslice.entryRemoved_drop he).tally _).tally _, rfl, rfl⟩
    · obtain ⟨rfl, rfl⟩ := hchange (lost' := none) (ManifestStore.examine_undecked h)
      rw [ManifestStore.advanceSweep_table, ManifestStore.advanceSweep_cabins, hslice.put_placement hold]
      exact ⟨rfl, rfl, rfl⟩
    · obtain ⟨rfl, rfl⟩ := hchange (lost' := none) (ManifestStore.examine_served hlook hserves hmark)
      rw [ManifestStore.advanceSweep_table, ManifestStore.advanceSweep_cabins, hslice.put_placement hold]
      exact ⟨rfl, rfl, rfl⟩
    · obtain ⟨rfl, rfl⟩ := hchange (lost' := some _) (ManifestStore.examine_remapped hlook hserves hmark hx)
      rw [ManifestStore.advanceSweep_table, ManifestStore.advanceSweep_cabin, hslice.put_unmark_table hold]
      exact ⟨rfl, fun r hr => hslice.put_unmark_cabin hold (by simp [hmark]) _ hr, rfl⟩
  · intro s last hrun hsweep h
    rw [exec_sweepExamination hrun hsweep, State.examineNext_none h]
  · rintro s u rx p hdelivers rfl hok - hhold
    rw [exec_purge hdelivers, State.takePurge_eq (s := s.takeTelegram rx) hhold]
    obtain ⟨hrun, -⟩ := hdelivers
    rw [State.outletsOk_of_running hrun] at hok
    have hreopening := State.clearClosedDecks_reopening (s := (s.takeTelegram rx).purged)
      fun k hk => (hok k hk).congr rfl rfl rfl
    have hopen : s.om.closed = [] → (s.takeTelegram rx).purged.clearClosedDecks.om = s.om
        ∧ (s.takeTelegram rx).purged.clearClosedDecks.hlc = (s.takeTelegram rx).hlc := fun h => by
      rw [State.clearClosedDecks_open (s := (s.takeTelegram rx).purged) h]
      exact ⟨rfl, rfl⟩
    have hderived := hreopening.derived
    have hreading := hreopening.reading
    obtain ⟨outlets, counters, hlc, hframe⟩ := hreopening.frame
    rw [hframe] at hderived hreading hopen ⊢
    refine ⟨_, rfl, rfl, rfl, rfl, rfl, ?_, rfl, rfl, hreading, fun h => ?_, rfl, rfl, rfl, rfl, rfl⟩
    · refine (State.outletsOk_of_running ?_).mpr fun k hk => ?_
      · exact hrun
      · exact (hderived k (List.mem_reverse.mpr (OutletNo.mem_all k)) hk).congr rfl rfl rfl
    · exact hopen h
  · exact fun s hrun hpurge => exec_purgeComplete hrun hpurge

end

section
/-! SUPPORT. The decision sequence (R95, R96): the entries found for a record's tags, and the steps of the table one after
another. -/

open Sys2Proof

namespace Sys2Proof.Machine

/-! ## What the steps ask (R95, R96) -/

/-- R95: the entry used is that of the first tag that has one. -/
theorem ManifestStore.found_head? (m : ManifestStore) (tags : List Nat) :
    (m.found tags).head? = tags.findSome? m.lookup := List.head?_filterMap

theorem cabinsConflict_of_forall {es : List TagEntry} {cabin : Nat} (h : ∀ e ∈ es, e.cabin = cabin) :
    cabinsConflict es = false := by
  match es, h with
  | [], _ => rfl
  | [_], _ => rfl
  | a :: b :: _, h => simp [cabinsConflict, h a, h b]

theorem TagEntry.marked_iff (e : TagEntry) : e.marked = true ↔ e.mark ≠ .none := bne_iff_ne

theorem ManifestStore.cabinComplete_iff (m : ManifestStore) (cabin : Nat) :
    m.cabinComplete cabin = true ↔ ∃ c, m.cabin cabin = some c ∧ c.delivered = c.expected := by
  unfold ManifestStore.cabinComplete
  cases m.cabin cabin with
  | none => simp
  | some r => simp [CabinRecord.complete]

theorem OutletMonitor.betterPeer_iff (m : OutletMonitor) (address deck reading : Nat) :
    m.betterPeer address deck reading = true ↔
      ∃ v ∈ m.view, v.deck = deck ∧ v.peer ≠ address ∧ v.summary = .openLow ∧ v.reading < reading := by
  simp [OutletMonitor.betterPeer, and_assoc]

/-! ## Steps 1 to 5 -/

section
variable {s : State} {k : OutletNo} {r : BagRecord}

theorem decideRoute_reason (h : r.reason ≠ none) :
    decideRoute s k r = strayDecision (s.config.outlet k) (s.om.outlet k) r.length :=
  if_pos (Option.isSome_iff_ne_none.mpr h)

theorem strayDecision_length (o : OutletConfig) (m : OutletRecord) (l : Nat) :
    strayDecision o m (some l) = if o.role = .stray ∧ m.state = .opened ∧ l ≤ o.maxLength then .commitStray else .pass := by
  simp only [strayDecision, ← ite_and, and_assoc]

theorem strayDecision_noLength (o : OutletConfig) (m : OutletRecord) :
    strayDecision o m none = if o.role = .stray ∧ m.state = .opened then .passNoLength else .pass := rfl

variable (hreason : r.reason = none)
include hreason

theorem decideRoute_strayOutlet (hrole : (s.config.outlet k).role = .stray) : decideRoute s k r = .pass := by
  simp [decideRoute, hreason, hrole]

variable {deck : Nat} (hrole : (s.config.outlet k).role = .deck deck)
include hrole

theorem decideRoute_notFound (h : s.ms.found r.tags = []) : decideRoute s k r = .pass := by
  simp [decideRoute, hreason, hrole, h, cabinsConflict]

theorem decideRoute_conflict (h : cabinsConflict (s.ms.found r.tags) = true) :
    decideRoute s k r = .markStray .tagConflict := by
  simp [decideRoute, hreason, hrole, h]

theorem decideRoute_entry {e : TagEntry} (hconflict : cabinsConflict (s.ms.found r.tags) = false)
    (he : (s.ms.found r.tags).head? = some e) : decideRoute s k r = entryDecision s k deck r e := by
  obtain ⟨es, hes⟩ := List.head?_eq_some_iff.mp he
  rw [hes] at hconflict
  simp [decideRoute, hreason, hrole, hes, hconflict]

end

/-! ## Steps 6 to 14 -/

section
variable {s : State} {k : OutletNo} {deck : Nat} {r : BagRecord} {e : TagEntry}

theorem entryDecision_contested (h : lookupCabin s.ms.map e.cabin = .contested) :
    entryDecision s k deck r e = .markStray .mapConflict := by
  simp only [entryDecision, h]

/-- R96: a cabin without a deck, or of another outlet's deck, is not diverted here. -/
theorem entryDecision_elsewhere (hcontested : lookupCabin s.ms.map e.cabin ≠ .contested)
    (hdeck : lookupCabin s.ms.map e.cabin ≠ .deck deck) : entryDecision s k deck r e = .pass := by
  unfold entryDecision
  cases h : lookupCabin s.ms.map e.cabin with
  | contested => exact absurd h hcontested
  | unmapped => rfl
  | deck d => exact if_pos fun hd : d = deck => hdeck (h.trans (congrArg CabinLookup.deck hd))

theorem entryDecision_here (h : lookupCabin s.ms.map e.cabin = .deck deck) :
    entryDecision s k deck r e =
      if deck ∈ s.om.closed then .markStray .deckClosed
      else if e.mark ≠ .none then .markStray .duplicate
      else if s.ms.cabinComplete e.cabin = true then .markStray .excess
      else outletDecision s k deck r e := by
  simp only [entryDecision, h, ne_eq, not_true_eq_false, if_false, List.contains_iff_mem, TagEntry.marked_iff]

theorem outletDecision_noLength (h : r.length = none) : outletDecision s k deck r e = .passNoLength := by
  simp only [outletDecision, h]

theorem outletDecision_length {l : Nat} (h : r.length = some l) :
    outletDecision s k deck r e =
      if (s.config.outlet k).maxLength < l ∨ (e.oversize = true ∧ (s.config.outlet k).longCapable = false) then .pass
      else if (s.om.outlet k).state ≠ .opened then .pass
      else if (s.config.outlet k).shareLimit ≤ (s.om.outlet k).reading ∧ r.deferred = false
          ∧ s.om.betterPeer s.config.address deck (s.om.outlet k).reading = true then .deferBag
      else .commitDeck e.tag e.cabin deck := by
  simp only [outletDecision, h]

end

end Sys2Proof.Machine

open Sys2Proof.Machine

/-- Settles O34: the table's lines in order, each step's question put as the statement puts it. -/
theorem decisionTable : Obligations.DecisionTable := by
  unfold Obligations.DecisionTable
  rintro s k r o m rfl rfl -
  refine ⟨fun hreason l hl => ?_, fun hreason hl => ?_, decideRoute_strayOutlet, fun deck hreason hrole =>
    ⟨fun htags => ?_, fun hnone => ?_, fun a b e f htags ha hb hne => ?_, fun e he hsame => ?_⟩⟩
  · rw [decideRoute_reason hreason, hl, strayDecision_length]
  · rw [decideRoute_reason hreason, hl, strayDecision_noLength]
  · exact decideRoute_notFound hreason hrole (by rw [htags]; rfl)
  · exact decideRoute_notFound hreason hrole (List.filterMap_eq_nil_iff.mpr hnone)
  · refine decideRoute_conflict hreason hrole ?_
    rw [htags, ManifestStore.found, List.filterMap_cons_some ha, List.filterMap_cons_some hb]
    exact bne_iff_ne.mpr hne
  · have hcabins : ∀ f ∈ s.ms.found r.tags, f.cabin = e.cabin := fun f hf => by
      obtain ⟨x, hx, hlookup⟩ := List.mem_filterMap.mp hf
      exact hsame x hx f hlookup
    rw [decideRoute_entry hreason hrole (cabinsConflict_of_forall hcabins) ((s.ms.found_head? r.tags).trans he)]
    by_cases hcontested : lookupCabin s.ms.map e.cabin = .contested
    · rw [if_pos hcontested, entryDecision_contested hcontested]
    by_cases hdeck : lookupCabin s.ms.map e.cabin = .deck deck
    · rw [if_neg hcontested, if_neg (not_not.mpr hdeck), entryDecision_here hdeck]
      refine if_congr Iff.rfl rfl (if_congr Iff.rfl rfl (if_congr (s.ms.cabinComplete_iff _) rfl ?_))
      cases hlength : r.length with
      | none => exact outletDecision_noLength hlength
      | some l =>
        rw [outletDecision_length hlength]
        exact if_congr Iff.rfl rfl (if_congr Iff.rfl rfl
          (if_congr (and_congr_right' (and_congr_right' (s.om.betterPeer_iff ..))) rfl rfl))
    · rw [if_neg hcontested, if_pos hdeck, entryDecision_elsewhere hcontested hdeck]

end

section
/-! SUPPORT. Arm points (R93 to R100): the point's cases, and the commitment that a decision to divert makes. -/

open Sys2Proof

namespace Sys2Proof.Machine

/-! ## Arm points (R93, R94) -/

theorem exec_armPoint {s : State} (hrun : s.running = true) (n : Count) (k : OutletNo) :
    exec (.armPoint n k) s = .next (s.takeArmPoint n k) := exec_command hrun (.arm n k)

section
variable {s : State} {n : Count} {k : OutletNo} {p : ArmPoint} {r : BagRecord}

theorem State.takeArmPoint_unregistered (h : ∀ p ∈ s.dc.armPoints, ¬ (p.record = n ∧ p.outlet = k)) :
    s.takeArmPoint n k = s := by
  have hnone : s.dc.armPoints.find? (fun p => p.record == n && p.outlet == k) = none :=
    List.find?_eq_none.mpr fun p hp => by simpa using h p hp
  simp only [State.takeArmPoint, hnone]

variable (hp : s.dc.armPoints.find? (fun p => p.record == n && p.outlet == k) = some p)
include hp

theorem State.takeArmPoint_early (hahead : hasReached s.st.encoderCount p.count = false) : s.takeArmPoint n k = s := by
  simp [State.takeArmPoint, hp, hahead]

variable (hreached : hasReached s.st.encoderCount p.count = true) (hr : s.st.record n = some r)
include hreached hr

/-- R94: in JOINING, or where the record holds a commitment, the point is spent and no more. -/
theorem State.takeArmPoint_spent (h : s.nc.state = .joining ∨ r.commitment ≠ none) :
    s.takeArmPoint n k = s.onDc (DivertController.spend n k) := by
  have h : s.nc.state = .joining ∨ r.commitment.isSome = true := by rwa [Option.isSome_iff_ne_none]
  simp only [State.takeArmPoint, hp, hreached, hr, if_pos h, if_true]

/-- R94: outside JOINING a record without a commitment is evaluated. -/
theorem State.takeArmPoint_evaluated (hstate : s.nc.state ≠ .joining) (hfree : r.commitment = none) :
    s.takeArmPoint n k = (s.onDc (DivertController.spend n k)).evaluate k r := by
  have h : ¬ (s.nc.state = .joining ∨ r.commitment.isSome = true) := by simp [hstate, hfree]
  simp only [State.takeArmPoint, hp, hreached, hr, if_neg h, if_true]

end

/-! ## The decision carried out (R97 to R100) -/

/-- R95: the decision reads nothing of the Divert Controller. -/
theorem decideRoute_onDc (s : State) (f : DivertController → DivertController) (k : OutletNo) (r : BagRecord) :
    decideRoute (s.onDc f) k r = decideRoute s k r := rfl

/-- R93, R94: the node once an arm point is spent and its evaluation counted. -/
def State.evaluating (s : State) (n : Count) (k : OutletNo) : State :=
  s.onDc fun d => (d.spend n k).tally fun x => { x with evaluations := x.evaluations + 1 }

theorem State.evaluate_spent (s : State) (n : Count) (k : OutletNo) (r : BagRecord) :
    (s.onDc (DivertController.spend n k)).evaluate k r = (s.evaluating n k).carryOut k r (decideRoute s k r) := by
  rw [State.evaluate, decideRoute_onDc]
  rfl

/-- R38: a notice for a record held changes the records of its number. -/
theorem State.onSt_notice {s : State} {n : Count} {r : BagRecord} (hr : s.st.record n = some r)
    (f : BagRecord → BagRecord) : s.onSt (SectionTracker.notice n f) = { s with st := s.trackerWith n f } :=
  congrArg (fun t => { s with st := t }) (State.notice_eq_trackerWith hr f)

/-- R97, R146: the record receives the reason, unless it holds one. -/
theorem State.carryOut_markStray {s : State} {r : BagRecord} (hr : s.st.record r.number = some r) (k : OutletNo)
    (reason : StrayReason) :
    s.carryOut k r (.markStray reason) =
      { s with st := s.trackerWith r.number fun x => { x with reason := some (x.reason.getD reason) } } := by
  have hgives : BagRecord.giveReason reason = fun x => { x with reason := some (x.reason.getD reason) } :=
    funext fun x => by rw [BagRecord.giveReason_eq, Option.or_some]
  rw [State.carryOut, State.onSt_notice hr, hgives]

/-- R99: the deferral is counted and the record's flag set. -/
theorem State.carryOut_deferBag {s : State} {r : BagRecord} (hr : s.st.record r.number = some r) (k : OutletNo) :
    s.carryOut k r .deferBag = { s with
      dc := s.dc.tally fun x => { x with deferrals := x.deferrals + 1 }
      st := s.trackerWith r.number fun x => { x with deferred := true } } :=
  State.onSt_notice (s := s.onDc _) hr _

/-- R100: the node once a commitment is made and the ST has been told. -/
def State.committed (s : State) (k : OutletNo) (r : BagRecord) (kind : CommitmentKind) : State :=
  (s.onDc fun d =>
      { d with commitments := d.commitments ++ [commitmentFor s k r kind] }.tally fun x =>
        { x with
          commitments := x.commitments + 1
          leadClamped := if (s.config.outlet k).arm < unclampedLead s.st.speed (s.config.outlet k).leadMs then
            x.leadClamped + 1 else x.leadClamped }).onSt
    (SectionTracker.notice r.number (commitmentFor s k r kind).onRecord)

theorem State.committed_st {s : State} {r : BagRecord} (hr : s.st.record r.number = some r) (k : OutletNo)
    (kind : CommitmentKind) :
    (s.committed k r kind).st = s.trackerWith r.number (commitmentFor s k r kind).onRecord :=
  State.notice_eq_trackerWith hr _

/-- R91: the commitment made is the record's, where it had none. -/
theorem State.committed_commitmentOf {s : State} {k : OutletNo} {r : BagRecord} {kind : CommitmentKind}
    (hnone : s.dc.commitmentOf r.number = none) :
    (s.committed k r kind).dc.commitmentOf r.number = some (commitmentFor s k r kind) := by
  have hmine : (commitmentFor s k r kind).record = r.number := rfl
  refine (List.find?_append ..).trans ?_
  rw [show s.dc.commitments.find? _ = none from hnone, Option.none_or]
  exact List.find?_cons_of_pos (beq_iff_eq.mpr hmine)

/-- R100: a decision to divert makes the commitment, and takes its fire point as FIRE_POINT would. -/
theorem State.carryOut_commits {s : State} {k : OutletNo} {r : BagRecord} {d : Decision} {kind : CommitmentKind}
    (h : d = .commitStray ∧ kind = .stray ∨ ∃ tag cabin deck, d = .commitDeck tag cabin deck ∧ kind = .deck tag cabin deck) :
    s.carryOut k r d = (s.committed k r kind).takeFirePoint r.number := by
  rcases h with ⟨rfl, rfl⟩ | ⟨tag, cabin, deck, rfl, rfl⟩ <;> rfl

end Sys2Proof.Machine

open Sys2Proof.Machine

/-- Settles O35: the point's three cases, and of an evaluation each outcome of the decision. -/
theorem armPointTaken : Obligations.ArmPointTaken := by
  unfold Obligations.ArmPointTaken
  intro s n k hrun
  rw [exec_armPoint hrun]
  refine ⟨fun h => by rw [State.takeArmPoint_unregistered h], ?_⟩
  rintro p r points hp hr rfl
  refine ⟨fun hahead => by rw [State.takeArmPoint_early hp hahead], fun hreached h => ?_, ?_⟩
  · rw [State.takeArmPoint_spent hp hreached hr h]
    rfl
  rintro d v hreached hstate hfree rfl rfl
  rw [State.takeArmPoint_evaluated hp hreached hr hstate hfree, State.evaluate_spent]
  obtain rfl := SectionTracker.record_number hr
  refine ⟨fun h => ?_, fun h => ?_, fun reason h _ => ?_, fun h => ?_, ?_⟩
  · rw [h]; rfl
  · rw [h]; rfl
  · rw [h, State.carryOut_markStray (s := s.evaluating r.number k) hr]
    rfl
  · rw [h, State.carryOut_deferBag (s := s.evaluating r.number k) hr]
    rfl
  · rintro kind o lead fire hcommits rfl rfl rfl
    rw [State.carryOut_commits hcommits]
    have hrun' : ((s.evaluating r.number k).committed k r kind).running = true := hrun
    refine ⟨_, (s.evaluating r.number k).committed k r kind, rfl, (exec_command hrun' (.fire r.number)).symm, ?_, ?_⟩
    · exact State.onSt_notice (s := (s.evaluating r.number k).onDc _) hr _
    · intro hahead hnone
      refine State.takeFirePoint_early (State.committed_commitmentOf (s := s.evaluating r.number k) hnone) (.inr ?_)
      rw [State.committed_st (s := s.evaluating r.number k) hr]
      exact hahead
end

section
/-! SUPPORT. The lead and the counts it fixes (R101, R102): every count of a record is so many pulses after its leading
count, and what separates two of them is the difference in pulses. -/

open Sys2Proof

namespace Sys2Proof.Machine

/-! ## Pulses after a count (R5) -/

section
variable (x : Count) {a b : Nat}

theorem count_add_sub (hle : b ≤ a) : x + BitVec.ofNat 16 a - BitVec.ofNat 16 b = x + BitVec.ofNat 16 (a - b) := by
  bv_omega

theorem count_toNat_add_sub (ha : a < 65536) : (x + BitVec.ofNat 16 a - x).toNat = a := by
  bv_omega

theorem count_toNat_add_sub_add (hle : b ≤ a) (ha : a < 65536) :
    (x + BitVec.ofNat 16 a - (x + BitVec.ofNat 16 b)).toNat = a - b := by
  bv_omega

end

/-! ## The lead (R101) -/

theorem leadOf_le_arm (o : OutletConfig) (speed : Nat) : leadOf o speed ≤ o.arm := Nat.min_le_right ..

/-- R101: rounded to the nearest pulse, the lead is at most half a pulse above the speed times the lead time. -/
theorem leadOf_mul_le (o : OutletConfig) (speed : Nat) : leadOf o speed * 1000 ≤ speed * o.leadMs + 500 :=
  (Nat.mul_le_mul_right 1000 (Nat.min_le_left ..)).trans (Nat.div_mul_le_self ..)

/-- R101: below the arm distance the lead is less than half a pulse under the speed times the lead time. -/
theorem lt_leadOf_mul {o : OutletConfig} {speed : Nat} (h : leadOf o speed < o.arm) :
    speed * o.leadMs < leadOf o speed * 1000 + 500 := by
  have hrounded : leadOf o speed = (speed * o.leadMs + 500) / 1000 :=
    Nat.min_eq_left (Nat.le_of_lt (by simpa [leadOf, unclampedLead] using h))
  omega

/-! ## The counts (R33, R93, R102) -/

theorem armCountOf_eq {o : OutletConfig} (h : o.arm ≤ o.centre) (leading : Count) :
    armCountOf o leading = leading + BitVec.ofNat 16 (o.centre - o.arm) := count_add_sub _ h

theorem fireCountOf_eq {o : OutletConfig} {length lead : Nat} (h : lead ≤ o.centre + length / 2) (leading : Count) :
    fireCountOf o leading length lead = leading + BitVec.ofNat 16 (o.centre + length / 2 - lead) := count_add_sub _ h

theorem deadlineOf_add (o : OutletConfig) (leading : Count) (n : Nat) :
    deadlineOf o (leading + BitVec.ofNat 16 n) = leading + BitVec.ofNat 16 (n + o.confirm) := by
  rw [deadlineOf, BitVec.ofNat_add, BitVec.add_assoc]

theorem windowStartOf_eq {c : NodeConfig} (h : c.tolerance ≤ c.handoff) (leading : Count) :
    windowStartOf c leading = leading + BitVec.ofNat 16 (c.handoff - c.tolerance) := count_add_sub _ h

end Sys2Proof.Machine

open Sys2Proof.Machine

/-- Settles O36: with each count written as pulses after the leading count, the START checks bound every distance. -/
theorem leadAndFireCount : Obligations.LeadAndFireCount := by
  unfold Obligations.LeadAndFireCount
  rintro c k o leading length speed lead rfl hfitted harm hlength hplacement hspan rfl
  have hplace := (placementOk_iff c).mp hplacement k hfitted
  have hspan := (spanOk_iff c).mp hspan
  have hlead := leadOf_le_arm (c.outlet k) speed
  have hhalf : length / 2 ≤ (c.outlet k).maxLength / 2 := Nat.div_le_div_right hlength
  refine ⟨rfl, hlead, lt_leadOf_mul, leadOf_mul_le .., ?_⟩
  generalize leadOf (c.outlet k) speed = lead at hlead ⊢
  rw [fireCountOf_eq (by omega), armCountOf_eq (by omega), deadlineOf_add, windowStartOf_eq (by omega),
    count_toNat_add_sub_add _ (by omega) (by omega), count_toNat_add_sub _ (by omega), count_toNat_add_sub _ (by omega),
    count_toNat_add_sub _ (by omega)]
  refine ⟨?_, rfl, rfl, ?_⟩ <;> omega

end

section
/-! SUPPORT. The gauges (R120 to R125), the refresh rounds and the peer outlet view (R134, R136, R137, R140), and the telegrams of
Node Control (R141, R191 to R194): what each comes to, case by case. -/

open Sys2Proof

namespace Sys2Proof.Machine

/-! ## Readings (R120 to R125) -/

/-- R121: the sum of the codes of a reading. -/
theorem foldl_codes (codes : List (BitVec 10)) :
    codes.foldl (fun n c => n + c.toNat) 0 = (codes.map BitVec.toNat).sum := by
  rw [← List.foldl_map, List.sum_eq_foldl]

theorem readingOf_eq (averaging : Nat) (codes : List (BitVec 10)) :
    readingOf averaging codes =
      if codes.any (fun c => c == 0 || c == 1023) then 255 else (codes.map BitVec.toNat).sum / (4 * averaging) := by
  rw [readingOf, foldl_codes]
  rfl

/-- R120, R121: the mean of ten-bit codes over 4 is a byte. -/
theorem readingOf_le {averaging : Nat} {codes : List (BitVec 10)} (hlength : codes.length = averaging)
    (hpos : averaging ≠ 0) : readingOf averaging codes ≤ 255 := by
  have hcode : ∀ n ∈ codes.map BitVec.toNat, n ≤ 1023 := by
    intro n hn
    obtain ⟨c, -, rfl⟩ := List.mem_map.mp hn
    exact Nat.le_of_lt_succ c.isLt
  have hsum := List.sum_le_card_nsmul _ _ hcode
  rw [List.length_map, hlength, smul_eq_mul] at hsum
  rw [readingOf_eq]
  split
  · exact Nat.le_refl _
  · exact Nat.le_of_lt_succ ((Nat.div_lt_iff_lt_mul (by omega)).mpr (by omega))

/-- R123, R124: the full latch after a reading, as one choice. -/
theorem fullLatchOf_eq (c : OutletConfig) (o : OutletRecord) (reading : Nat) :
    fullLatchOf c o reading =
      if c.fullLimit ≤ reading then true
      else if o.firstPending = true ∨ reading ≤ c.clearLimit then false
      else o.fullLatch := by
  unfold fullLatchOf
  cases o.firstPending <;> simp

/-- R120 to R125, R131 to R133: the end of a reading is the outlet's record with the reading taken, settled. -/
theorem State.takeConversions_eq {s : State} (h : s.commitmentsHeld) (k : OutletNo) (codes : List (BitVec 10)) :
    s.takeConversions k codes =
      State.outletSettled { s with om := { s.om with
          pass := s.config.placeAfter k
          counters := { s.om.counters with
            faultedReadings :=
              if readingFaulted codes then s.om.counters.faultedReadings + 1 else s.om.counters.faultedReadings } } }
        k ((s.om.outlet k).takeReading (s.config.outlet k) (readingOf s.config.averaging codes) (readingFaulted codes))
        (s.om.outlet k).firstPending := by
  rw [← State.rederive_setOutlet]
  · unfold State.takeConversions
    cases readingFaulted codes <;> rfl
  · exact h

theorem exec_gaugeConversionEnd {s : State} {k : OutletNo} {codes : List (BitVec 10)} (hrun : s.running = true)
    (hpass : s.om.pass = some k) (hlength : codes.length = s.config.averaging) :
    exec (.gaugeConversionEnd codes) s = .next (s.takeConversions k codes) := by
  refine congrArg Host.Outcome.next ?_
  simp only [hpass]
  exact if_pos (by simp [hrun, hlength])

theorem exec_gaugeConversionEnd_none {s : State} {codes : List (BitVec 10)}
    (h : s.om.pass = none ∨ codes.length ≠ s.config.averaging) : exec (.gaugeConversionEnd codes) s = .next s := by
  refine congrArg Host.Outcome.next ?_
  cases hpass : s.om.pass with
  | none => rfl
  | some k =>
    have hlength : codes.length ≠ s.config.averaging := h.resolve_left (by simp [hpass])
    exact if_neg (by simp [hlength])

/-- R122: a pass starts in PACED mode. -/
theorem State.startPass_paced {s : State} (h : s.config.gaugeMode = .paced) :
    s.startPass = { s with om := { s.om with pass := s.config.firstFitted, paceTimer := some 1000 } } := by
  simp only [State.startPass, h]
  rfl

end Sys2Proof.Machine

open Sys2Proof.Machine

/-- Settles O39: the reading and the latch as the rules give them, and the re-derivation of the outlet for what follows. -/
theorem gaugeReadingTaken : Obligations.GaugeReadingTaken := by
  unfold Obligations.GaugeReadingTaken
  refine ⟨?_, fun s codes => exec_gaugeConversionEnd_none, fun s hrun => ⟨fun p hpaced htimer hpass => ?_, fun h => ?_⟩⟩
  · rintro s k codes o faulted reading hrun hlinked hpass hlength rfl rfl hreading
    rw [← readingOf_eq] at hreading
    subst hreading
    refine ⟨readingOf_le hlength, ?_⟩
    rw [exec_gaugeConversionEnd hrun hpass hlength, State.takeConversions_eq hlinked.commitmentsHeld]
    simp only [OutletRecord.takeReading, fullLatchOf_eq]
    rfl
  · rw [← State.startPass_paced hpaced]
    exact congrArg Host.Outcome.next (if_pos (by simp [hrun, htimer, hpass]))
  · refine congrArg Host.Outcome.next (if_neg ?_)
    rcases h with htimer | hpass
    · simp [htimer]
    · simp [hpass]

end

section
/-! SUPPORT. The refresh timer and the peer outlet view (R134, R136, R137, R140), and STANDBY, WAKE and HELLO (R141, R191 to R194):
what each comes to, case by case. -/

open Sys2Proof

namespace Sys2Proof.Machine

/-! ## OUTLET-STATE (R136, R137) -/

theorem summaryOfCode_summaryCode (x : Summary) : summaryOfCode (summaryCode x) = some x := by
  cases x <;> rfl

/-- 11.3: a code in range is that of a summary. -/
theorem exists_summaryCode {n : Nat} (h : 1 ≤ n) (h' : n ≤ 3) : ∃ x, summaryCode x = n := by
  obtain rfl | rfl | rfl : n = 1 ∨ n = 2 ∨ n = 3 := by omega
  · exact ⟨.openLow, rfl⟩
  · exact ⟨.openHigh, rfl⟩
  · exact ⟨.unavailable, rfl⟩

theorem summaryOfCode_out_of_range {n : Nat} (h : n = 0 ∨ 3 < n) : summaryOfCode n = none := by
  unfold summaryOfCode
  split
  · omega
  · omega
  · omega
  · rfl

section
variable {m : OutletMonitor} {c : NodeConfig} {rx : Rx} {r : ReceivedOutletState}

/-- R137: a summary code, a sender or a deck out of range. -/
theorem OutletMonitor.takeOutletState_refused
    (h : r.summary = none ∨ rx.sender.toNat = 0 ∨ 60 < rx.sender.toNat ∨ r.deck = 0 ∨ 20 < r.deck) :
    m.takeOutletState c rx r = m.tally fun c => { c with statesRefused := c.statesRefused + 1 } := by
  unfold OutletMonitor.takeOutletState
  split
  · rfl
  · rename_i x hx
    have hrange : ¬ (inRange 1 Config.maxNode rx.sender.toNat && inRange 1 Config.maxDeck r.deck) = true := by
      rw [Bool.and_eq_true, inRange_iff, inRange_iff, Config.maxNode, Config.maxDeck]
      rcases h with hnone | h
      · cases hnone.symm.trans hx
      · omega
    rw [if_neg hrange]

/-- R137: an OUTLET-STATE that passes its checks. -/
theorem OutletMonitor.takeOutletState_checked {x : Summary} (hx : r.summary = some x) (hsender : 1 ≤ rx.sender.toNat)
    (hsender' : rx.sender.toNat ≤ 60) (hdeck : 1 ≤ r.deck) (hdeck' : r.deck ≤ 20) :
    m.takeOutletState c rx r =
      if c.serves r.deck then
        m.hear { peer := rx.sender.toNat, deck := r.deck, summary := x, reading := r.reading, lastHeard := rx.time }
      else m.tally fun c => { c with statesUnserved := c.statesUnserved + 1 } := by
  simp only [OutletMonitor.takeOutletState, hx]
  exact if_pos (by rw [Bool.and_eq_true, inRange_iff, inRange_iff]; exact ⟨⟨hsender, hsender'⟩, hdeck, hdeck'⟩)

end

/-- R136: the view without the entry for a pair. -/
def viewWithout (peer deck : Nat) (view : List ViewEntry) : List ViewEntry := view.filter fun x => !x.isFor peer deck

theorem viewWithout_length_lt {peer deck : Nat} {view : List ViewEntry} :
    (viewWithout peer deck view).length < view.length ↔ view.any (ViewEntry.isFor peer deck) = true := by
  rw [viewWithout, List.length_filter_lt_length_iff_exists, List.any_eq_true]
  simp

/-- R136: a view without an entry for the pair. -/
theorem viewWithout_of_length {peer deck : Nat} {view : List ViewEntry}
    (h : (viewWithout peer deck view).length = view.length) :
    viewWithout peer deck view = view ∧ view.any (ViewEntry.isFor peer deck) ≠ true :=
  ⟨List.filter_sublist.eq_of_length h, fun hany => (viewWithout_length_lt.mpr hany).ne h⟩

section
variable {m : OutletMonitor} {e : ViewEntry}

/-- R137: an entry for the pair is replaced, and a new one joins where there is room. -/
theorem OutletMonitor.hear_entered
    (h : (viewWithout e.peer e.deck m.view).length < m.view.length ∨ m.view.length < 32) :
    m.hear e = { m with view := viewWithout e.peer e.deck m.view ++ [e] } := by
  unfold OutletMonitor.hear
  by_cases hheld : (viewWithout e.peer e.deck m.view).length < m.view.length
  · rw [if_pos (viewWithout_length_lt.mp hheld)]
    rfl
  · obtain ⟨hsame, hnew⟩ := viewWithout_of_length
      (Nat.le_antisymm (List.length_filter_le ..) (Nat.le_of_not_lt hheld))
    have hroom : m.view.length < Config.maxView := h.resolve_left hheld
    rw [if_neg hnew, if_pos hroom, hsame]

/-- R137: a full view loses the entry heard longest ago. -/
theorem OutletMonitor.hear_replaces (h : (viewWithout e.peer e.deck m.view).length = m.view.length)
    (hfull : 32 ≤ m.view.length) :
    m.hear e = { m with
      view := m.view.tail ++ [e]
      counters := { m.counters with viewReplacements := m.counters.viewReplacements + 1 } } := by
  obtain ⟨-, hnew⟩ := viewWithout_of_length h
  have hroom : ¬ m.view.length < Config.maxView := Nat.not_lt_of_le hfull
  unfold OutletMonitor.hear
  rw [if_neg hnew, if_neg hroom, List.drop_one]
  rfl

end

theorem exec_outletState {s : State} {rx : Rx} {p : List Byte} (h : s.delivers classOutletState rx p) {m : OutletMonitor}
    (hm : s.om.takeOutletState s.config rx (readOutletState p) = m) :
    exec (.outletState rx p) s = .next { s.takeTelegram rx with om := m } := by
  subst hm
  exact congrArg Host.Outcome.next (State.receive_of_delivers h _)

/-! ## The refresh timer and expiries (R134, R140) -/

theorem exec_refreshTimerExpiry {s : State} {n : Nat} (hrun : s.running = true) (h : s.om.refreshTimer = some n) :
    exec .refreshTimerExpiry s = .next s.roundQueued := by
  rw [← State.queueOutletStates_eq]
  exact congrArg Host.Outcome.next (if_pos (by simp [hrun, h]))

theorem exec_refreshTimerExpiry_idle {s : State} (h : s.om.refreshTimer = none) :
    exec .refreshTimerExpiry s = .next s :=
  congrArg Host.Outcome.next (if_neg (by simp [h]))

/-- R136, R140: an entry for the pair is due. -/
theorem viewDue_iff {s : State} {peer deck time : Nat} :
    (s.om.view.any fun e => e.isFor peer deck && decide (e.expiry s.config ≤ time)) = true ↔
      ∃ e ∈ s.om.view, e.peer = peer ∧ e.deck = deck ∧ e.lastHeard + 3000 * s.config.refreshSec ≤ time := by
  have hexpiry : ∀ e : ViewEntry, e.expiry s.config = e.lastHeard + 3000 * s.config.refreshSec := fun e => by
    rw [ViewEntry.expiry]; omega
  simp only [List.any_eq_true, ViewEntry.isFor, Bool.and_eq_true, beq_iff_eq, decide_eq_true_eq, hexpiry, and_assoc]

/-! ## STANDBY and WAKE (R192 to R194) -/

/-- R192, R193: what the standby test asks is no concern of the taking of a telegram. -/
theorem State.takeTelegram_quiet (s : State) (rx : Rx) : (s.takeTelegram rx).quiet = s.quiet := by
  have hqueue : (s.takeTelegram rx).hlc.queue = s.hlc.queue := HallLine.rescore_queue (scoreDown 1) _
  simp only [State.quiet, State.takeTelegram_st, State.takeTelegram_dc, hqueue]

/-- R192: outside SORTING a STANDBY is ignored. -/
theorem State.takeStandby_ignored {s : State} (h : s.nc.state ≠ .sorting) : s.takeStandby = s.ignoreCommand := by
  unfold State.takeStandby
  split
  · exact absurd ‹_› h
  · rfl

/-- R192, R193: a STANDBY taken in SORTING is followed by the standby test. -/
theorem State.takeStandby_sorting {s : State} (h : s.nc.state = .sorting) :
    s.takeStandby =
      if s.quiet then (s.onNc fun n => { n with state := .standbyPending }).enterStandby
      else s.onNc fun n => { n with state := .standbyPending } := by
  have hquiet : (s.onNc fun n => { n with state := .standbyPending }).quiet = s.quiet := rfl
  simp only [State.takeStandby, h, State.standbyTest, hquiet]
  simp

/-- R192: in neither standby state a WAKE is ignored. -/
theorem State.takeWake_ignored {s : State} (hstandby : s.nc.state ≠ .standby)
    (hpending : s.nc.state ≠ .standbyPending) : s.takeWake = s.ignoreCommand := by
  unfold State.takeWake
  split
  · exact absurd ‹_› hpending
  · exact absurd ‹_› hstandby
  · rfl

theorem State.takeWake_pending {s : State} (h : s.nc.state = .standbyPending) :
    s.takeWake = s.onNc fun n => { n with state := .sorting } := by
  simp only [State.takeWake, h]

theorem State.takeWake_standby {s : State} (h : s.nc.state = .standby) : s.takeWake = s.woken := by
  rw [← State.wakeUp_standby h]
  simp only [State.takeWake, h]

theorem exec_standby {s : State} {rx : Rx} {p : List Byte} (h : s.delivers classStandby rx p) :
    exec (.standby rx p) s = .next (s.takeTelegram rx).takeStandby :=
  congrArg Host.Outcome.next (State.receive_of_delivers h _)

theorem exec_wake {s : State} {rx : Rx} {p : List Byte} (h : s.delivers classWake rx p) :
    exec (.wake rx p) s = .next (s.takeTelegram rx).takeWake :=
  congrArg Host.Outcome.next (State.receive_of_delivers h _)

theorem exec_hello {s : State} {rx : Rx} {p : List Byte} (h : s.delivers classHello rx p) :
    exec (.hello rx p) s = .next ((s.takeTelegram rx).takeHello rx.sender.toNat) :=
  congrArg Host.Outcome.next (State.receive_of_delivers h _)

end Sys2Proof.Machine

open Sys2Proof.Machine

/-- Settles O41: the checks of an OUTLET-STATE in their order, and the view by whether it holds an entry for the pair. -/
theorem refreshAndViewTaken : Obligations.RefreshAndViewTaken := by
  unfold Obligations.RefreshAndViewTaken
  refine ⟨fun s n => exec_refreshTimerExpiry, fun s => exec_refreshTimerExpiry_idle, ?_, fun s peer deck time hrun => ⟨?_, ?_⟩⟩
  · rintro s u rx p hdelivers rfl
    have hsummary : ∀ x, summaryCode x = byteAt p 1 → (readOutletState p).summary = some x := fun x hx =>
      (congrArg summaryOfCode hx.symm).trans (summaryOfCode_summaryCode x)
    refine ⟨fun h => exec_outletState hdelivers (OutletMonitor.takeOutletState_refused ?_),
      fun hlow hhigh hsender hsender' hdeck hdeck' hunserved => ?_, ?_⟩
    · rcases h with h | h | h | h
      · exact .inl (summaryOfCode_out_of_range (.inl h))
      · exact .inl (summaryOfCode_out_of_range (.inr h))
      · exact .inr (.inl (congrArg BitVec.toNat h))
      · exact .inr (.inr h)
    · obtain ⟨x, hx⟩ := exists_summaryCode hlow hhigh
      have hchecked :=
        OutletMonitor.takeOutletState_checked (m := s.om) (c := s.config) (hsummary x hx) hsender hsender' hdeck hdeck'
      exact exec_outletState hdelivers (hchecked.trans (if_neg (Bool.eq_false_iff.mp hunserved)))
    · rintro x e others hx hsender hsender' hdeck hdeck' hserves rfl rfl
      have hchecked :=
        OutletMonitor.takeOutletState_checked (m := s.om) (c := s.config) (hsummary x hx) hsender hsender' hdeck hdeck'
      have hheard := hchecked.trans (if_pos hserves)
      exact ⟨fun hroom => exec_outletState hdelivers (hheard.trans (OutletMonitor.hear_entered hroom)),
        fun hnew hfull => exec_outletState hdelivers (hheard.trans (OutletMonitor.hear_replaces hnew hfull))⟩
  · intro hdue
    exact congrArg Host.Outcome.next (if_pos (by rw [hrun, viewDue_iff.mpr hdue]; rfl))
  · intro hnone
    have hdue := mt viewDue_iff.mp fun ⟨e, he, hpeer, hdeck, htime⟩ => Nat.not_lt_of_le htime (hnone e he hpeer hdeck)
    exact congrArg Host.Outcome.next (if_neg (by rw [Bool.eq_false_iff.mpr hdue, Bool.and_false]; exact Bool.false_ne_true))

/-- Settles O48: the branches of STANDBY and WAKE by node state; what a STANDBY tests, the taking of its own telegram leaves. -/
theorem standbyWakeHelloTaken : Obligations.StandbyWakeHelloTaken := by
  unfold Obligations.StandbyWakeHelloTaken
  refine ⟨?_, ?_, ?_⟩
  · rintro s u rx p hdelivers rfl
    rw [exec_standby hdelivers]
    refine ⟨fun hother => ?_, fun hsorting hbusy => ?_, fun hsorting hquiet => ?_⟩
    · rw [State.takeStandby_ignored (s := s.takeTelegram rx) hother]
      rfl
    · rw [State.takeStandby_sorting (s := s.takeTelegram rx) hsorting, State.takeTelegram_quiet, hbusy]
      rfl
    · rw [State.takeStandby_sorting (s := s.takeTelegram rx) hsorting, State.takeTelegram_quiet, hquiet]
      rfl
  · rintro s u rx p hdelivers rfl
    rw [exec_wake hdelivers]
    refine ⟨fun hpending => ?_, fun hstandby => ?_, fun hstandby hpending => ?_⟩
    · rw [State.takeWake_pending (s := s.takeTelegram rx) hpending]
      rfl
    · rw [State.takeWake_standby (s := s.takeTelegram rx) hstandby]
    · rw [State.takeWake_ignored (s := s.takeTelegram rx) hstandby hpending]
      rfl
  · rintro s u rx p hdelivers rfl
    rw [exec_hello hdelivers]
    simp only [State.takeHello, State.onNc, State.onOm, NodeControl.hearHello, NodeControl.tally, OutletMonitor.wipe,
      OutletMonitor.tally, beq_iff_eq]
    rfl

end

section
/-! SUPPORT. The part of a node that the states of its outlets and the peer outlet view speak of (R131, R132, R136): what an
operation keeps of it, and which operations leave it alone. -/

open Sys2Proof

namespace Sys2Proof.Machine

/-! ## The supervised part of a node -/

/-- What tells whether the outlets and the peer outlet view stand as they should. -/
structure Supervision where
  config  : NodeConfig
  running : Bool
  outlets : PerOutlet OutletRecord
  closed  : List Nat
  view    : List ViewEntry

def State.supervision (s : State) : Supervision := ⟨s.config, s.running, s.om.outlets, s.om.closed, s.om.view⟩

section
variable {s t : State}

theorem State.supervision_congr (hconfig : t.config = s.config) (hrunning : t.running = s.running) (hom : t.om = s.om) :
    t.supervision = s.supervision := by
  rw [State.supervision, hconfig, hrunning, hom]
  rfl

/-- R131, R132: every fitted outlet stands as it is derived. -/
def State.derivedOk (s : State) : Prop := ∀ k, (s.config.outlet k).fitted = true → s.outletOk k

theorem OutletMonitor.viewOk_of_sublist {m n : OutletMonitor} (h : n.view.Sublist m.view) (hm : m.viewOk) : n.viewOk := by
  obtain ⟨hlength, hnodup⟩ := hm
  exact ⟨h.length_le.trans hlength, hnodup.sublist (h.map _)⟩

/-- R136: a view with room for an entry of a pair that it does not hold. -/
theorem OutletMonitor.viewOk_append {m n : OutletMonitor} {l : List ViewEntry} {e : ViewEntry} (hn : n.view = l ++ [e])
    (hl : l.Sublist m.view) (hroom : l.length < Config.maxView) (hnew : ∀ x ∈ l, ¬ x.isFor e.peer e.deck = true)
    (hm : m.viewOk) : n.viewOk := by
  obtain ⟨-, hnodup⟩ := hm
  unfold OutletMonitor.viewOk
  rw [hn, List.length_append, List.map_append]
  refine ⟨hroom, List.Nodup.append (hnodup.sublist (hl.map _)) (List.nodup_singleton _) fun pair hpair he => ?_⟩
  obtain ⟨x, hx, rfl⟩ := List.mem_map.mp hpair
  have hxe := List.mem_singleton.mp he
  simp only [Prod.mk.injEq] at hxe
  exact hnew x hx (by simp [ViewEntry.isFor, hxe])

/-- R136, R137: an entry takes the place of its pair's or of the oldest, or joins where there is room. -/
theorem OutletMonitor.viewOk_hear {m : OutletMonitor} (e : ViewEntry) (hm : m.viewOk) : (m.hear e).viewOk := by
  have hlength : m.view.length ≤ Config.maxView := hm.1
  have hle : (viewWithout e.peer e.deck m.view).length ≤ m.view.length := List.length_filter_le ..
  by_cases h : (viewWithout e.peer e.deck m.view).length < m.view.length ∨ m.view.length < 32
  · rw [OutletMonitor.hear_entered h]
    refine OutletMonitor.viewOk_append rfl List.filter_sublist ?_ (fun x hx => by simpa using (List.mem_filter.mp hx).2) hm
    exact h.elim (lt_of_lt_of_le · hlength) (lt_of_le_of_lt hle ·)
  · rw [not_or, not_lt, not_lt] at h
    obtain ⟨hnone, hfull⟩ := h
    have hsame := le_antisymm hle hnone
    obtain ⟨-, hnew⟩ := viewWithout_of_length hsame
    rw [OutletMonitor.hear_replaces hsame hfull]
    refine OutletMonitor.viewOk_append rfl (List.tail_sublist _) ?_
      (fun x hx hfor => hnew (List.any_eq_true.mpr ⟨x, List.mem_of_mem_tail hx, hfor⟩)) hm
    rw [List.length_tail]
    exact lt_of_lt_of_le (Nat.sub_lt (by omega) Nat.one_pos) hlength

/-- What an operation of a node that runs keeps: the node runs on, the view within its bounds, and the outlets as they are
derived. -/
structure State.Supervised (s t : State) : Prop where
  running : t.running = s.running
  view    : s.om.viewOk → t.om.viewOk
  derived : s.derivedOk → t.derivedOk

theorem State.Supervised.refl (s : State) : s.Supervised s := ⟨rfl, id, id⟩

theorem State.Supervised.trans {u : State} (h : s.Supervised t) (h' : t.Supervised u) : s.Supervised u :=
  ⟨h'.running.trans h.running, h'.view ∘ h.view, h'.derived ∘ h.derived⟩

theorem State.Supervised.of_outlets (hconfig : t.config = s.config) (hrunning : t.running = s.running)
    (hview : t.om.view = s.om.view) (h : s.derivedOk → ∀ k, (s.config.outlet k).fitted = true → t.outletOk k) :
    s.Supervised t := by
  refine ⟨hrunning, OutletMonitor.viewOk_of_sublist (hview ▸ List.Sublist.refl _), fun hs k => ?_⟩
  rw [hconfig]
  exact h hs k

theorem State.Supervised.of_view {v : List ViewEntry} (h : t.supervision = { s.supervision with view := v })
    (hview : s.om.viewOk → t.om.viewOk) : s.Supervised t := by
  simp only [State.supervision, Supervision.mk.injEq] at h
  obtain ⟨hconfig, hrunning, houtlets, hclosed, -⟩ := h
  refine ⟨hrunning, hview, fun hs k hk => ?_⟩
  rw [hconfig] at hk
  exact (hs k hk).congr hconfig (congrArg (PerOutlet.get · k) houtlets) hclosed

theorem State.Supervised.of_sublist {v : List ViewEntry} (h : t.supervision = { s.supervision with view := v })
    (hv : v.Sublist s.om.view) : s.Supervised t :=
  .of_view h (OutletMonitor.viewOk_of_sublist (by rwa [show t.om.view = v from congrArg Supervision.view h]))

theorem State.Supervised.of_eq (h : t.supervision = s.supervision) : s.Supervised t :=
  .of_sublist (v := s.om.view) h (List.Sublist.refl _)

/-- What is kept after a state of the same supervised part is kept after this one. -/
theorem State.Supervised.after {u : State} (h : u.Supervised t) (heq : u.supervision = s.supervision) : s.Supervised t :=
  (State.Supervised.of_eq heq).trans h

/-- A fold of operations that each keep it. -/
theorem State.Supervised.foldl {α : Type} {f : State → α → State} (h : ∀ (u : State) a, u.Supervised (f u a)) (l : List α)
    (s : State) : s.Supervised (l.foldl f s) := by
  induction l generalizing s with
  | nil => exact .refl s
  | cons a l ih => exact (h s a).trans (ih _)

end

/-! ## Operations that leave the supervised part alone -/

section
variable (s : State)

@[simp] theorem State.onSt_supervision (f) : (s.onSt f).supervision = s.supervision := rfl
@[simp] theorem State.onTrp_supervision (f) : (s.onTrp f).supervision = s.supervision := rfl
@[simp] theorem State.onMs_supervision (f) : (s.onMs f).supervision = s.supervision := rfl
@[simp] theorem State.onDc_supervision (f) : (s.onDc f).supervision = s.supervision := rfl
@[simp] theorem State.onSu_supervision (f) : (s.onSu f).supervision = s.supervision := rfl
@[simp] theorem State.onHlc_supervision (f) : (s.onHlc f).supervision = s.supervision := rfl
@[simp] theorem State.send_supervision (d b) : (s.send d b).supervision = s.supervision := rfl
@[simp] theorem State.markMap_supervision : s.markMap.supervision = s.supervision := rfl
@[simp] theorem State.startPass_supervision : s.startPass.supervision = s.supervision := rfl
@[simp] theorem State.queueHello_supervision : s.queueHello.supervision = s.supervision := rfl
@[simp] theorem State.takeTelegram_supervision (rx) : (s.takeTelegram rx).supervision = s.supervision := rfl
@[simp] theorem State.takeInFault_supervision (rx) : (s.takeInFault rx).supervision = s.supervision := rfl

@[simp] theorem State.endRecord_supervision (n) : (s.endRecord n).supervision = s.supervision := by
  unfold State.endRecord; split <;> rfl

@[simp] theorem State.clearLog_supervision : s.clearLog.supervision = s.supervision := by
  unfold State.clearLog; split <;> rfl

@[simp] theorem State.reportLost_supervision (r) : (s.reportLost r).supervision = s.supervision := by
  rw [State.reportLost_eq]; rfl

@[simp] theorem State.reportMisplaced_supervision (r) : (s.reportMisplaced r).supervision = s.supervision := by
  unfold State.reportMisplaced; split <;> rfl

@[simp] theorem State.dropArmed_supervision (k) : (s.dropArmed k).supervision = s.supervision :=
  (foldl_keeps (fun u _ => u.onSt_supervision _) _ _).trans rfl

@[simp] theorem State.queueOutletStates_supervision : s.queueOutletStates.supervision = s.supervision := by
  rw [State.queueOutletStates_eq]; rfl

@[simp] theorem State.discard_supervision (j) : (s.discard j).supervision = s.supervision := by
  cases j <;> rfl

/-- A node in a running state that moves to another is as it was. -/
theorem State.onNc_supervision {f : NodeControl → NodeControl} (h : (f s.nc).state.running = s.nc.state.running) :
    (s.onNc f).supervision = s.supervision := State.supervision_congr rfl h rfl

@[simp] theorem State.standbyTest_supervision : s.standbyTest.supervision = s.supervision := by
  unfold State.standbyTest
  split
  · rename_i h
    exact s.onNc_supervision (f := fun n => { n with state := .standby }.tally fun c => { c with standbys := c.standbys + 1 })
      (by rw [h.1]; rfl)
  · rfl

@[simp] theorem State.wakeUp_supervision : s.wakeUp.supervision = s.supervision := by
  unfold State.wakeUp
  split
  · rename_i h
    simp only [State.queueOutletStates_supervision, State.startPass_supervision, State.queueHello_supervision]
    exact s.onNc_supervision (by rw [h]; rfl)
  · rfl

@[simp] theorem State.wakeIfAddressed_supervision (rx) : (s.wakeIfAddressed rx).supervision = s.supervision := by
  unfold State.wakeIfAddressed; split <;> simp

/-! ### The Section Tracker and the reader port -/

@[simp] theorem State.inductionBlocked_supervision : s.inductionBlocked.supervision = s.supervision := by
  unfold State.inductionBlocked
  dsimp only
  split <;> exact s.wakeUp_supervision

@[simp] theorem State.bindIfAwaiting_supervision (n l) : (s.bindIfAwaiting n l).supervision = s.supervision := by
  unfold State.bindIfAwaiting State.bindAtTrailing; repeat' split
  all_goals simp

@[simp] theorem State.withdraw_supervision (n) : (s.withdraw n).supervision = s.supervision := by simp [State.withdraw]

@[simp] theorem State.takeClosePoint_supervision (n) : (s.takeClosePoint n).supervision = s.supervision := by
  unfold State.takeClosePoint; repeat' split
  all_goals rfl

@[simp] theorem State.trailingEdge_supervision (n x) : (s.trailingEdge n x).supervision = s.supervision := by
  unfold State.trailingEdge State.registerClosePoint; dsimp only; repeat' split
  all_goals simp

@[simp] theorem State.inductionCleared_supervision : s.inductionCleared.supervision = s.supervision := by
  unfold State.inductionCleared; dsimp only; repeat' split
  all_goals simp

@[simp] theorem State.handoffBlocked_supervision : s.handoffBlocked.supervision = s.supervision := by
  unfold State.handoffBlocked State.handOff; repeat' split
  all_goals simp

@[simp] theorem State.takeSpanPoint_supervision (n) : (s.takeSpanPoint n).supervision = s.supervision := by
  unfold State.takeSpanPoint; repeat' split
  all_goals rfl

@[simp] theorem State.takeWindowEnd_supervision (n) : (s.takeWindowEnd n).supervision = s.supervision := by
  unfold State.takeWindowEnd; repeat' split
  all_goals simp

@[simp] theorem State.takeExpiry_supervision (x n) : (s.takeExpiry x n).supervision = s.supervision := by
  unfold State.takeExpiry; repeat' split
  all_goals simp

@[simp] theorem State.bindRead_supervision (tag) : (s.bindRead tag).supervision = s.supervision := by
  unfold State.bindRead; split <;> rfl

@[simp] theorem State.judgeReport_supervision (cs) : (s.judgeReport cs).supervision = s.supervision := by
  unfold State.judgeReport; dsimp only; split <;> simp

@[simp] theorem State.assemble_supervision (ch) : (s.assemble ch).supervision = s.supervision := by
  unfold State.assemble; repeat' split
  all_goals simp

@[simp] theorem State.takeCharacter_supervision (e) : (State.takeCharacter e s).supervision = s.supervision := by
  unfold State.takeCharacter State.receiveCharacter; repeat' split
  all_goals simp

@[simp] theorem State.takeBreak_supervision : s.takeBreak.supervision = s.supervision := by
  unfold State.takeBreak State.bindBreak; repeat' split
  all_goals rfl

@[simp] theorem State.takeRate_supervision (e) : (State.takeRate e s).supervision = s.supervision := by
  cases e <;> rfl

/-! ### The Stray Unit and the Manifest Store -/

@[simp] theorem State.logStray_supervision (ts r l n) : (s.logStray ts r l n).supervision = s.supervision := by
  unfold State.logStray; split <;> rfl

@[simp] theorem State.takeLost_supervision (r) : (s.takeLost r).supervision = s.supervision := by
  unfold State.takeLost; repeat' split
  all_goals rfl

@[simp] theorem State.takeMisplaced_supervision (n r) : (s.takeMisplaced n r).supervision = s.supervision := by
  unfold State.takeMisplaced; repeat' split
  all_goals rfl

@[simp] theorem State.takeCall_supervision (n q ts) : (s.takeCall n q ts).supervision = s.supervision := by
  unfold State.takeCall
  split
  · rfl
  · refine (foldl_keeps (g := State.supervision) (fun u tag => ?_) _ _).trans rfl
    unfold State.answerCall
    split <;> rfl

@[simp] theorem State.takeClaim_supervision (rx q f) : (s.takeClaim rx q f).supervision = s.supervision := by
  unfold State.takeClaim; dsimp only; split <;> rfl

@[simp] theorem State.commitStores_supervision (x) : (s.commitStores x).supervision = s.supervision :=
  (foldl_keeps State.reportMisplaced_supervision _ _).trans rfl

@[simp] theorem State.applyHeld_supervision (t) : (s.applyHeld t).supervision = s.supervision := by
  cases t with
  | manifest f => exact State.commitStores_supervision ..
  | withdraw tag => exact State.commitStores_supervision ..
  | deckMap f =>
    change (s.applyDeckMap f).supervision = s.supervision
    unfold State.applyDeckMap; repeat' split
    all_goals rfl

@[simp] theorem State.takeManifestTelegram_supervision (t) : (s.takeManifestTelegram t).supervision = s.supervision := by
  unfold State.takeManifestTelegram; split <;> simp

@[simp] theorem State.examineNext_supervision (n) : (s.examineNext n).supervision = s.supervision := by
  unfold State.examineNext; split <;> simp

@[simp] theorem State.completePurge_supervision : s.completePurge.supervision = s.supervision :=
  (foldl_keeps State.applyHeld_supervision _ _).trans rfl

@[simp] theorem State.startStages_supervision :
    s.checkRetention.finishPendingPurge.endStaleWindows.supervision = s.supervision := by
  unfold State.finishPendingPurge; split <;> rfl

/-! ### The Hall Line Controller and Node Control -/

@[simp] theorem State.startAttempt_supervision : s.startAttempt.supervision = s.supervision := by
  unfold State.startAttempt; split <;> rfl

@[simp] theorem State.endAttempt_supervision (e) : (State.endAttempt e s).supervision = s.supervision := by
  unfold State.endAttempt; split <;> simp

@[simp] theorem State.takeIdleGap_supervision : s.takeIdleGap.supervision = s.supervision := by
  unfold State.takeIdleGap State.detach State.rejoin; dsimp only; repeat' split
  all_goals simp

@[simp] theorem State.takeDiscarded_supervision (cls rx p) : (s.takeDiscarded cls rx p).supervision = s.supervision := by
  unfold State.takeDiscarded; repeat' split
  all_goals simp

@[simp] theorem State.abandon_supervision : s.abandon.supervision = s.supervision :=
  (foldl_keeps (fun u _ => State.endRecord_supervision u _) _ _).trans rfl

@[simp] theorem State.takeStandby_supervision : s.takeStandby.supervision = s.supervision := by
  unfold State.takeStandby
  split
  · rename_i h
    rw [State.standbyTest_supervision]
    exact s.onNc_supervision (by rw [h]; rfl)
  · rfl

@[simp] theorem State.takeWake_supervision : s.takeWake.supervision = s.supervision := by
  unfold State.takeWake
  split
  · rename_i h
    exact s.onNc_supervision (by rw [h]; rfl)
  · exact s.wakeUp_supervision
  · rfl

@[simp] theorem State.takeQuery_supervision (rx k b) : (s.takeQuery rx k b).supervision = s.supervision := by
  unfold State.takeQuery
  split
  · rfl
  · exact s.wakeUp_supervision

@[simp] theorem State.takeLogQuery_supervision (rx c p) : (s.takeLogQuery rx c p).supervision = s.supervision := by
  unfold State.takeLogQuery
  dsimp only
  split <;> exact s.takeQuery_supervision ..

@[simp] theorem State.takeMapQuery_supervision (rx c) : (s.takeMapQuery rx c).supervision = s.supervision := by
  unfold State.takeMapQuery
  dsimp only
  split <;> exact s.takeQuery_supervision ..

end

end Sys2Proof.Machine

end

section
/-! SUPPORT. The outlets derived anew (R129 to R132), the peer outlet view changed (R137, R140, R141, R195), and what every command
keeps of them. -/

open Sys2Proof

namespace Sys2Proof.Machine

/-! ## An outlet derived anew (R131, R132) -/

/-- R132: an outlet's record with its summary derived, which only a DECK-role outlet has. -/
def OutletRecord.summarised (c : OutletConfig) (o : OutletRecord) : OutletRecord :=
  { o with summary := if c.deckServed.isSome then summaryOf c o.state o.reading else o.summary }

/-- R131, R132: an outlet's record with its state and its summary derived. -/
def OutletRecord.derived (c : OutletConfig) (closed : List Nat) (o : OutletRecord) : OutletRecord :=
  OutletRecord.summarised c { o with state := outletStateOf c.role o closed }

/-- R132: outlet k's summary derived. -/
def Supervision.summarise (v : Supervision) (k : OutletNo) : Supervision :=
  { v with outlets := v.outlets.set k ((v.outlets.get k).summarised (v.config.outlet k)) }

/-- R131, R132: outlet k's state and summary derived. -/
def Supervision.derive (v : Supervision) (k : OutletNo) : Supervision :=
  { v with outlets := v.outlets.set k ((v.outlets.get k).derived (v.config.outlet k) v.closed) }

section
variable {s t : State} {k : OutletNo}

theorem OutletRecord.summarised_of_unserved {c : OutletConfig} (h : c.deckServed = none) (o : OutletRecord) :
    o.summarised c = o := by
  rw [OutletRecord.summarised, h]
  rfl

theorem OutletRecord.summarised_of_served {c : OutletConfig} {d : Nat} (h : c.deckServed = some d) (o : OutletRecord) :
    o.summarised c = { o with summary := summaryOf c o.state o.reading } := by
  rw [OutletRecord.summarised, h]
  rfl

theorem OutletRecord.derived_of_state {c : OutletConfig} {closed : List Nat} {o : OutletRecord}
    (h : outletStateOf c.role o closed = o.state) : o.derived c closed = o.summarised c := by
  rw [OutletRecord.derived, h]

theorem State.supervision_setOutlet (s : State) (k : OutletNo) (o : OutletRecord) :
    (s.onOm (OutletMonitor.setOutlet k o)).supervision = { s.supervision with outlets := s.om.outlets.set k o } := rfl

theorem State.summarise_supervision (s : State) (k : OutletNo) (first : Bool) :
    (s.summarise k first).supervision = s.supervision.summarise k := by
  rw [State.summarise_eq]
  cases hd : (s.config.outlet k).deckServed with
  | none =>
    have hsame : s.om.outlets.set k ((s.om.outlet k).summarised (s.config.outlet k)) = s.om.outlets := by
      rw [OutletRecord.summarised_of_unserved hd]
      exact PerOutlet.set_get ..
    exact congrArg (fun x => { s.supervision with outlets := x }) hsame.symm
  | some d =>
    exact congrArg (fun o => { s.supervision with outlets := s.om.outlets.set k o })
      (OutletRecord.summarised_of_served hd _).symm

theorem State.rederive_supervision (s : State) (k : OutletNo) (first : Bool) :
    (s.rederive k first).supervision = s.supervision.derive k := by
  have hset : (s.onOm (OutletMonitor.setOutlet k { s.om.outlet k with
        state := outletStateOf (s.config.outlet k).role (s.om.outlet k) s.om.closed })).supervision.summarise k =
      s.supervision.derive k := by
    rw [State.supervision_setOutlet]
    simp only [Supervision.summarise, Supervision.derive, PerOutlet.get_set_self, PerOutlet.set_set]
    rfl
  unfold State.rederive
  dsimp only
  rw [State.summarise_supervision]
  split
  · rename_i hsame
    exact congrArg (fun o => { s.supervision with outlets := s.om.outlets.set k o })
      (OutletRecord.derived_of_state hsame).symm
  · split
    · rw [State.dropArmed_supervision, hset]
    · exact hset

/-- R131, R132: what is derived anew stands as it is derived. -/
theorem State.outletOk_rederive (s : State) (k : OutletNo) (first : Bool) : (s.rederive k first).outletOk k := by
  have h := s.rederive_supervision k first
  have hconfig : (s.rederive k first).config = s.config := congrArg Supervision.config h
  have hclosed : (s.rederive k first).om.closed = s.om.closed := congrArg Supervision.closed h
  have houtlet : (s.rederive k first).om.outlet k = (s.om.outlet k).derived (s.config.outlet k) s.om.closed :=
    (congrArg (fun v => v.outlets.get k) h).trans (PerOutlet.get_set_self ..)
  refine State.outletOk_of_outlet houtlet ?_ fun d hd => ?_
  · rw [hconfig, hclosed]
    rfl
  · rw [hconfig] at hd ⊢
    exact if_pos (by rw [hd]; rfl)

/-- R131: the other outlets stand as they did. -/
theorem State.outletOk.rederive_other {j : OutletNo} (h : s.outletOk j) (hj : j ≠ k) (first : Bool) :
    (s.rederive k first).outletOk j := by
  have hsup := s.rederive_supervision k first
  exact h.congr (congrArg Supervision.config hsup)
    ((congrArg (fun v => v.outlets.get j) hsup).trans (PerOutlet.get_set_other _ _ hj)) (congrArg Supervision.closed hsup)

/-- R131, R132: an outlet's record changed and derived anew. -/
theorem State.Supervised.rederive {o : OutletRecord}
    (h : t.supervision = { s.supervision with outlets := s.om.outlets.set k o }) (first : Bool) :
    s.Supervised (t.rederive k first) := by
  have hsup := t.rederive_supervision k first
  refine .of_outlets ?_ ?_ ?_ fun hs j hj => ?_
  · exact (congrArg Supervision.config hsup).trans (congrArg Supervision.config h)
  · exact (congrArg Supervision.running hsup).trans (congrArg Supervision.running h)
  · exact (congrArg Supervision.view hsup).trans (congrArg Supervision.view h)
  · by_cases hjk : j = k
    · subst hjk
      exact t.outletOk_rederive j first
    · refine State.outletOk.rederive_other ((hs j hj).congr (congrArg Supervision.config h) ?_ (congrArg Supervision.closed h))
        hjk first
      exact (congrArg (fun v => v.outlets.get j) h).trans (PerOutlet.get_set_other _ _ hjk)

/-- R127: of an outlet's record the miss counter is no concern of its state and its summary. -/
theorem State.Supervised.of_misses {n : Nat} (h : t.supervision =
    { s.supervision with outlets := s.om.outlets.set k { s.om.outlet k with misses := n } }) : s.Supervised t := by
  have hconfig : t.config = s.config := congrArg Supervision.config h
  have hclosed : t.om.closed = s.om.closed := congrArg Supervision.closed h
  refine .of_outlets hconfig (congrArg Supervision.running h) (congrArg Supervision.view h) fun hs j hj => ?_
  by_cases hjk : j = k
  · subst hjk
    have houtlet : t.om.outlet j = { s.om.outlet j with misses := n } :=
      (congrArg (fun v => v.outlets.get j) h).trans (PerOutlet.get_set_self ..)
    obtain ⟨hstate, hsummary⟩ := hs j hj
    refine State.outletOk_of_outlet houtlet ?_ ?_
    · rw [hconfig, hclosed]
      exact hstate
    · rw [hconfig]
      exact hsummary
  · exact (hs j hj).congr hconfig ((congrArg (fun v => v.outlets.get j) h).trans (PerOutlet.get_set_other _ _ hjk)) hclosed

end

/-! ## The outlets of some decks derived anew (R129, R130) -/

section
variable {s t : State} {ds : List Nat} {k : OutletNo}

theorem State.rederiveAmong_frame (ds : List Nat) (s : State) (k : OutletNo) :
    (s.rederiveAmong ds k).config = s.config ∧ (s.rederiveAmong ds k).running = s.running
      ∧ (s.rederiveAmong ds k).om.view = s.om.view := by
  unfold State.rederiveAmong
  have h := s.rederive_supervision k false
  repeat' split
  · exact ⟨congrArg Supervision.config h, congrArg Supervision.running h, congrArg Supervision.view h⟩
  · exact ⟨rfl, rfl, rfl⟩
  · exact ⟨rfl, rfl, rfl⟩

/-- R131: an outlet's turn leaves every outlet as derived that was. -/
theorem State.outletOk.rederiveAmong {j : OutletNo} (h : s.outletOk j) (k : OutletNo) : (s.rederiveAmong ds k).outletOk j := by
  unfold State.rederiveAmong
  repeat' split
  · by_cases hj : j = k
    · subst hj
      exact s.outletOk_rederive j false
    · exact h.rederive_other hj false
  · exact h
  · exact h

/-- R129, R130: after the turns of some outlets each one stands as derived that did before or whose turn it was. -/
theorem State.outletOk_foldl_rederiveAmong {l : List OutletNo} {j : OutletNo}
    (h : s.outletOk j ∨ (j ∈ l ∧ ∃ d ∈ ds, (s.config.outlet j).deckServed = some d)) :
    (l.foldl (State.rederiveAmong ds) s).outletOk j := by
  induction l generalizing s with
  | nil => exact h.resolve_right fun ⟨hj, _⟩ => List.not_mem_nil hj
  | cons k ks ih =>
    obtain ⟨hconfig, -, -⟩ := State.rederiveAmong_frame ds s k
    refine ih ?_
    rcases h with hok | ⟨hj, d, hd, hserved⟩
    · exact .inl (hok.rederiveAmong k)
    · rcases List.mem_cons.mp hj with rfl | hj
      · rw [State.rederiveAmong_of_served hserved hd]
        exact .inl (s.outletOk_rederive j false)
      · exact .inr ⟨hj, d, hd, hconfig ▸ hserved⟩

theorem State.rederiveDecks_frame (ds : List Nat) (s : State) :
    (s.rederiveDecks ds).config = s.config ∧ (s.rederiveDecks ds).running = s.running
      ∧ (s.rederiveDecks ds).om.view = s.om.view := by
  have h : (fun u : State => (u.config, u.running, u.om.view)) (s.rederiveDecks ds) = (s.config, s.running, s.om.view) := by
    refine foldl_keeps (g := fun u : State => (u.config, u.running, u.om.view)) (fun u k => ?_) _ s
    obtain ⟨hconfig, hrunning, hview⟩ := State.rederiveAmong_frame ds u k
    exact congrArg₂ Prod.mk hconfig (congrArg₂ Prod.mk hrunning hview)
  simpa only [Prod.mk.injEq] using h

/-- R131: an outlet's state asks of the closed-deck set whether it holds the outlet's deck. -/
theorem outletStateOf_congr {role : OutletRole} {closed closed' : List Nat}
    (h : ∀ d, role = .deck d → (d ∈ closed' ↔ d ∈ closed)) (o : OutletRecord) :
    outletStateOf role o closed' = outletStateOf role o closed := by
  cases role with
  | stray => rfl
  | deck d =>
    have hcontains : closed'.contains d = closed.contains d := by
      rw [Bool.eq_iff_iff, List.contains_iff_mem, List.contains_iff_mem]
      exact h d rfl
    simp only [outletStateOf, hcontains]

/-- R129, R130: the closed-deck set changes in some decks and the outlets of these are derived anew. -/
theorem State.Supervised.rederiveDecks {closed : List Nat} (h : t.supervision = { s.supervision with closed := closed })
    (hclosed : ∀ d ∉ ds, (d ∈ closed ↔ d ∈ s.om.closed)) : s.Supervised (t.rederiveDecks ds) := by
  have hconfig : t.config = s.config := congrArg Supervision.config h
  obtain ⟨hconfig', hrunning, hview⟩ := State.rederiveDecks_frame ds t
  refine .of_outlets (hconfig'.trans hconfig) (hrunning.trans (congrArg Supervision.running h))
    (hview.trans (congrArg Supervision.view h)) fun hs k hk => ?_
  rw [State.rederiveDecks_eq_foldl]
  refine State.outletOk_foldl_rederiveAmong ?_
  by_cases hdue : ∃ d ∈ ds, (t.config.outlet k).deckServed = some d
  · exact .inr ⟨OutletNo.mem_all k, hdue⟩
  · obtain ⟨hstate, hsummary⟩ := hs k hk
    have hsame := outletStateOf_congr (role := (s.config.outlet k).role) (closed' := t.om.closed) (closed := s.om.closed)
      (fun d hrole => by
        rw [show t.om.closed = closed from congrArg Supervision.closed h]
        refine hclosed d fun hd => hdue ⟨d, hd, ?_⟩
        rw [hconfig]
        exact OutletConfig.deckServed_eq_some.mpr ⟨hk, hrole⟩) (s.om.outlet k)
    refine .inl (State.outletOk_of_outlet (o := s.om.outlet k) (congrArg (fun v => v.outlets.get k) h) ?_ ?_)
    · rw [hconfig, hsame]
      exact hstate
    · rw [hconfig]
      exact hsummary

end

/-! ## The operations that change the supervised part -/

section
variable {s : State}

theorem State.Supervised.takeConversions (s : State) (k : OutletNo) (codes : List (BitVec 10)) :
    s.Supervised (s.takeConversions k codes) := by
  refine .rederive (o := (s.om.outlet k).takeReading (s.config.outlet k) (readingOf s.config.averaging codes)
    (readingFaulted codes)) ?_ _
  rfl

theorem State.Supervised.followFault (s : State) (k : OutletNo) (asserted : Bool) : s.Supervised (s.followFault k asserted) :=
  .rederive (s.supervision_setOutlet k _) false

theorem State.Supervised.reportMiss (s : State) (k : OutletNo) : s.Supervised (s.reportMiss k) := by
  by_cases h : (s.om.outlet k).misses = 2
  · have hjams : (s.om.outlet k).missJams = true := beq_iff_eq.mpr h
    simp only [State.reportMiss, hjams, if_true]
    exact .rederive (o := (s.om.outlet k).miss) rfl false
  · rw [State.reportMiss_counts h]
    exact .of_misses (s.supervision_setOutlet k _)

theorem State.Supervised.takeRestore (s : State) (rx : Rx) (n : Nat) : s.Supervised (s.takeRestore rx n) := by
  unfold State.takeRestore
  split
  · exact .of_eq rfl
  · rename_i k _
    exact .rederive (o := { s.om.outlet k with jam := false, misses := 0 }) rfl false

theorem State.Supervised.takeDeckClose (s : State) (d : Nat) : s.Supervised (s.takeDeckClose d) := by
  unfold State.takeDeckClose
  split
  · refine .rederiveDecks (closed := if s.om.closed.contains d then s.om.closed else insertDeck d s.om.closed) rfl
      fun x hx => ?_
    split
    · exact Iff.rfl
    · rename_i hopen
      rw [if_neg hopen, List.mem_singleton] at hx
      exact mem_insertDeck.trans (or_iff_right hx)
  · exact .of_eq rfl

theorem State.Supervised.takeDeckOpen (s : State) (d : Nat) : s.Supervised (s.takeDeckOpen d) := by
  unfold State.takeDeckOpen
  split
  · refine .rederiveDecks (closed := s.om.closed.filter fun x => x != d) rfl fun x hx => ?_
    rw [List.mem_filter, bne_iff_ne]
    refine and_iff_left_of_imp fun hmem hxd => ?_
    subst hxd
    rw [if_pos (List.contains_iff_mem.mpr hmem)] at hx
    exact hx (List.mem_singleton_self x)
  · exact .of_eq rfl

/-- R130: the outlets of the decks that were closed are derived anew. -/
theorem State.Supervised.takePurge (s : State) : s.Supervised s.takePurge := by
  have hclear : ∀ u : State, u.Supervised u.clearClosedDecks := fun u =>
    .rederiveDecks rfl fun x hx => iff_of_false List.not_mem_nil hx
  exact (State.Supervised.after (hclear _) (by simp)).trans (.of_eq (State.markMap_supervision _))

theorem State.Supervised.standbyTest {t : State} (h : s.Supervised t) : s.Supervised t.standbyTest :=
  h.trans (.of_eq t.standbyTest_supervision)

/-! ### Pushes (R103, R104, R108, R110) -/

theorem State.Supervised.takeDeadline (s : State) (n : Count) : s.Supervised (s.takeDeadline n) := by
  unfold State.takeDeadline State.missPush
  repeat' split
  · exact State.Supervised.standbyTest (.after (.reportMiss _ _) (by simp))
  · exact .refl s
  · exact .refl s

theorem State.Supervised.takeFirePoint (s : State) (n : Count) : s.Supervised (s.takeFirePoint n) := by
  unfold State.takeFirePoint
  repeat' split
  · exact .after (.takeDeadline _ _) (by simp)
  · exact .of_eq (by simp [State.dropBusy])
  · exact .refl s
  · exact .refl s

theorem State.Supervised.carryOut (s : State) (k : OutletNo) (r : BagRecord) (d : Decision) :
    s.Supervised (s.carryOut k r d) := by
  cases d with
  | pass | passNoLength | markStray | deferBag => exact .of_eq rfl
  | commitStray => exact .after (.takeFirePoint _ _) (by simp)
  | commitDeck tag cabin deck => exact .after (.takeFirePoint _ _) (by simp)

theorem State.Supervised.takeArmPoint (s : State) (n : Count) (k : OutletNo) : s.Supervised (s.takeArmPoint n k) := by
  unfold State.takeArmPoint
  dsimp only
  repeat' split
  · exact .of_eq rfl
  · exact .after (.carryOut _ _ _ _) (by simp)
  · exact .of_eq rfl
  · exact .refl s
  · exact .refl s

theorem State.Supervised.takePoint (s : State) (p : Point) : s.Supervised (s.takePoint p) := by
  cases p with
  | span n => exact .of_eq (s.takeSpanPoint_supervision n)
  | windowEnd n => exact .of_eq (s.takeWindowEnd_supervision n)
  | expiry node bag => exact .of_eq (s.takeExpiry_supervision node bag)
  | close n => exact .of_eq (s.takeClosePoint_supervision n)
  | arm n k => exact .takeArmPoint s n k
  | fire n => exact .takeFirePoint s n
  | deadline n => exact .takeDeadline s n

theorem State.Supervised.deliverPush (s : State) (k : OutletNo) (r : BagRecord) : s.Supervised (s.deliverPush k r) :=
  .after (.of_misses (State.supervision_setOutlet _ k _)) (by simp)

theorem State.Supervised.followDelivery (s : State) (k : OutletNo) (r : BagRecord) (x : CommitmentKind) :
    s.Supervised (s.followDelivery k r x) := by
  cases x with
  | deck tag cabin deck => exact .of_eq rfl
  | stray => exact .of_eq (by simp [State.followDelivery])

theorem State.Supervised.exitBlocked (s : State) (k : OutletNo) : s.Supervised (s.exitBlocked k) := by
  unfold State.exitBlocked
  split
  · exact ((State.Supervised.deliverPush s k _).trans (.followDelivery _ k _ _)).standbyTest
  · exact .of_eq rfl

/-! ### The peer outlet view (R137, R140, R141, R195) -/

theorem State.Supervised.hear (s : State) (e : ViewEntry) : s.Supervised (s.onOm (OutletMonitor.hear e)) := by
  refine .of_view (v := (s.om.hear e).view) ?_ (OutletMonitor.viewOk_hear e)
  unfold State.onOm OutletMonitor.hear
  repeat' split
  all_goals rfl

theorem State.Supervised.takeOutletState (s : State) (c : NodeConfig) (rx : Rx) (r : ReceivedOutletState) :
    s.Supervised (s.onOm (OutletMonitor.takeOutletState c rx r)) := by
  unfold State.onOm OutletMonitor.takeOutletState
  repeat' split
  · exact .of_eq rfl
  · exact .hear s _
  · exact .of_eq rfl
  · exact .of_eq rfl

theorem State.Supervised.takeHello (s : State) (sender : Nat) : s.Supervised (s.takeHello sender) :=
  .of_sublist rfl List.filter_sublist

/-- R195: the view is emptied, and the node that runs joins anew. -/
theorem State.Supervised.takeReset (hrun : s.running = true) : s.Supervised s.takeReset := by
  have hblocks : s.Supervised s.resetBlocks :=
    .of_sublist (v := []) (congrArg (fun v : Supervision => { v with view := [] }) s.abandon_supervision)
      (List.nil_sublist _)
  have hjoin : s.resetBlocks.Supervised s.resetBlocks.rejoinHall := by
    refine .of_eq ((State.queueOutletStates_supervision _).trans (State.supervision_congr rfl ?_ rfl))
    exact (hblocks.running.trans hrun).symm
  unfold State.takeReset
  dsimp only
  split
  · exact (hblocks.trans hjoin).trans (.of_eq (State.startPass_supervision _))
  · exact hblocks.trans hjoin

end

/-! ## The commands -/

section
variable {s t : State}

/-- What a command keeps: the view within its bounds, and the outlets as they stand where the node runs and where it does
not. -/
structure State.KeepsSupervision (s t : State) : Prop where
  view    : s.om.viewOk → t.om.viewOk
  outlets : s.statesOk → s.outletsOk → t.outletsOk

theorem State.KeepsSupervision.refl (s : State) : s.KeepsSupervision s := ⟨id, fun _ => id⟩

theorem State.KeepsSupervision.of_eq (h : t.supervision = s.supervision) : s.KeepsSupervision t := by
  refine ⟨(State.Supervised.of_eq h).view, fun _ hs => ?_⟩
  have hrunning : t.running = s.running := congrArg Supervision.running h
  unfold State.outletsOk at hs ⊢
  rw [hrunning]
  split
  · rename_i hrun
    rw [if_pos hrun] at hs
    exact (State.Supervised.of_eq h).derived hs
  · rename_i hrun
    rw [if_neg hrun] at hs
    obtain ⟨houtlets, hclosed⟩ := hs
    exact ⟨(congrArg Supervision.outlets h).trans houtlets, (congrArg Supervision.closed h).trans hclosed⟩

/-- An operation of a node that runs. -/
theorem State.KeepsSupervision.of_supervised (hrun : s.running = true) (h : s.Supervised t) : s.KeepsSupervision t := by
  refine ⟨h.view, fun _ hs => ?_⟩
  rw [State.outletsOk_of_running hrun] at hs
  rw [State.outletsOk_of_running (h.running.trans hrun)]
  exact h.derived hs

/-- The outcome of a command that keeps the view and the outlets in order. -/
def outcomeKeepsSupervision (s : State) (o : Host.Outcome State Fault Refusal) : Prop :=
  ∃ t, o = .next t ∧ s.KeepsSupervision t

/-- A command, with or without a guard, that leaves the supervised part alone. -/
theorem keepsSupervision_of_eq (h : t.supervision = s.supervision) : outcomeKeepsSupervision s (.next t) :=
  ⟨t, rfl, .of_eq h⟩

theorem keepsSupervision_ite_of_eq {p : Prop} [Decidable p] (h : t.supervision = s.supervision) :
    outcomeKeepsSupervision s (.next (if p then t else s)) :=
  keepsSupervision_of_eq (by split <;> simp [h])

/-- A command of a running node. -/
theorem keepsSupervision_running {p : Prop} [Decidable p] (hp : p → s.running = true) (h : s.Supervised t) :
    outcomeKeepsSupervision s (.next (if p then t else s)) := by
  refine ⟨_, rfl, ?_⟩
  split
  · exact .of_supervised (hp ‹_›) h
  · exact .refl s

/-- The samples of a running node's command, and the effect of their event. -/
theorem keepsSupervision_heard {σ ε : Type} {r : Option (σ × Option ε)} {store : σ → State → State} {act : ε → State → State}
    {p : Prop} [Decidable p] (hp : p → s.running = true) (hstore : ∀ f, (store f s).supervision = s.supervision)
    (hact : ∀ e (u : State), u.Supervised (act e u)) :
    outcomeKeepsSupervision s (.next (if p then s.heard r store act else s)) := by
  refine keepsSupervision_running hp ?_
  rcases s.heard_cases r store act with ⟨-, he⟩ | ⟨f, -, he⟩ | ⟨f, e, -, he⟩ <;> rw [he]
  · exact .refl s
  · exact .of_eq (hstore f)
  · exact .after (hact e _) (hstore f)

/-- R184: the bits of a command of the hall line, which a node in CONFIG-FAULT reads too. -/
theorem keepsSupervision_bits {r : Option (LineWatch × Option HallEvent)} {act : HallEvent → State → State} {p : Prop}
    [Decidable p] (hact : ∀ e (u : State), (act e u).supervision = u.supervision) :
    outcomeKeepsSupervision s (.next (if p then s.heard r State.putWatch act else s)) := by
  refine keepsSupervision_ite_of_eq ?_
  rcases s.heard_cases r State.putWatch act with ⟨-, he⟩ | ⟨w, -, he⟩ | ⟨w, e, -, he⟩ <;> rw [he]
  · rfl
  · exact (hact e _).trans rfl

/-- R182, R183: a telegram of a running node is given to its owner; at any other it is at most counted. -/
theorem State.receive_keepsSupervision {owner : State → State}
    (h : ∀ u : State, u.running = true → u.Supervised (owner u)) (cls : Byte) (rx : Rx) (p : List Byte) :
    s.KeepsSupervision (s.receive cls rx p owner) := by
  by_cases hrun : s.running = true
  · refine .of_supervised hrun ?_
    unfold State.receive
    split
    · exact .refl s
    · exact .of_eq rfl
    · split
      · exact .after (h _ hrun) (s.takeTelegram_supervision rx)
      · exact .of_eq (by simp)
  · rw [State.receive_not_running (Bool.eq_false_iff.mpr hrun)]
    split
    · exact .refl s
    · exact .of_eq rfl

theorem keepsSupervision_receive {owner : State → State} {cls : Byte} {rx : Rx} {p : List Byte}
    (h : ∀ u : State, u.Supervised (owner u)) : outcomeKeepsSupervision s (.next (s.receive cls rx p owner)) :=
  ⟨_, rfl, State.receive_keepsSupervision (fun u _ => h u) cls rx p⟩

/-! ### Power and START -/

/-- R123, R131, R132: an outlet at power-on is FULL, which no open deck changes, and its summary UNAVAILABLE. -/
theorem State.outletOk_atPowerOn (houtlets : s.om.outlets = OutletMonitor.atPowerOn.outlets) (hclosed : s.om.closed = [])
    (k : OutletNo) : s.outletOk k := by
  have houtlet : s.om.outlet k = OutletRecord.atPowerOn := by
    rw [OutletMonitor.outlet, houtlets]
    cases k <;> rfl
  refine State.outletOk_of_outlet houtlet ?_ fun _ _ => rfl
  rw [hclosed]
  cases (s.config.outlet k).role <;> rfl

theorem keepsSupervision_powerOn (s : State) : outcomeKeepsSupervision s (exec .powerOn s) := by
  refine ⟨_, rfl, ?_⟩
  split
  · exact .refl s
  · rename_i hoff
    have hstopped : s.statesOk → (s.onNc fun n => { n with powered := true, state := .start }).supervision =
        s.supervision := by
      rintro ⟨-, -, hpower, -⟩
      refine s.onNc_supervision ?_
      rw [hpower (Bool.eq_false_iff.mpr hoff)]
    refine ⟨fun hs => (State.Supervised.of_eq (State.startStages_supervision _)).view ?_, fun hs => ?_⟩
    · exact hs
    · exact (State.KeepsSupervision.of_eq ((State.startStages_supervision _).trans (hstopped hs))).outlets hs

theorem keepsSupervision_startComplete (s : State) (straps : BitVec 6) (image : List Byte) :
    outcomeKeepsSupervision s (exec (.startComplete straps image) s) := by
  refine ⟨_, rfl, ?_⟩
  split
  · rename_i hguard
    obtain ⟨-, hstart⟩ := hguard
    split
    · exact .of_eq (s.onNc_supervision (by rw [hstart]; rfl))
    · refine ⟨id, fun _ hs => ?_⟩
      have hstopped : ¬ s.running = true := by rw [State.running, hstart]; exact Bool.false_ne_true
      rw [State.outletsOk, if_neg hstopped] at hs
      obtain ⟨houtlets, hclosed⟩ := hs
      refine (State.outletsOk_of_running rfl).mpr fun k _ => State.outletOk_atPowerOn ?_ ?_ k
      · exact houtlets
      · exact hclosed
  · exact .refl s

/-- R196: the main supply held the records, the set and the view. -/
theorem keepsSupervision_powerLoss (s : State) : outcomeKeepsSupervision s (exec .powerLoss s) := by
  refine ⟨_, rfl, ?_⟩
  split
  · exact ⟨fun _ => ⟨Nat.zero_le _, List.nodup_nil⟩, fun _ _ => ⟨rfl, rfl⟩⟩
  · exact .refl s

/-! ### Every command -/

theorem exec_keepsSupervision (c : Instr) (s : State) : outcomeKeepsSupervision s (exec c s) := by
  cases c with
  | powerOn => exact keepsSupervision_powerOn s
  | startComplete straps image => exact keepsSupervision_startComplete s straps image
  | powerLoss => exact keepsSupervision_powerLoss s
  | retentionLow => exact keepsSupervision_of_eq (by split <;> rfl)
  | encoderPulse => exact keepsSupervision_running id (.after (.foldl .takePoint _ _) rfl)
  | speedWindowEnd => exact keepsSupervision_ite_of_eq rfl
  | inductionBlockedEdge samples =>
    exact keepsSupervision_heard id (fun _ => rfl) fun _ u => .of_eq u.inductionBlocked_supervision
  | inductionClearedEdge samples =>
    exact keepsSupervision_heard id (fun _ => rfl) fun _ u => .of_eq u.inductionCleared_supervision
  | handoffEyeBlockedEdge samples =>
    exact keepsSupervision_heard id (fun _ => rfl) fun _ u => .of_eq u.handoffBlocked_supervision
  | exitEyeBlockedEdge k samples =>
    exact keepsSupervision_heard Bool.and_elim_left (fun _ => rfl) fun _ u => .exitBlocked u k
  | actuatorFaultChange k samples =>
    exact keepsSupervision_heard Bool.and_elim_left (fun _ => rfl) fun e u => .followFault u k e.level
  | framingError line => exact keepsSupervision_heard s.running_of_readerRuns (fun _ => rfl) fun _ _ => .of_eq rfl
  | readerBreak line =>
    exact keepsSupervision_heard s.running_of_readerRuns (fun _ => rfl) fun _ u => .of_eq u.takeBreak_supervision
  | report line =>
    exact keepsSupervision_heard s.running_of_readerRuns (fun _ => rfl) fun e u => .of_eq (u.takeCharacter_supervision e)
  | characterReceived line =>
    exact keepsSupervision_heard s.running_of_readerRuns (fun _ => rfl) fun e u => .of_eq (u.takeCharacter_supervision e)
  | rateMeasurement line =>
    exact keepsSupervision_heard s.running_of_readerMeasures (fun _ => rfl) fun e u => .of_eq (u.takeRate_supervision e)
  | rateOverflow line =>
    exact keepsSupervision_heard s.running_of_readerMeasures (fun _ => rfl) fun e u => .of_eq (u.takeRate_supervision e)
  | spanPoint n => exact keepsSupervision_ite_of_eq (s.takeSpanPoint_supervision n)
  | windowEndPoint n => exact keepsSupervision_ite_of_eq (s.takeWindowEnd_supervision n)
  | expiryPoint node bag => exact keepsSupervision_ite_of_eq (s.takeExpiry_supervision node bag)
  | closePoint n => exact keepsSupervision_ite_of_eq (s.takeClosePoint_supervision n)
  | armPoint n k => exact keepsSupervision_running id (.takeArmPoint s n k)
  | firePoint n => exact keepsSupervision_running id (.takeFirePoint s n)
  | deadlinePoint n => exact keepsSupervision_running id (.takeDeadline s n)
  | strokeTimerExpiry k => exact keepsSupervision_ite_of_eq (State.standbyTest_supervision _)
  | gaugeConversionEnd codes =>
    cases hpass : s.om.pass with
    | none => exact ⟨s, exec_gaugeConversionEnd_none (.inl hpass), .refl s⟩
    | some k =>
      have hexec : exec (.gaugeConversionEnd codes) s = .next
          (if s.running && codes.length == s.config.averaging then s.takeConversions k codes else s) :=
        congrArg Host.Outcome.next (by simp only [hpass])
      rw [hexec]
      exact keepsSupervision_running Bool.and_elim_left (.takeConversions s k codes)
  | gaugePassStart => exact keepsSupervision_ite_of_eq s.startPass_supervision
  | refreshTimerExpiry => exact keepsSupervision_ite_of_eq s.queueOutletStates_supervision
  | viewExpiry peer deck time =>
    exact keepsSupervision_running Bool.and_elim_left (.of_sublist rfl List.filter_sublist)
  | claimWindowEnd sequence => exact keepsSupervision_ite_of_eq (by dsimp only; split <;> rfl)
  | joinTimerExpiry =>
    refine ⟨_, rfl, ?_⟩
    split
    · rename_i hguard
      exact .of_eq (s.onNc_supervision (by rw [hguard.1]; rfl))
    · exact .refl s
  | sweepExamination =>
    refine keepsSupervision_of_eq ?_
    repeat' split
    · exact s.examineNext_supervision _
    · rfl
    · rfl
  | purgeComplete => exact keepsSupervision_ite_of_eq s.completePurge_supervision
  | attemptStart line =>
    refine keepsSupervision_ite_of_eq ?_
    split
    · rfl
    · exact State.startAttempt_supervision _
  | attemptEnd line => exact keepsSupervision_bits fun e u => u.endAttempt_supervision e
  | receiveError line => exact keepsSupervision_bits fun _ _ => rfl
  | detachment line => exact keepsSupervision_bits fun _ u => u.takeIdleGap_supervision
  | rejoin line => exact keepsSupervision_bits fun _ u => u.takeIdleGap_supervision
  | idleGap line => exact keepsSupervision_bits fun _ u => u.takeIdleGap_supervision
  | telegramDiscarded cls rx p => exact keepsSupervision_of_eq (s.takeDiscarded_supervision cls rx p)
  | handoff rx p => exact keepsSupervision_receive fun u => .of_eq (u.wakeIfAddressed_supervision rx)
  | manifest rx p => exact keepsSupervision_receive fun u => .of_eq (u.takeManifestTelegram_supervision _)
  | manifestWithdraw rx p => exact keepsSupervision_receive fun u => .of_eq (u.takeManifestTelegram_supervision _)
  | deckMap rx p => exact keepsSupervision_receive fun u => .of_eq (u.takeManifestTelegram_supervision _)
  | delivered rx p => exact keepsSupervision_receive fun _ => .of_eq rfl
  | purge rx p => exact keepsSupervision_receive .takePurge
  | outletState rx p => exact keepsSupervision_receive fun u => .takeOutletState u ..
  | deckClose rx p => exact keepsSupervision_receive fun u => .takeDeckClose u _
  | deckOpen rx p => exact keepsSupervision_receive fun u => .takeDeckOpen u _
  | outletRestore rx p =>
    exact keepsSupervision_receive fun u => .after (.takeRestore _ rx _) (u.wakeIfAddressed_supervision rx)
  | strayCall rx p => exact keepsSupervision_receive fun u => .of_eq (u.takeCall_supervision ..)
  | claim rx p => exact keepsSupervision_receive fun u => .of_eq (by simp)
  | lost rx p => exact keepsSupervision_receive fun u => .of_eq (u.takeLost_supervision _)
  | misplaced rx p => exact keepsSupervision_receive fun u => .of_eq (u.takeMisplaced_supervision ..)
  | reset rx p => exact ⟨_, rfl, State.receive_keepsSupervision (fun _ hrun => .takeReset hrun) ..⟩
  | standby rx p => exact keepsSupervision_receive fun u => .of_eq u.takeStandby_supervision
  | wake rx p => exact keepsSupervision_receive fun u => .of_eq u.takeWake_supervision
  | hello rx p => exact keepsSupervision_receive fun u => .takeHello u _
  | identity rx a => exact keepsSupervision_receive fun u => .of_eq (u.takeQuery_supervision ..)
  | outlet rx a => exact keepsSupervision_receive fun u => .of_eq (u.takeQuery_supervision ..)
  | tag rx a => exact keepsSupervision_receive fun u => .of_eq (u.takeQuery_supervision ..)
  | cabin rx a => exact keepsSupervision_receive fun u => .of_eq (u.takeQuery_supervision ..)
  | counters rx a => exact keepsSupervision_receive fun u => .of_eq (u.takeQuery_supervision ..)
  | strayLog rx a => exact keepsSupervision_receive fun u => .of_eq (u.takeLogQuery_supervision ..)
  | map rx a => exact keepsSupervision_receive fun u => .of_eq (u.takeMapQuery_supervision ..)
  | queryKindUnknown rx kind a =>
    refine ⟨_, rfl, ?_⟩
    unfold State.takeUnknownKind
    split
    · exact .refl s
    · exact State.receive_keepsSupervision (fun u _ => .of_eq (u.takeQuery_supervision ..)) ..

theorem step_keepsSupervision {s t : State} (h : step s = .next t) : s.KeepsSupervision t := by
  refine step_of_exec State.KeepsSupervision.refl (fun c cs s => ?_) h
  obtain ⟨t, ht, hview, houtlets⟩ := exec_keepsSupervision c { s with pending := cs }
  exact ⟨t, ht, hview, houtlets⟩

end

end Sys2Proof.Machine

open Sys2Proof.Machine

/-- Settles O15: of the commands that reach the view one enters a peer's report and the others take entries out. -/
theorem peerViewKept : Obligations.PeerViewKept := by
  unfold Obligations.PeerViewKept
  exact fun s t hview hstep => (step_keepsSupervision hstep).view hview

/-- Settles O16: what changes an outlet's record or the closed-deck set derives the outlets it concerns anew, and what changes
a miss counter alone leaves them as derived. -/
theorem outletStatesKept : Obligations.OutletStatesKept := by
  unfold Obligations.OutletStatesKept
  exact fun s t hstates houtlets hstep => (step_keepsSupervision hstep).outlets hstates houtlets

end

section
/-! SUPPORT. The stray log's order (R151, R152, R159): the entries' numbers, an entry's claims, and what each change of the log
keeps of them. -/

open Sys2Proof

namespace Sys2Proof.Machine

/-! ## An entry's claims (R159) -/

section
variable {e : LogEntry} {f : ClaimFields}

theorem LogEntry.ok.endWindow (h : e.ok) : e.endWindow.ok := by
  obtain ⟨hlength, hnodup, -⟩ := h
  exact ⟨hlength, hnodup, rfl⟩

/-- R162: a claim that is taken finds room and is no repetition. -/
theorem judgeClaim_taken (h : judgeClaim e f = .taken) :
    e.claims.length < Config.maxClaims ∧ ∀ d ∈ e.claims, ¬ (d.node = f.node ∧ d.tag = f.tag) := by
  unfold judgeClaim at h
  split_ifs at h with _ _ hrepeated _ hsurplus
  exact ⟨Nat.lt_of_not_le hsurplus, by simpa using hrepeated⟩

theorem LogEntry.ok.addClaim (h : e.ok) (htaken : judgeClaim e f = .taken) : (e.addClaim f).ok := by
  obtain ⟨-, hnodup, -⟩ := h
  obtain ⟨hroom, hnew⟩ := judgeClaim_taken htaken
  refine ⟨?_, ?_, rfl⟩
  · rw [LogEntry.addClaim, List.length_append]
    exact hroom
  · rw [LogEntry.addClaim, List.map_append]
    refine hnodup.append (List.nodup_singleton _) fun pair hpair hf => ?_
    obtain ⟨d, hd, rfl⟩ := List.mem_map.mp hpair
    exact hnew d hd (Prod.mk.inj (List.mem_singleton.mp hf))

end

/-! ## The numbers (R151, R152) -/

section
variable {u v : StrayUnit}

theorem StrayUnit.logOk.sequence_getElem (h : u.logOk) {i : Nat} (hi : i < u.ring.length) :
    u.ring[i].sequence = u.nextSequence - BitVec.ofNat 16 (u.ring.length - i) := by
  obtain ⟨-, hnumbers, -⟩ := h
  have hget := congrArg (fun l : List Count => l[i]?) hnumbers
  simpa [hi] using hget

/-- R152: the ring is shorter than the cycle of the numbers, so that no two entries have one number. -/
theorem StrayUnit.logOk.sequences_nodup (h : u.logOk) : (u.ring.map LogEntry.sequence).Nodup := by
  obtain ⟨hlength, hnumbers, -⟩ := h
  simp only [Config.maxLog] at hlength
  rw [hnumbers]
  refine List.Nodup.map_on (fun i hi j hj hij => ?_) List.nodup_range
  rw [List.mem_range] at hi hj
  have hnat := congrArg BitVec.toNat (sub_right_injective hij)
  simp only [BitVec.toNat_ofNat] at hnat
  omega

theorem StrayUnit.logOk.eq_of_sequence (h : u.logOk) {x y : LogEntry} (hx : x ∈ u.ring) (hy : y ∈ u.ring)
    (hxy : x.sequence = y.sequence) : x = y :=
  List.inj_on_of_nodup_map h.sequences_nodup hx hy hxy

theorem StrayUnit.logOk_of_empty (h : u.ring = []) : u.logOk := by
  unfold StrayUnit.logOk
  rw [h]
  exact ⟨Nat.zero_le _, rfl, List.forall_mem_nil _⟩

/-- A change of entries in place that keeps their numbers. -/
theorem StrayUnit.logOk.map {f : LogEntry → LogEntry} (h : u.logOk) (hring : v.ring = u.ring.map f)
    (hnext : v.nextSequence = u.nextSequence) (hsequence : ∀ e, (f e).sequence = e.sequence)
    (hok : ∀ e ∈ u.ring, e.ok → (f e).ok) : v.logOk := by
  obtain ⟨hlength, hnumbers, hentries⟩ := h
  have hsame : LogEntry.sequence ∘ f = LogEntry.sequence := funext hsequence
  unfold StrayUnit.logOk
  rw [hring, hnext, List.length_map, List.map_map, hsame, List.forall_mem_map]
  exact ⟨hlength, hnumbers, fun e he => hok e he (hentries e he)⟩

theorem StrayUnit.logOk.of_eq (h : u.logOk) (hring : v.ring = u.ring) (hnext : v.nextSequence = u.nextSequence) : v.logOk :=
  h.map (f := id) (by rw [hring, List.map_id]) hnext (fun _ => rfl) fun _ _ => id

/-- R152: a new entry, numbered next, after the newest of the entries that stay. -/
theorem StrayUnit.logOk.append {k : Nat} {e : LogEntry} (h : u.logOk) (hring : v.ring = u.ring.drop k ++ [e])
    (hnext : v.nextSequence = u.nextSequence + 1) (hroom : u.ring.length - k < Config.maxLog)
    (hsequence : e.sequence = u.nextSequence) (he : e.ok) : v.logOk := by
  have hlength : v.ring.length = u.ring.length - k + 1 := by
    rw [hring, List.length_append, List.length_drop, List.length_singleton]
  refine ⟨hlength ▸ hroom, ?_, ?_⟩
  · rw [hlength, hnext, hring]
    refine List.ext_getElem (by simp) fun i hi _ => ?_
    simp only [List.length_map, List.length_append, List.length_drop, List.length_singleton] at hi
    rw [List.getElem_map, List.getElem_map, List.getElem_range]
    rcases Nat.lt_succ_iff_lt_or_eq.mp hi with hold | rfl
    · have hindex : k + i < u.ring.length := by omega
      rw [List.getElem_append_left (by rwa [List.length_drop]), List.getElem_drop, h.sequence_getElem hindex,
        show u.ring.length - k + 1 - i = u.ring.length - (k + i) + 1 by omega, BitVec.ofNat_add]
      exact (add_sub_add_right_eq_sub _ _ _).symm
    · rw [List.getElem_append_right (by rw [List.length_drop])]
      simp [hsequence]
  · obtain ⟨-, -, hentries⟩ := h
    intro x hx
    rw [hring, List.mem_append, List.mem_singleton] at hx
    rcases hx with hx | rfl
    · exact hentries x (List.mem_of_mem_drop hx)
    · exact he

/-! ## The changes of the log -/

/-- R151, R152: an entry with at most three claims, none repeated, joins the log. -/
theorem StrayUnit.logOk.create (h : u.logOk) (kind : LogKind) (tags : List Nat) (lap length : Option Nat)
    {claims : List ClaimFields} (window : ClaimWindow) (hlength : claims.length ≤ Config.maxClaims)
    (hnodup : (claims.map fun c => (c.node, c.tag)).Nodup) : (u.create kind tags lap length claims window).logOk := by
  have hfull : u.ring.length ≤ Config.maxLog := h.1
  unfold StrayUnit.create
  cases hring : u.ring with
  | nil =>
    exact h.append (k := 0) (by rw [hring]; rfl) rfl (by rw [hring]; exact Nat.zero_lt_succ _) rfl ⟨hlength, hnodup, rfl⟩
  | cons old rest =>
    rw [hring] at hfull
    dsimp only
    split
    · rename_i hroom
      exact h.append (k := 0) (by rw [hring]; rfl) rfl (by rw [hring]; exact hroom) rfl ⟨hlength, hnodup, rfl⟩
    · exact h.append (k := 1) (by rw [hring]; rfl) rfl (by rw [hring]; exact hfull) rfl ⟨hlength, hnodup, rfl⟩

/-- R154: a reported entry has no claims. -/
theorem StrayUnit.logOk.withReport (h : u.logOk) (kind : LogKind) (tags : List Nat) (lap : Option Nat) :
    (u.withReport kind tags lap).logOk := by
  rw [← StrayUnit.create_report]
  exact (h.create kind tags lap none (claims := []) .none (Nat.zero_le _) List.nodup_nil).of_eq rfl rfl

/-- R162: a claim that is taken joins the one entry with its number. -/
theorem StrayUnit.logOk.addClaim {sequence : Count} {f : ClaimFields} {e : LogEntry} (h : u.logOk)
    (he : u.ring.find? (fun e => e.sequence == sequence) = some e) (htaken : judgeClaim e f = .taken) :
    (u.addClaim sequence f).logOk := by
  have hnumber : e.sequence = sequence := by simpa using List.find?_some he
  refine h.map (f := fun x => if x.sequence = sequence then x.addClaim f else x) rfl rfl (fun x => ?_) fun x hx hxok => ?_
  · split <;> rfl
  · split
    · rename_i hsequence
      cases h.eq_of_sequence hx (List.mem_of_find?_eq_some he) (hsequence.trans hnumber.symm)
      exact hxok.addClaim htaken
    · exact hxok

/-- R160, R165: the windows that meet a condition end. -/
theorem StrayUnit.logOk.endWindows {p : LogEntry → Prop} [DecidablePred p] (h : u.logOk)
    (hring : v.ring = u.ring.map fun e => if p e then e.endWindow else e) (hnext : v.nextSequence = u.nextSequence) :
    v.logOk := by
  refine h.map hring hnext (fun x => ?_) fun x _ hx => ?_
  · split <;> rfl
  · split
    · exact hx.endWindow
    · exact hx

end

/-! ## The stray node's own claims (R157) -/

/-- R156, R157: the claims for some tags are for these tags, in their order. -/
theorem State.ownClaims_tags (s : State) (tags : List Nat) : ((s.ownClaims tags).map ClaimFields.tag).Sublist tags := by
  unfold State.ownClaims
  induction tags with
  | nil => exact .slnil
  | cons tag tags ih =>
    rw [List.filterMap_cons]
    cases hclaim : s.claimFor tag with
    | none => exact ih.cons _
    | some f =>
      obtain ⟨e, -, rfl⟩ := Option.map_eq_some_iff.mp hclaim
      exact ih.cons_cons tag

theorem State.ownClaims_nodup {tags : List Nat} (h : tags.Nodup) (s : State) :
    ((s.ownClaims tags).map fun c => (c.node, c.tag)).Nodup := by
  have htags : (((s.ownClaims tags).map fun c => (c.node, c.tag)).map Prod.snd).Nodup := by
    rw [List.map_map]
    exact h.sublist (s.ownClaims_tags tags)
  exact htags.of_map _

end Sys2Proof.Machine

end

section
/-! SUPPORT. The Stray Unit through the other blocks' operations: which of them leave it alone, and what the others keep of its
log (R37, R71, R153 to R165). -/

open Sys2Proof

namespace Sys2Proof.Machine

/-! ## Operations that leave the Stray Unit alone -/

section
variable (s : State)

/-! ### Shared operations -/

@[simp] theorem State.endRecord_su (n) : (s.endRecord n).su = s.su := by
  unfold State.endRecord; split <;> rfl

@[simp] theorem State.dropArmed_su (k) : (s.dropArmed k).su = s.su :=
  (foldl_keeps (g := State.su) (fun u (c : Commitment) => State.onSt_su u (SectionTracker.notice c.record _)) _ _).trans rfl

@[simp] theorem State.summarise_su (k first) : (s.summarise k first).su = s.su := by
  rw [State.summarise_eq]; split <;> rfl

@[simp] theorem State.rederive_su (k first) : (s.rederive k first).su = s.su := by
  simp only [State.rederive, State.summarise_su]
  repeat' split
  · rfl
  · exact State.dropArmed_su ..
  · rfl

@[simp] theorem State.rederiveDecks_su (ds) : (s.rederiveDecks ds).su = s.su := by
  rw [State.rederiveDecks_eq_foldl]
  refine foldl_keeps (g := State.su) (fun u k => ?_) _ _
  unfold State.rederiveAmong
  repeat' split
  all_goals simp

@[simp] theorem State.clearClosedDecks_su : s.clearClosedDecks.su = s.su := State.rederiveDecks_su ..

@[simp] theorem State.queueOutletStates_su : s.queueOutletStates.su = s.su := by
  rw [State.queueOutletStates_eq]; rfl

@[simp] theorem State.wakeUp_su : s.wakeUp.su = s.su := by
  rw [State.wakeUp_eq]; split <;> rfl

@[simp] theorem State.wakeIfAddressed_su (rx) : (s.wakeIfAddressed rx).su = s.su := by
  unfold State.wakeIfAddressed; split <;> simp

@[simp] theorem State.discard_su (j) : (s.discard j).su = s.su := by
  cases j <;> rfl

/-! ### The Section Tracker and the reader port -/

@[simp] theorem State.inductionBlocked_su : s.inductionBlocked.su = s.su := by
  unfold State.inductionBlocked; dsimp only; split <;> exact s.wakeUp_su

@[simp] theorem State.withdraw_su (n) : (s.withdraw n).su = s.su := by simp [State.withdraw]

@[simp] theorem State.takeClosePoint_su (n) : (s.takeClosePoint n).su = s.su := by
  unfold State.takeClosePoint; repeat' split
  all_goals rfl

@[simp] theorem State.takeSpanPoint_su (n) : (s.takeSpanPoint n).su = s.su := by
  unfold State.takeSpanPoint; repeat' split
  all_goals rfl

@[simp] theorem State.handoffBlocked_su : s.handoffBlocked.su = s.su := by
  unfold State.handoffBlocked State.handOff; repeat' split
  all_goals simp

@[simp] theorem State.bindRead_su (tag) : (s.bindRead tag).su = s.su := by
  unfold State.bindRead; split <;> rfl

@[simp] theorem State.judgeReport_su (cs) : (s.judgeReport cs).su = s.su := by
  unfold State.judgeReport; dsimp only; split <;> simp

@[simp] theorem State.assemble_su (ch) : (s.assemble ch).su = s.su := by
  unfold State.assemble; repeat' split
  all_goals simp

@[simp] theorem State.takeCharacter_su (e) : (State.takeCharacter e s).su = s.su := by
  unfold State.takeCharacter State.receiveCharacter; repeat' split
  all_goals simp

@[simp] theorem State.takeBreak_su : s.takeBreak.su = s.su := by
  unfold State.takeBreak State.bindBreak; repeat' split
  all_goals rfl

@[simp] theorem State.takeRate_su (e) : (State.takeRate e s).su = s.su := by
  cases e <;> rfl

/-! ### The Divert Controller and the Outlet Monitor -/

@[simp] theorem State.reportMiss_su (k) : (s.reportMiss k).su = s.su := by
  unfold State.reportMiss
  dsimp only
  split
  · exact State.rederive_su ..
  · rfl

@[simp] theorem State.takeDeadline_su (n) : (s.takeDeadline n).su = s.su := by
  unfold State.takeDeadline State.missPush; repeat' split
  all_goals simp

@[simp] theorem State.takeFirePoint_su (n) : (s.takeFirePoint n).su = s.su := by
  unfold State.takeFirePoint State.firePusher State.dropBusy; repeat' split
  all_goals simp

@[simp] theorem State.evaluate_su (k r) : (s.evaluate k r).su = s.su := by
  unfold State.evaluate
  cases decideRoute s k r <;> simp [State.carryOut, State.commit]

@[simp] theorem State.takeArmPoint_su (n k) : (s.takeArmPoint n k).su = s.su := by
  unfold State.takeArmPoint; dsimp only; repeat' split
  all_goals simp

@[simp] theorem State.deliverPush_su (k r) : (s.deliverPush k r).su = s.su := by
  obtain ⟨-, -, -, -, -, hsu, -⟩ := s.deliverPush_spec k r
  exact hsu

@[simp] theorem State.takeConversions_su (k cs) : (s.takeConversions k cs).su = s.su := by
  simp [State.takeConversions]

@[simp] theorem State.takeRestore_su (rx n) : (s.takeRestore rx n).su = s.su := by
  unfold State.takeRestore; split <;> simp

@[simp] theorem State.takeDeckClose_su (d) : (s.takeDeckClose d).su = s.su := by
  unfold State.takeDeckClose; split <;> simp

@[simp] theorem State.takeDeckOpen_su (d) : (s.takeDeckOpen d).su = s.su := by
  unfold State.takeDeckOpen; split <;> simp

/-! ### The Hall Line Controller and Node Control -/

@[simp] theorem State.startAttempt_su : s.startAttempt.su = s.su := by
  unfold State.startAttempt; split <;> rfl

@[simp] theorem State.endAttempt_su (e) : (State.endAttempt e s).su = s.su := by
  unfold State.endAttempt; split <;> simp

@[simp] theorem State.takeIdleGap_su : s.takeIdleGap.su = s.su := by
  unfold State.takeIdleGap State.detach State.rejoin; dsimp only; repeat' split
  all_goals simp [State.queueHello]

@[simp] theorem State.takeDiscarded_su (cls rx p) : (s.takeDiscarded cls rx p).su = s.su := by
  unfold State.takeDiscarded; repeat' split
  all_goals simp [State.takeInFault]

@[simp] theorem State.abandon_su : s.abandon.su = s.su :=
  (foldl_keeps (g := State.su) (fun u _ => State.endRecord_su u _) _ _).trans rfl

@[simp] theorem State.takeReset_su : s.takeReset.su = s.su := by
  unfold State.takeReset; dsimp only
  split <;> simp [State.rejoinHall, State.resetBlocks, State.startPass, State.enterJoining, State.queueHello]

@[simp] theorem State.takeStandby_su : s.takeStandby.su = s.su := by
  unfold State.takeStandby; split <;> simp [State.ignoreCommand]

@[simp] theorem State.takeWake_su : s.takeWake.su = s.su := by
  unfold State.takeWake; split <;> simp [State.ignoreCommand]

@[simp] theorem State.takeQuery_su (rx k b) : (s.takeQuery rx k b).su = s.su := by
  unfold State.takeQuery; split <;> simp [State.discardQuery, State.reply]

@[simp] theorem State.takeLogQuery_su (rx c p) : (s.takeLogQuery rx c p).su = s.su := by
  unfold State.takeLogQuery; dsimp only; split <;> simp

@[simp] theorem State.takeMapQuery_su (rx c) : (s.takeMapQuery rx c).su = s.su := by
  unfold State.takeMapQuery; dsimp only; split <;> simp

end

/-! ## What an operation keeps of the log -/

/-- The log of `t` is in order where that of `s` is. -/
def State.KeepsLog (s t : State) : Prop := s.su.logOk → t.su.logOk

section
variable {s t u : State}

theorem State.KeepsLog.refl (s : State) : s.KeepsLog s := id

theorem State.KeepsLog.trans (h : s.KeepsLog t) (h' : t.KeepsLog u) : s.KeepsLog u := h' ∘ h

theorem State.KeepsLog.of_log (hring : t.su.ring = s.su.ring) (hnext : t.su.nextSequence = s.su.nextSequence) :
    s.KeepsLog t := fun h => h.of_eq hring hnext

theorem State.KeepsLog.of_eq (h : t.su = s.su) : s.KeepsLog t :=
  .of_log (congrArg StrayUnit.ring h) (congrArg StrayUnit.nextSequence h)

theorem State.KeepsLog.of_empty (h : t.su.ring = []) : s.KeepsLog t := fun _ => StrayUnit.logOk_of_empty h

theorem State.KeepsLog.congr (heq : u.su = t.su) (h : s.KeepsLog t) : s.KeepsLog u := h.trans (.of_eq heq)

/-- What is kept after a state of the same Stray Unit is kept after this one. -/
theorem State.KeepsLog.after (h : u.KeepsLog t) (heq : u.su = s.su) : s.KeepsLog t := (State.KeepsLog.of_eq heq).trans h

theorem State.KeepsLog.ite {p : Prop} [Decidable p] (h : p → s.KeepsLog t) : s.KeepsLog (if p then t else s) := by
  split
  · exact h ‹_›
  · exact .refl s

/-- A fold of operations that each keep it. -/
theorem State.KeepsLog.foldl {α : Type} {f : State → α → State} (h : ∀ (u : State) a, u.KeepsLog (f u a)) (l : List α)
    (s : State) : s.KeepsLog (l.foldl f s) := by
  induction l generalizing s with
  | nil => exact .refl s
  | cons a l ih => exact (h s a).trans (ih _)

/-! ### Reports (R37, R71, R154) -/

theorem State.logReport_eq (s : State) (kind : LogKind) (tags : List Nat) (lap : Option Nat) :
    s.logReport kind tags lap = { s with su := s.su.withReport kind tags lap, nc := { s.nc with logMark := true } } := by
  rw [← StrayUnit.create_report]
  rfl

theorem State.KeepsLog.logReport (s : State) (kind : LogKind) (tags : List Nat) (lap : Option Nat) :
    s.KeepsLog (s.logReport kind tags lap) := by
  rw [State.logReport_eq]
  exact fun h => h.withReport kind tags lap

theorem State.KeepsLog.reportLost (s : State) (r : LossReport) : s.KeepsLog (s.reportLost r) := by
  unfold State.reportLost
  dsimp only
  split
  · exact .after (.logReport _ _ _ _) rfl
  · exact .of_eq rfl

theorem State.KeepsLog.reportMisplaced (s : State) (r : MisplacedReport) : s.KeepsLog (s.reportMisplaced r) := by
  unfold State.reportMisplaced
  dsimp only
  split
  · exact .after (.logReport _ _ _ _) rfl
  · exact .of_eq rfl

theorem State.KeepsLog.standbyTest (h : s.KeepsLog t) : s.KeepsLog t.standbyTest := .congr t.standbyTest_su h

/-! ### LOST from the Section Tracker (R25, R26, R36) -/

theorem State.KeepsLog.bindAtTrailing (s : State) (n : Count) (length : Nat) : s.KeepsLog (s.bindAtTrailing n length) := by
  unfold State.bindAtTrailing
  repeat' split
  · exact .refl s
  · exact .of_eq rfl
  · exact .refl s
  · exact .refl s
  · exact .congr (State.onSt_su _ _) (.after (.reportLost _ _) rfl)
  · exact .refl s

theorem State.KeepsLog.bindIfAwaiting (s : State) (n : Count) (length : Nat) : s.KeepsLog (s.bindIfAwaiting n length) := by
  unfold State.bindIfAwaiting
  repeat' split
  · exact .bindAtTrailing s n length
  · exact .refl s
  · exact .refl s

theorem State.KeepsLog.trailingEdge (s : State) (n leading : Count) : s.KeepsLog (s.trailingEdge n leading) := by
  unfold State.trailingEdge State.registerClosePoint
  dsimp only
  repeat' split
  · exact .of_eq (by simp)
  · exact .after (.bindIfAwaiting _ _ _) (by simp)
  · exact .after (.bindIfAwaiting _ _ _) (by simp)

theorem State.KeepsLog.inductionCleared (s : State) : s.KeepsLog s.inductionCleared := by
  unfold State.inductionCleared
  dsimp only
  repeat' split
  · exact .of_eq rfl
  · exact .of_eq rfl
  · exact .of_eq rfl
  · exact .after (.trailingEdge _ _ _) rfl

theorem State.KeepsLog.takeWindowEnd (s : State) (n : Count) : s.KeepsLog (s.takeWindowEnd n) := by
  unfold State.takeWindowEnd
  repeat' split
  · exact .standbyTest (.congr (State.endRecord_su _ _) (.after (.reportLost _ _) rfl))
  · exact .refl s
  · exact .refl s

theorem State.KeepsLog.takeExpiry (s : State) (node : Nat) (bag : Count) : s.KeepsLog (s.takeExpiry node bag) := by
  unfold State.takeExpiry
  repeat' split
  · exact .standbyTest (.after (.reportLost _ _) rfl)
  · exact .refl s
  · exact .refl s

theorem State.KeepsLog.takePoint (s : State) (p : Point) : s.KeepsLog (s.takePoint p) := by
  cases p with
  | span n => exact .of_eq (s.takeSpanPoint_su n)
  | windowEnd n => exact .takeWindowEnd s n
  | expiry node bag => exact .takeExpiry s node bag
  | close n => exact .of_eq (s.takeClosePoint_su n)
  | arm n k => exact .of_eq (s.takeArmPoint_su n k)
  | fire n => exact .of_eq (s.takeFirePoint_su n)
  | deadline n => exact .of_eq (s.takeDeadline_su n)

/-! ### MISPLACED from the Manifest Store, and the purge (R71, R85, R164) -/

theorem State.KeepsLog.commitStores (s : State) (x : StoreChange) : s.KeepsLog (s.commitStores x) :=
  .after (.foldl .reportMisplaced _ _) rfl

theorem State.applyDeckMap_su (s : State) (f : DeckMapFields) : (s.applyDeckMap f).su = s.su := by
  unfold State.applyDeckMap; repeat' split
  all_goals rfl

theorem State.KeepsLog.applyHeld (s : State) (t : HeldTelegram) : s.KeepsLog (s.applyHeld t) := by
  cases t with
  | manifest f => exact .commitStores s _
  | withdraw tag => exact .commitStores s _
  | deckMap f => exact .of_eq (s.applyDeckMap_su f)

theorem State.KeepsLog.takeManifestTelegram (s : State) (t : HeldTelegram) : s.KeepsLog (s.takeManifestTelegram t) := by
  unfold State.takeManifestTelegram
  split
  · exact .of_eq rfl
  · exact .applyHeld s t

theorem State.KeepsLog.examineNext (s : State) (last : Nat) : s.KeepsLog (s.examineNext last) := by
  unfold State.examineNext
  split
  · exact .of_eq rfl
  · exact .congr (State.onMs_su _ _) (.commitStores s _)

theorem State.KeepsLog.completePurge (s : State) : s.KeepsLog s.completePurge := .after (.foldl .applyHeld _ _) rfl

theorem State.KeepsLog.takePurge (s : State) : s.KeepsLog s.takePurge := by
  refine .of_empty ?_
  have hcleared : ∀ u : State, u.clearLog.clearClosedDecks.su.ring = [] := fun u => by
    rw [State.clearClosedDecks_su, State.clearLog_eq]
  exact hcleared _

/-! ### The Stray Unit's own rules (R153 to R162) -/

/-- R153, R157: a stray's entry holds no more claims than the bag has tags, and none twice. -/
theorem State.KeepsLog.logStray {tags : List Nat} (hlength : tags.length ≤ Config.maxRecordTags) (hnodup : tags.Nodup)
    (s : State) (reason : Option StrayReason) (lap : Nat) (length : Option Nat) :
    s.KeepsLog (s.logStray tags reason lap length) := by
  have hclaims : (s.ownClaims tags).length ≤ Config.maxClaims := by
    have hle := (s.ownClaims_tags tags).length_le
    rw [List.length_map] at hle
    exact (hle.trans hlength).trans (by decide)
  intro h
  unfold State.logStray
  split
  · exact (h.create (.inChute reason) [] (some lap) length (claims := []) .none (Nat.zero_le _) List.nodup_nil).of_eq rfl rfl
  · exact (h.create (.inChute reason) tags (some lap) length .running hclaims (s.ownClaims_nodup hnodup)).of_eq rfl rfl

theorem State.KeepsLog.exitBlocked (h : s.st.contentsOk) (k : OutletNo) : s.KeepsLog (s.exitBlocked k) := by
  obtain ⟨hrecords, -⟩ := h
  unfold State.exitBlocked
  split
  · rename_i r c hc
    obtain ⟨hlength, hnodup⟩ := hrecords r (State.confirmed_mem hc)
    refine .standbyTest (.after ?_ (s.deliverPush_su k r))
    cases c.kind with
    | deck tag cabin deck => exact .of_eq rfl
    | stray => exact .after (.logStray hlength hnodup _ _ _ _) rfl
  · exact .of_eq rfl

theorem State.KeepsLog.takeLost (s : State) (r : LossReport) : s.KeepsLog (s.takeLost r) := by
  unfold State.takeLost
  repeat' split
  · exact .of_log rfl rfl
  · exact .logReport s _ _ _
  · exact .of_log rfl rfl

theorem State.KeepsLog.takeMisplaced (s : State) (reporter : Nat) (r : ReceivedMisplaced) :
    s.KeepsLog (s.takeMisplaced reporter r) := by
  unfold State.takeMisplaced
  repeat' split
  · exact .of_log rfl rfl
  · exact .logReport s _ _ _
  · exact .of_log rfl rfl

theorem State.KeepsLog.takeCall (s : State) (caller : Nat) (sequence : Count) (tags : List Nat) :
    s.KeepsLog (s.takeCall caller sequence tags) := by
  have hanswer : ∀ (u : State) (tag : Nat), u.KeepsLog (State.answerCall caller sequence u tag) := fun u tag => by
    unfold State.answerCall
    split
    · exact .of_log rfl rfl
    · exact .refl u
  unfold State.takeCall
  split
  · exact .of_log rfl rfl
  · refine .trans ?_ (.foldl hanswer _ _)
    exact .of_log rfl rfl

/-- R162: a CLAIM that is taken names an entry that takes it. -/
theorem StrayUnit.judge_taken {v : StrayUnit} {strayNode : Bool} {rx : Rx} {sequence : Count} {f : ClaimFields}
    (h : v.judge strayNode rx sequence f = .taken) :
    ∃ e, v.ring.find? (fun e => e.sequence == sequence) = some e ∧ judgeClaim e f = .taken := by
  unfold StrayUnit.judge at h
  split_ifs at h
  split at h
  · cases h
  · exact ⟨_, ‹_›, h⟩

theorem State.KeepsLog.takeClaim (s : State) (rx : Rx) (sequence : Count) (f : ClaimFields) :
    s.KeepsLog (s.takeClaim rx sequence f) := by
  unfold State.takeClaim
  dsimp only
  split
  · rename_i htaken
    obtain ⟨e, he, hjudge⟩ := StrayUnit.judge_taken htaken
    exact fun h => (h.addClaim he hjudge).of_eq (by rw [htaken]; rfl) (by rw [htaken]; rfl)
  · generalize s.su.judge s.config.isStrayNode rx sequence f = v
    cases v <;> exact .of_log rfl rfl

/-! ### Power and START (R87, R88, R165) -/

theorem State.KeepsLog.startStages (s : State) : s.KeepsLog s.checkRetention.finishPendingPurge.endStaleWindows := by
  have hcheck : s.KeepsLog s.checkRetention := by
    cases hlow : s.ms.lowMark with
    | true =>
      rw [State.checkRetention_lost hlow]
      exact .of_empty rfl
    | false =>
      rw [State.checkRetention_kept hlow]
      exact .refl s
  have hpurge : ∀ u : State, u.KeepsLog u.finishPendingPurge := fun u => by
    unfold State.finishPendingPurge
    split
    · exact .of_empty rfl
    · exact .refl u
  exact (hcheck.trans (hpurge _)).trans fun h => h.endWindows (p := fun e => e.window = .running) rfl rfl

end

/-! ## The commands -/

section
variable {s : State}

/-- The outcome of a command that keeps the log in order. -/
def outcomeKeepsLog (s : State) (o : Host.Outcome State Fault Refusal) : Prop := ∃ t, o = .next t ∧ s.KeepsLog t

theorem keepsLog_ite {t : State} {p : Prop} [Decidable p] (h : p → s.KeepsLog t) :
    outcomeKeepsLog s (.next (if p then t else s)) := ⟨_, rfl, .ite h⟩

/-- R182, R183: a telegram is given to its owner, or at most counted. -/
theorem State.KeepsLog.receive {owner : State → State} (h : ∀ u : State, u.KeepsLog (owner u)) (cls : Byte) (rx : Rx)
    (p : List Byte) : s.KeepsLog (s.receive cls rx p owner) := by
  unfold State.receive
  split
  · exact .refl s
  · exact .of_eq rfl
  · split
    · exact .after (h _) rfl
    · exact .of_eq (State.discard_su ..)

theorem keepsLog_receive {owner : State → State} {cls : Byte} {rx : Rx} {p : List Byte}
    (h : ∀ u : State, u.KeepsLog (owner u)) : outcomeKeepsLog s (.next (s.receive cls rx p owner)) :=
  ⟨_, rfl, .receive h cls rx p⟩

/-- The samples of a command, and the effect of their event. -/
theorem keepsLog_heard {σ ε : Type} {r : Option (σ × Option ε)} {store : σ → State → State} {act : ε → State → State}
    {p : Prop} [Decidable p] (hstore : ∀ f, (store f s).su = s.su) (hact : ∀ e f, (store f s).KeepsLog (act e (store f s))) :
    outcomeKeepsLog s (.next (if p then s.heard r store act else s)) := by
  refine keepsLog_ite fun _ => ?_
  rcases s.heard_cases r store act with ⟨-, he⟩ | ⟨f, -, he⟩ | ⟨f, e, -, he⟩ <;> rw [he]
  · exact .refl s
  · exact .of_eq (hstore f)
  · exact .after (hact e f) (hstore f)

theorem exec_keepsLog (c : Instr) (s : State) (hcontents : s.st.contentsOk) : outcomeKeepsLog s (exec c s) := by
  cases c with
  | powerOn =>
    refine ⟨_, rfl, ?_⟩
    split
    · exact .refl s
    · exact .after (.startStages _) rfl
  | startComplete straps image =>
    refine keepsLog_ite fun _ => ?_
    split <;> exact .of_eq rfl
  | powerLoss => exact keepsLog_ite fun _ => .of_log rfl rfl
  | retentionLow =>
    refine ⟨_, rfl, ?_⟩
    split <;> exact .of_eq rfl
  | encoderPulse => exact keepsLog_ite fun _ => .after (.foldl .takePoint _ _) rfl
  | speedWindowEnd => exact keepsLog_ite fun _ => .of_eq rfl
  | inductionBlockedEdge samples => exact keepsLog_heard (fun _ => rfl) fun _ _ => .of_eq (State.inductionBlocked_su _)
  | inductionClearedEdge samples => exact keepsLog_heard (fun _ => rfl) fun _ _ => .inductionCleared _
  | handoffEyeBlockedEdge samples => exact keepsLog_heard (fun _ => rfl) fun _ _ => .of_eq (State.handoffBlocked_su _)
  | exitEyeBlockedEdge k samples =>
    exact keepsLog_heard (fun _ => rfl) fun _ f => .exitBlocked (s := State.putExit k f s) hcontents k
  | actuatorFaultChange k samples => exact keepsLog_heard (fun _ => rfl) fun _ _ => .of_eq (State.rederive_su ..)
  | framingError line => exact keepsLog_heard (fun _ => rfl) fun _ _ => .of_eq rfl
  | readerBreak line => exact keepsLog_heard (fun _ => rfl) fun _ _ => .of_eq (State.takeBreak_su _)
  | report line => exact keepsLog_heard (fun _ => rfl) fun e _ => .of_eq (State.takeCharacter_su _ e)
  | characterReceived line => exact keepsLog_heard (fun _ => rfl) fun e _ => .of_eq (State.takeCharacter_su _ e)
  | rateMeasurement line => exact keepsLog_heard (fun _ => rfl) fun e _ => .of_eq (State.takeRate_su _ e)
  | rateOverflow line => exact keepsLog_heard (fun _ => rfl) fun e _ => .of_eq (State.takeRate_su _ e)
  | spanPoint n => exact keepsLog_ite fun _ => .of_eq (s.takeSpanPoint_su n)
  | windowEndPoint n => exact keepsLog_ite fun _ => .takeWindowEnd s n
  | expiryPoint node bag => exact keepsLog_ite fun _ => .takeExpiry s node bag
  | closePoint n => exact keepsLog_ite fun _ => .of_eq (s.takeClosePoint_su n)
  | armPoint n k => exact keepsLog_ite fun _ => .of_eq (s.takeArmPoint_su n k)
  | firePoint n => exact keepsLog_ite fun _ => .of_eq (s.takeFirePoint_su n)
  | deadlinePoint n => exact keepsLog_ite fun _ => .of_eq (s.takeDeadline_su n)
  | strokeTimerExpiry k => exact keepsLog_ite fun _ => .of_eq (State.standbyTest_su _)
  | gaugeConversionEnd codes =>
    refine ⟨_, rfl, ?_⟩
    split
    · exact .ite fun _ => .of_eq (s.takeConversions_su _ codes)
    · exact .refl s
  | gaugePassStart => exact keepsLog_ite fun _ => .of_eq rfl
  | refreshTimerExpiry => exact keepsLog_ite fun _ => .of_eq s.queueOutletStates_su
  | viewExpiry peer deck time => exact keepsLog_ite fun _ => .of_eq rfl
  | claimWindowEnd sequence =>
    refine keepsLog_ite fun _ h => ?_
    have hended : (s.su.endWindowOf sequence).logOk := h.endWindows (p := fun e => e.sequence = sequence) rfl rfl
    dsimp only
    split <;> exact hended
  | joinTimerExpiry => exact keepsLog_ite fun _ => .of_eq rfl
  | sweepExamination =>
    refine ⟨_, rfl, ?_⟩
    split
    · exact .ite fun _ => .examineNext s _
    · exact .refl s
  | purgeComplete => exact keepsLog_ite fun _ => .completePurge s
  | attemptStart line =>
    refine keepsLog_ite fun _ => .of_eq ?_
    split
    · rfl
    · exact State.startAttempt_su _
  | attemptEnd line => exact keepsLog_heard (fun _ => rfl) fun e _ => .of_eq (State.endAttempt_su _ e)
  | receiveError line => exact keepsLog_heard (fun _ => rfl) fun _ _ => .of_eq rfl
  | detachment line => exact keepsLog_heard (fun _ => rfl) fun _ _ => .of_eq (State.takeIdleGap_su _)
  | rejoin line => exact keepsLog_heard (fun _ => rfl) fun _ _ => .of_eq (State.takeIdleGap_su _)
  | idleGap line => exact keepsLog_heard (fun _ => rfl) fun _ _ => .of_eq (State.takeIdleGap_su _)
  | telegramDiscarded cls rx p => exact ⟨_, rfl, .of_eq (s.takeDiscarded_su cls rx p)⟩
  | handoff rx p => exact keepsLog_receive fun u => .of_eq (u.wakeIfAddressed_su rx)
  | manifest rx p => exact keepsLog_receive fun u => .takeManifestTelegram u _
  | manifestWithdraw rx p => exact keepsLog_receive fun u => .takeManifestTelegram u _
  | deckMap rx p => exact keepsLog_receive fun u => .takeManifestTelegram u _
  | delivered rx p => exact keepsLog_receive fun _ => .of_eq rfl
  | purge rx p => exact keepsLog_receive .takePurge
  | outletState rx p => exact keepsLog_receive fun _ => .of_eq rfl
  | deckClose rx p => exact keepsLog_receive fun u => .of_eq (u.takeDeckClose_su _)
  | deckOpen rx p => exact keepsLog_receive fun u => .of_eq (u.takeDeckOpen_su _)
  | outletRestore rx p =>
    exact keepsLog_receive fun u => .of_eq ((State.takeRestore_su ..).trans (u.wakeIfAddressed_su rx))
  | strayCall rx p => exact keepsLog_receive fun u => .takeCall u _ _ _
  | claim rx p => exact keepsLog_receive fun u => .after (.takeClaim _ rx _ _) (u.wakeIfAddressed_su rx)
  | lost rx p => exact keepsLog_receive fun u => .takeLost u _
  | misplaced rx p => exact keepsLog_receive fun u => .takeMisplaced u _ _
  | reset rx p => exact keepsLog_receive fun u => .of_eq u.takeReset_su
  | standby rx p => exact keepsLog_receive fun u => .of_eq u.takeStandby_su
  | wake rx p => exact keepsLog_receive fun u => .of_eq u.takeWake_su
  | hello rx p => exact keepsLog_receive fun _ => .of_eq rfl
  | identity rx a => exact keepsLog_receive fun u => .of_eq (u.takeQuery_su ..)
  | outlet rx a => exact keepsLog_receive fun u => .of_eq (u.takeQuery_su ..)
  | tag rx a => exact keepsLog_receive fun u => .of_eq (u.takeQuery_su ..)
  | cabin rx a => exact keepsLog_receive fun u => .of_eq (u.takeQuery_su ..)
  | counters rx a => exact keepsLog_receive fun u => .of_eq (u.takeQuery_su ..)
  | strayLog rx a => exact keepsLog_receive fun u => .of_eq (u.takeLogQuery_su ..)
  | map rx a => exact keepsLog_receive fun u => .of_eq (u.takeMapQuery_su ..)
  | queryKindUnknown rx kind a =>
    refine ⟨_, rfl, ?_⟩
    unfold State.takeUnknownKind
    split
    · exact .refl s
    · exact .receive (fun u => .of_eq (u.takeQuery_su ..)) _ _ _

theorem step_keepsLog {t : State} (hcontents : s.st.contentsOk) (hstep : step s = .next t) : s.KeepsLog t := by
  unfold step at hstep
  split at hstep
  · cases hstep
    exact .refl s
  · rename_i c cs _
    obtain ⟨u, hu, hkeeps⟩ := exec_keepsLog c { s with pending := cs } hcontents
    rw [hu] at hstep
    cases hstep
    exact hkeeps

end

end Sys2Proof.Machine

open Sys2Proof.Machine

/-- Settles O17: an entry joins the log with the next number and with claims for tags of its bag, a CLAIM joins the one entry it
names if it is new and finds room, and a window's end recomputes the state; the step that logs a stray reads the record as it stood
before. -/
theorem strayLogKept : Obligations.StrayLogKept := by
  unfold Obligations.StrayLogKept
  exact fun s t hcontents hlog hstep => step_keepsLog hcontents hstep hlog

end

section
/-! SUPPORT. LOST, MISPLACED and STRAY-CALL from the line (R154 to R156): what is refused, what is logged, and how a call is
answered. -/

open Sys2Proof

namespace Sys2Proof.Machine

/-! ## The tags that a payload holds (11.2) -/

theorem tagsAt_length (p : List Byte) (i n : Nat) : (tagsAt p i n).length = n := by
  induction n generalizing i with
  | zero => rfl
  | succ n ih => rw [tagsAt, List.length_cons, ih]

theorem lengthAllowed_lost (n : Nat) : lengthAllowed classLost n = some (n == 3 || n == 8 || n == 13) := rfl

theorem lengthAllowed_strayCall (n : Nat) : lengthAllowed classStrayCall n = some (n == 2 || n == 7 || n == 12) := rfl

section
variable {s : State} {rx : Rx} {p : List Byte}

/-- R183: a telegram that is delivered has a length that its class allows. -/
theorem State.lengthAllowed_of_delivers {cls : Byte} (h : s.delivers cls rx p) : lengthAllowed cls p.length = some true := by
  obtain ⟨-, hjudge⟩ := h
  have hcontent : judgeContent cls p = .deliver := by
    unfold judgeTelegram at hjudge
    split_ifs at hjudge <;> exact hjudge
  unfold judgeContent at hcontent
  split at hcontent
  · cases hcontent
  · cases hcontent
  · assumption

theorem readLost_tags_length (h : s.delivers classLost rx p) : (readLost p).tags.length ≤ 2 := by
  have hlength := s.lengthAllowed_of_delivers h
  simp only [lengthAllowed_lost, Option.some.injEq, Bool.or_eq_true, beq_iff_eq] at hlength
  rw [readLost, tagsAt_length]
  omega

theorem readCallTags_length (h : s.delivers classStrayCall rx p) : (readCallTags p).length ≤ 2 := by
  have hlength := s.lengthAllowed_of_delivers h
  simp only [lengthAllowed_strayCall, Option.some.injEq, Bool.or_eq_true, beq_iff_eq] at hlength
  rw [readCallTags, tagsAt_length]
  omega

end

/-! ## What is refused (R154, R156) -/

theorem lossRefused_iff {r : LossReport} (h : r.tags.length ≤ 2) :
    lossRefused r = true ↔ 0 ∈ r.tags ∨ ¬ r.tags.Nodup ∨ 7 < r.lap ∨ r.lastSection = 0 ∨ 60 < r.lastSection ∨ r.reporter = 0
      ∨ 60 < r.reporter := by
  have hsection : ∀ n : Nat, ¬ inRange 1 Config.maxNode n = true ↔ n = 0 ∨ 60 < n := fun n => by
    rw [inRange_iff, Config.maxNode]
    omega
  simp only [lossRefused, Bool.or_eq_true, List.contains_iff_mem, Bool.not_eq_true', decide_eq_true_eq,
    ← Bool.not_eq_true, hsection, not_lt.mpr h, or_false, or_assoc]

theorem callRefused_iff {tags : List Nat} (h : tags.length ≤ 2) :
    callRefused tags = true ↔ tags = [] ∨ 0 ∈ tags ∨ ¬ tags.Nodup := by
  simp only [callRefused, Bool.or_eq_true, List.isEmpty_iff, List.contains_iff_mem, Bool.not_eq_true', decide_eq_true_eq,
    decide_eq_false_iff_not, not_lt.mpr h, or_false, or_assoc]

theorem causeOfCode_causeCode (c : MisplacedCause) : causeOfCode (causeCode c) = some c := by
  cases c <;> rfl

/-- R154: the line's tag, deck and cause are checked each on its own, and the new cabin by the cause. -/
theorem misplacedRefused_iff (p : List Byte) :
    misplacedRefused (readMisplaced p) = true ↔
      tagAt p 0 = 0 ∨ byteAt p 5 = 0 ∨ 20 < byteAt p 5 ∨ byteAt p 6 = 0 ∨ 3 < byteAt p 6
        ∨ (byteAt p 6 = 2 ∧ wordAt p 7 ≠ 0) ∨ (byteAt p 6 ≠ 2 ∧ (wordAt p 7 = 0 ∨ 32767 < wordAt p 7)) := by
  have hdeck : inRange 1 Config.maxDeck (byteAt p 5) = true ↔ ¬ (byteAt p 5 = 0 ∨ 20 < byteAt p 5) := by
    rw [inRange_iff, Config.maxDeck]
    omega
  have hcabin : inRange 1 Config.maxCabin (wordAt p 7) = true ↔ ¬ (wordAt p 7 = 0 ∨ 32767 < wordAt p 7) := by
    rw [inRange_iff, Config.maxCabin]
    omega
  simp only [misplacedRefused, readMisplaced, Bool.or_eq_true, beq_iff_eq, Bool.not_eq_true', ← Bool.not_eq_true, hdeck,
    not_not, or_assoc]
  refine or_congr_right (or_congr_right (or_congr_right ?_))
  generalize byteAt p 6 = cause, wordAt p 7 = cabin at hcabin ⊢
  match cause with
  | 0 => simp [causeOfCode]
  | 2 => by_cases hzero : cabin = 0 <;> simp [causeOfCode, hzero]
  | 1 | 3 => by_cases hzero : cabin = 0 <;> simp [causeOfCode, hzero, ← Bool.not_eq_true, hcabin]
  | n + 4 => simp [causeOfCode, show 3 < n + 4 by omega]

/-! ## LOST and MISPLACED at the stray node and elsewhere (R154, R155) -/

section
variable {s : State} {rx : Rx} {p : List Byte}

theorem exec_lost (h : s.delivers classLost rx p) :
    exec (.lost rx p) s = .next ((s.takeTelegram rx).takeLost (readLost p)) :=
  congrArg Host.Outcome.next (State.receive_of_delivers h _)

theorem exec_misplaced (h : s.delivers classMisplaced rx p) :
    exec (.misplaced rx p) s = .next ((s.takeTelegram rx).takeMisplaced rx.sender.toNat (readMisplaced p)) :=
  congrArg Host.Outcome.next (State.receive_of_delivers h _)

theorem exec_strayCall (h : s.delivers classStrayCall rx p) :
    exec (.strayCall rx p) s =
      .next ((s.takeTelegram rx).takeCall rx.sender.toNat (readSequence p) (readCallTags p)) :=
  congrArg Host.Outcome.next (State.receive_of_delivers h _)

theorem State.takeLost_elsewhere (h : s.config.isStrayNode = false) (r : LossReport) :
    s.takeLost r = s.onSu StrayUnit.reportNotLogged := if_neg (by simp [h])

theorem State.takeLost_refused {r : LossReport} (h : s.config.isStrayNode = true) (hrefused : lossRefused r = true) :
    s.takeLost r = s.onSu StrayUnit.reportRefused := (if_pos h).trans (if_pos hrefused)

theorem State.takeLost_logged {r : LossReport} (h : s.config.isStrayNode = true) (hgood : lossRefused r = false) :
    s.takeLost r = s.logReport (.lost r.lastSection r.reporter) r.tags (some r.lap) :=
  (if_pos h).trans (if_neg (by simp [hgood]))

theorem State.takeMisplaced_elsewhere (h : s.config.isStrayNode = false) (reporter : Nat) (r : ReceivedMisplaced) :
    s.takeMisplaced reporter r = s.onSu StrayUnit.reportNotLogged := if_neg (by simp [h])

theorem State.takeMisplaced_refused {r : ReceivedMisplaced} (h : s.config.isStrayNode = true)
    (hrefused : misplacedRefused r = true) (reporter : Nat) :
    s.takeMisplaced reporter r = s.onSu StrayUnit.reportRefused := (if_pos h).trans (if_pos hrefused)

theorem State.takeMisplaced_logged {r : ReceivedMisplaced} (h : s.config.isStrayNode = true)
    (hgood : misplacedRefused r = false) (reporter : Nat) :
    s.takeMisplaced reporter r =
      s.logReport (.misplaced reporter r.oldDeck r.newCabin (r.cause.getD .moved)) [r.tag] none :=
  (if_pos h).trans (if_neg (by simp [hgood]))

end

/-! ## The answer to a call (R156) -/

section
variable {m : ManifestStore} {s : State}

theorem ManifestStore.markStrayed_of_none {tag : Nat} (h : m.lookup tag = none) : m.markStrayed tag = m := by
  rw [ManifestStore.markStrayed, h]

theorem ManifestStore.markAllStrayed_cons (tag : Nat) (tags : List Nat) (m : ManifestStore) :
    m.markAllStrayed (tag :: tags) = (m.markStrayed tag).markAllStrayed tags := rfl

theorem ManifestStore.markStrayed_eq (m : ManifestStore) (tag : Nat) :
    m.markStrayed tag = { m with table := (m.markStrayed tag).table } := by
  unfold ManifestStore.markStrayed
  split <;> rfl

theorem ManifestStore.markAllStrayed_eq (tags : List Nat) (m : ManifestStore) :
    m.markAllStrayed tags = { m with table := (m.markAllStrayed tags).table } := by
  induction tags generalizing m with
  | nil => rfl
  | cons tag tags ih =>
    rw [ManifestStore.markAllStrayed_cons, ih (m.markStrayed tag), ManifestStore.markStrayed_eq]

/-- R84: a purge hides the table from the marks. -/
theorem ManifestStore.markAllStrayed_purging (h : m.purgeRunning = true) (tags : List Nat) : m.markAllStrayed tags = m := by
  induction tags with
  | nil => rfl
  | cons tag tags ih => rw [ManifestStore.markAllStrayed_cons, ManifestStore.markStrayed_of_none (if_pos h), ih]

/-- R75, R84: the strayed marks of some tags. -/
theorem ManifestStore.markAllStrayed_closed (h : m.capacitiesOk) (tags : List Nat) :
    m.markAllStrayed tags = { m with
      table := if m.purgeRunning then m.table
        else m.table.map fun e => if e.tag ∈ tags then { e with strayed := true } else e } := by
  obtain ⟨-, -, -, hsorted, -⟩ := h
  refine (m.markAllStrayed_eq tags).trans (congrArg (fun t => { m with table := t }) ?_)
  split
  · rename_i hpurge
    rw [ManifestStore.markAllStrayed_purging hpurge]
  · rename_i hpurge
    exact ManifestStore.markAllStrayed_table hsorted (Bool.eq_false_iff.mpr hpurge)

/-- R75: a strayed mark leaves an entry for each tag that had one, for the same cabin. -/
theorem ManifestStore.markStrayed_lookup (m : ManifestStore) (tag x : Nat) :
    ((m.markStrayed tag).lookup x).map TagEntry.cabin = (m.lookup x).map TagEntry.cabin := by
  cases hlookup : m.lookup tag with
  | none => rw [ManifestStore.markStrayed_of_none hlookup]
  | some e =>
    have hmarked : m.markStrayed tag = { m with table := putEntry e.stray m.table } := by
      rw [ManifestStore.markStrayed, hlookup]
      rfl
    rw [hmarked]
    simp only [ManifestStore.lookup, ManifestStore.entry] at hlookup ⊢
    split_ifs at hlookup ⊢
    have hfound := List.find?_some hlookup
    have htag : tag = e.stray.tag := (beq_iff_eq.mp hfound).symm
    by_cases hx : x = tag
    · rw [hx, hlookup, htag, find_putEntry]
      rfl
    · rw [find_putEntry_of_ne (htag ▸ hx)]

/-- R156: a claim names the cabin, and the deck by the map, which a strayed mark leaves. -/
theorem State.claimFor_markStrayed (s : State) (tag : Nat) :
    (s.onMs (ManifestStore.markStrayed tag)).claimFor = s.claimFor := by
  funext x
  obtain ⟨-, hmap, -⟩ := s.ms.markStrayed_frame tag
  have hlookup := congrArg (Option.map fun cabin =>
    (⟨s.config.address, x, cabin, claimDeck (lookupCabin s.ms.map cabin)⟩ : ClaimFields)) (s.ms.markStrayed_lookup tag x)
  simp only [Option.map_map] at hlookup
  simp only [State.claimFor, State.onMs, hmap]
  exact hlookup

/-- R156: the node once it has answered a call for some tags with these claims. -/
def State.callAnswered (s : State) (caller : Nat) (sequence : Count) (tags : List Nat) (found : List ClaimFields) : State :=
  { s with
    hlc := found.foldl (fun h f => h.enqueue ⟨caller, .claim sequence f⟩) s.hlc
    ms := s.ms.markAllStrayed tags
    su := { s.su with counters := { s.su.counters with
      claimsQueued := s.su.counters.claimsQueued + BitVec.ofNat 32 found.length } } }

theorem State.answerCall_found {tag : Nat} {f : ClaimFields} (h : s.claimFor tag = some f) (caller : Nat) (sequence : Count) :
    s.answerCall caller sequence tag = s.callAnswered caller sequence [tag] [f] := by
  rw [State.answerCall, h]
  rfl

theorem State.answerCall_missing {tag : Nat} (h : s.claimFor tag = none) (caller : Nat) (sequence : Count) :
    s.answerCall caller sequence tag = s.callAnswered caller sequence [tag] [] := by
  have hlookup : s.ms.lookup tag = none := Option.map_eq_none_iff.mp h
  rw [State.answerCall, h, State.callAnswered, ManifestStore.markAllStrayed_cons, ManifestStore.markStrayed_of_none hlookup]
  simp [ManifestStore.markAllStrayed]

theorem State.callAnswered_callAnswered (s : State) (caller : Nat) (sequence : Count) (tag : Nat) (tags : List Nat)
    (found found' : List ClaimFields) :
    (s.callAnswered caller sequence [tag] found).callAnswered caller sequence tags found' =
      s.callAnswered caller sequence (tag :: tags) (found ++ found') := by
  simp [State.callAnswered, ManifestStore.markAllStrayed, BitVec.add_assoc, BitVec.ofNat_add]

/-- R156: each tag is answered by the slice as the call found it. -/
theorem State.foldl_answerCall (caller : Nat) (sequence : Count) (tags : List Nat) (s : State) :
    tags.foldl (State.answerCall caller sequence) s =
      s.callAnswered caller sequence tags (tags.filterMap s.claimFor) := by
  induction tags generalizing s with
  | nil => simp [State.callAnswered, ManifestStore.markAllStrayed]
  | cons tag tags ih =>
    have hclaims : ∀ found, (s.callAnswered caller sequence [tag] found).claimFor = s.claimFor := fun found =>
      (State.claimFor_congr rfl rfl).trans (s.claimFor_markStrayed tag)
    rw [List.foldl_cons, List.filterMap_cons]
    cases hclaim : s.claimFor tag with
    | none => rw [State.answerCall_missing hclaim, ih, hclaims, State.callAnswered_callAnswered, List.nil_append]
    | some f => rw [State.answerCall_found hclaim, ih, hclaims, State.callAnswered_callAnswered, List.singleton_append]

theorem State.takeCall_refused {tags : List Nat} (h : callRefused tags = true) (caller : Nat) (sequence : Count) :
    s.takeCall caller sequence tags = s.onSu fun u => u.tally fun c => { c with callsRefused := c.callsRefused + 1 } :=
  if_pos h

theorem State.takeCall_answered {tags : List Nat} (h : callRefused tags = false) (caller : Nat) (sequence : Count) :
    s.takeCall caller sequence tags =
      (s.onSu fun u => u.tally fun c => { c with callsTaken := c.callsTaken + 1 }).callAnswered caller sequence tags
        (tags.filterMap s.claimFor) :=
  (if_neg (by simp [h])).trans (State.foldl_answerCall ..)

end

end Sys2Proof.Machine

open Sys2Proof.Machine

/-- Settles O45: a report is counted, refused or logged by where it is taken and by its fields, and a call's tags are answered one
after another, each mark leaving the claims for the tags after it. -/
theorem reportsAndCallsTaken : Obligations.ReportsAndCallsTaken := by
  unfold Obligations.ReportsAndCallsTaken
  refine ⟨?_, ?_, ?_⟩
  · rintro s u rx p r hdelivers rfl rfl
    have hrefused := lossRefused_iff (readLost_tags_length hdelivers)
    rw [exec_lost hdelivers]
    refine ⟨fun helsewhere => ?_, fun hstray hbad => ?_, fun hstray hzero hnodup hlap hlow hhigh hlow' hhigh' => ?_⟩
    · rw [State.takeLost_elsewhere (s := s.takeTelegram rx) helsewhere]
      rfl
    · rw [State.takeLost_refused (s := s.takeTelegram rx) hstray (hrefused.mpr hbad)]
      rfl
    · have hgood : lossRefused (readLost p) = false := by
        rw [Bool.eq_false_iff, ne_eq, hrefused]
        simp only [hzero, hnodup, not_true, false_or]
        omega
      rw [State.takeLost_logged (s := s.takeTelegram rx) hstray hgood, State.logReport_eq]
      rfl
  · rintro s u rx p tag deck cause cabin hdelivers rfl rfl rfl rfl rfl
    have hrefused := misplacedRefused_iff p
    rw [exec_misplaced hdelivers]
    refine ⟨fun helsewhere => ?_, fun hstray hbad => ?_, fun c hstray htag hlow hhigh hcause habsent hpresent => ?_⟩
    · rw [State.takeMisplaced_elsewhere (s := s.takeTelegram rx) helsewhere]
      rfl
    · rw [State.takeMisplaced_refused (s := s.takeTelegram rx) hstray (hrefused.mpr hbad)]
      rfl
    · have hcode : 1 ≤ causeCode c ∧ causeCode c ≤ 3 := by cases c <;> decide
      have hgood : misplacedRefused (readMisplaced p) = false := by
        rw [Bool.eq_false_iff, ne_eq, hrefused]
        omega
      have hread : (readMisplaced p).cause = some c := by
        rw [readMisplaced, ← hcause, causeOfCode_causeCode]
      rw [State.takeMisplaced_logged (s := s.takeTelegram rx) hstray hgood, State.logReport_eq, hread]
      rfl
  · rintro s u rx p tags hdelivers rfl rfl
    have hrefused := callRefused_iff (readCallTags_length hdelivers)
    rw [exec_strayCall hdelivers]
    refine ⟨fun hbad => ?_, ?_⟩
    · rw [State.takeCall_refused (s := s.takeTelegram rx) (hrefused.mpr hbad)]
      rfl
    · rintro found hsome hzero hnodup hcapacities rfl
      have hgood : callRefused (readCallTags p) = false := by
        rw [Bool.eq_false_iff, ne_eq, hrefused]
        tauto
      rw [State.takeCall_answered (s := s.takeTelegram rx) hgood, ← ManifestStore.markAllStrayed_closed hcapacities,
        State.claimFor_congr (s := s) (t := s.takeTelegram rx) rfl rfl]
      rfl

end

section
/-! SUPPORT. CLAIMs and claim windows (R159 to R162): the table of R162 line by line, a claim that is taken, and the end of a
window. -/

open Sys2Proof

namespace Sys2Proof.Machine

/-! ## The table of R162 -/

theorem claimRefused_iff (rx : Rx) (f : ClaimFields) :
    claimRefused rx f = true ↔ f.tag = 0 ∨ f.cabin = 0 ∨ 32767 < f.cabin ∨ 20 < f.deck ∨ f.node = 0 ∨ 60 < f.node
      ∨ f.node ≠ rx.sender.toNat ∨ broadcast rx = true := by
  have hrange : ∀ hi n : Nat, ¬ inRange 1 hi n = true ↔ n = 0 ∨ hi < n := fun hi n => by
    rw [inRange_iff]
    omega
  simp only [claimRefused, Bool.or_eq_true, beq_iff_eq, bne_iff_ne, Bool.not_eq_true', ← Bool.not_eq_true, decide_eq_true_eq,
    hrange, or_assoc]
  rfl

/-- R162, lines 4 to 9. -/
theorem judgeClaim_eq (e : LogEntry) (f : ClaimFields) :
    judgeClaim e f =
      if e.window = .none then .unasked
      else if f.tag ∉ e.tags then .mismatched
      else if ∃ d ∈ e.claims, d.node = f.node ∧ d.tag = f.tag then .repeated
      else if e.window = .ended ∧ e.state ≠ .unclaimed then .late
      else if 3 ≤ e.claims.length then .surplus
      else .taken := by
  have hmismatched : e.tags.contains f.tag = false ↔ f.tag ∉ e.tags := by
    rw [← Bool.not_eq_true, List.contains_iff_mem]
  have hrepeated : (e.claims.any fun d => d.node == f.node && d.tag == f.tag) = true ↔
      ∃ d ∈ e.claims, d.node = f.node ∧ d.tag = f.tag := by
    simp only [List.any_eq_true, Bool.and_eq_true, beq_iff_eq]
  exact if_congr Iff.rfl rfl (if_congr hmismatched rfl (if_congr hrepeated rfl rfl))

section
variable {u : StrayUnit} {rx : Rx} {sequence : Count} {f : ClaimFields}

theorem StrayUnit.judge_withoutLog : u.judge false rx sequence f = .withoutLog := if_pos rfl

theorem StrayUnit.judge_refused (h : claimRefused rx f = true) : u.judge true rx sequence f = .refused := by
  rw [StrayUnit.judge, if_neg Bool.true_eq_false.mp, if_pos h]

theorem StrayUnit.judge_unknown (h : ¬ claimRefused rx f = true)
    (hfind : u.ring.find? (fun e => e.sequence == sequence) = none) : u.judge true rx sequence f = .unknown := by
  rw [StrayUnit.judge, if_neg Bool.true_eq_false.mp, if_neg h, hfind]

theorem StrayUnit.judge_found {e : LogEntry} (h : ¬ claimRefused rx f = true)
    (hfind : u.ring.find? (fun e => e.sequence == sequence) = some e) : u.judge true rx sequence f = judgeClaim e f := by
  rw [StrayUnit.judge, if_neg Bool.true_eq_false.mp, if_neg h, hfind]

end

/-! ## CLAIM (R161, R162) -/

section
variable {s : State} {rx : Rx} {p : List Byte}

theorem State.takenAwake_blocks (s : State) (rx : Rx) :
    (s.takenAwake rx).su = s.su ∧ (s.takenAwake rx).ms = s.ms ∧ (s.takenAwake rx).trp = s.trp := by
  unfold State.takenAwake
  split <;> exact ⟨rfl, rfl, rfl⟩

theorem exec_claim (h : s.delivers classClaim rx p) :
    exec (.claim rx p) s = .next ((s.takenAwake rx).takeClaim rx (readSequence p) (readClaim p)) := by
  rw [← State.takenAwake_eq]
  exact congrArg Host.Outcome.next (State.receive_of_delivers h _)

theorem State.takeClaim_counted {sequence : Count} {f : ClaimFields} {v : ClaimVerdict}
    (h : s.su.judge s.config.isStrayNode rx sequence f = v) (hv : v ≠ .taken) :
    s.takeClaim rx sequence f = s.onSu fun u => u.tally v.count := by
  subst h
  exact if_neg hv

theorem State.takeClaim_taken {sequence : Count} {f : ClaimFields}
    (h : s.su.judge s.config.isStrayNode rx sequence f = .taken) :
    s.takeClaim rx sequence f = { s with
      su := (s.su.tally ClaimVerdict.taken.count).addClaim sequence f
      nc := { s.nc with logMark := true } } := by
  rw [State.takeClaim, h]
  rfl

end

/-! ## The entry with a number (R151) -/

/-- Where no two entries have one number, a test of those with a number is a test of the one. -/
theorem any_sequence {l : List LogEntry} {sequence : Count} {e : LogEntry} (hnodup : (l.map LogEntry.sequence).Nodup)
    (he : e ∈ l) (hsequence : e.sequence = sequence) (test : LogEntry → Bool) :
    (l.any fun x => x.sequence == sequence && test x) = test e := by
  rw [Bool.eq_iff_iff, List.any_eq_true]
  simp only [Bool.and_eq_true, beq_iff_eq]
  constructor
  · rintro ⟨x, hx, hxsequence, htest⟩
    cases List.inj_on_of_nodup_map hnodup hx he (hxsequence.trans hsequence.symm)
    exact htest
  · exact fun htest => ⟨e, he, hsequence, htest⟩

/-- R159: a dispute is counted where the one entry with the number becomes DISPUTED. -/
theorem StrayUnit.addClaim_disputes {u : StrayUnit} {sequence : Count} {e : LogEntry} (h : u.logOk) (he : e ∈ u.ring)
    (hsequence : e.sequence = sequence) (f : ClaimFields) :
    (u.addClaim sequence f).counters.disputes =
      if e.state ≠ .disputed ∧ claimStateOf (e.claims ++ [f]) e.window = .disputed then u.counters.disputes + 1
      else u.counters.disputes := by
  have hone := any_sequence h.sequences_nodup he hsequence fun x => becomesDisputed x (x.addClaim f)
  have hbecomes : becomesDisputed e (e.addClaim f) = true ↔
      e.state ≠ .disputed ∧ claimStateOf (e.claims ++ [f]) e.window = .disputed := by
    simp only [becomesDisputed, LogEntry.addClaim, Bool.and_eq_true, bne_iff_ne, beq_iff_eq]
  exact if_congr (by rw [hone]; exact hbecomes) rfl rfl

/-! ## The end of a window (R160) -/

theorem claimStateOf_ended (claims : List ClaimFields) :
    claimStateOf claims .ended =
      if claims = [] then .unclaimed else if oneCabin claims then .claimed else .disputed := by
  cases claims <;> rfl

/-- R160: an entry whose window runs becomes UNCLAIMED where it has no claim. -/
theorem LogEntry.ok.goesUnclaimed {e : LogEntry} (h : e.ok) (hrunning : e.window = .running) :
    e.goesUnclaimed = e.claims.isEmpty := by
  obtain ⟨-, -, hstate⟩ := h
  rw [LogEntry.goesUnclaimed_eq, hstate, hrunning]
  cases e.claims <;> simp [claimStateOf]

section
variable {s : State} {n : Count}

theorem exec_claimWindowEnd_idle (h : ∀ w ∈ s.su.timers, w.sequence ≠ n) : exec (.claimWindowEnd n) s = .next s :=
  congrArg Host.Outcome.next (if_neg (by simpa using fun _ => h))

/-- R160: the end of a window, and the log's mark where the entry becomes UNCLAIMED. -/
theorem exec_claimWindowEnd {w : WindowTimer} (hrun : s.running = true) (hw : w ∈ s.su.timers) (hsequence : w.sequence = n) :
    exec (.claimWindowEnd n) s = .next { s with
      su := s.su.endWindowOf n
      nc := { s.nc with logMark := s.nc.logMark || s.su.ring.any fun e => e.sequence == n && e.goesUnclaimed } } := by
  have hguard : (s.running && s.su.timers.any fun w => w.sequence == n) = true := by
    rw [hrun, Bool.true_and, List.any_eq_true]
    exact ⟨w, hw, beq_iff_eq.mpr hsequence⟩
  refine congrArg Host.Outcome.next ((if_pos hguard).trans ?_)
  dsimp only
  split
  · rename_i hmark
    rw [hmark, Bool.or_true]
    rfl
  · rename_i hmark
    rw [Bool.eq_false_iff.mpr hmark, Bool.or_false]
    rfl

end

end Sys2Proof.Machine

open Sys2Proof.Machine

/-- Settles O46: the verdict is the model's own judgement, which is the table; what a CLAIM that is taken changes of the counters
and what a window's end changes turn on there being one entry with the number. -/
theorem claimsTaken : Obligations.ClaimsTaken := by
  unfold Obligations.ClaimsTaken
  refine ⟨?_, fun s n hrun => ⟨exec_claimWindowEnd_idle, ?_⟩⟩
  · rintro s u rx p f hdelivers rfl rfl
    obtain ⟨hsu, hms, htrp⟩ := s.takenAwake_blocks rx
    obtain ⟨hst, hdc, hconfig⟩ := s.takenAwake_frame rx
    rw [exec_claim hdelivers]
    refine ⟨s.su.judge s.config.isStrayNode rx (readSequence p) (readClaim p), ?_, fun hv => ?_, fun e hv he => ?_⟩
    · cases hstray : s.config.isStrayNode with
      | false => exact StrayUnit.judge_withoutLog
      | true =>
        rw [if_neg Bool.true_eq_false.mp]
        by_cases hrefused : claimRefused rx (readClaim p) = true
        · rw [StrayUnit.judge_refused hrefused, if_pos ((claimRefused_iff ..).mp hrefused)]
        · rw [if_neg (mt (claimRefused_iff ..).mpr hrefused)]
          cases hfind : s.su.ring.find? fun e : LogEntry => e.sequence == readSequence p with
          | none => exact StrayUnit.judge_unknown hrefused hfind
          | some e => exact (StrayUnit.judge_found hrefused hfind).trans (judgeClaim_eq ..)
    · generalize hverdict : s.su.judge s.config.isStrayNode rx (readSequence p) (readClaim p) = v at hv ⊢
      rw [State.takeClaim_counted (s := s.takenAwake rx) (by rw [hsu, hconfig]; exact hverdict) hv]
      unfold State.onSu
      rw [hsu]
      cases v with
      | taken => exact absurd rfl hv
      | _ => rfl
    · have hfound := List.find?_some he
      have hsequence : e.sequence = readSequence p := beq_iff_eq.mp hfound
      rw [State.takeClaim_taken (s := s.takenAwake rx) (by rw [hsu, hconfig]; exact hv), hsu, hsequence]
      refine ⟨_, rfl, rfl, rfl, fun hlog => ?_, rfl, rfl, rfl, hst, hms, hdc, htrp, rfl, rfl⟩
      exact StrayUnit.addClaim_disputes (u := s.su.tally _) hlog (List.mem_of_find?_eq_some he) hsequence _
  · rintro w e hw hsequence he hnumber hnodup hok hrunning
    have hunclaimed : (s.su.ring.any fun x => x.sequence == n && x.goesUnclaimed) = e.claims.isEmpty :=
      (any_sequence hnodup he hnumber LogEntry.goesUnclaimed).trans (hok.goesUnclaimed hrunning)
    rw [exec_claimWindowEnd hrun hw hsequence, hunclaimed]
    simp only [StrayUnit.endWindowOf, StrayUnit.tally, hunclaimed, LogEntry.endWindow, claimStateOf_ended, List.isEmpty_iff]

end

section
/-! SUPPORT. CONFIG-FAULT (R184, R189): what its commands change of a node that does not run and reads the hall line. -/

open Sys2Proof

namespace Sys2Proof.Machine

/-- R184: the node once this much has been read of the hall line, with these counts of telegrams taken and of receive errors. -/
def State.lineRead (s : State) (taken errors : Counter) (w : LineWatch) : State :=
  { s with hlc := { s.hlc with
    watch := w, counters := { s.hlc.counters with taken := taken, receiveErrors := errors } } }

/-- The outcome of a command that at most reads the line and counts what it has read. -/
def outcomeReads (s : State) (o : Host.Outcome State Fault Refusal) : Prop := ∃ n m w, o = .next (s.lineRead n m w)

section
variable {s : State}

theorem outcomeReads_same : outcomeReads s (.next s) := ⟨_, _, _, rfl⟩

/-- A command of a running node. -/
theorem outcomeReads_running {t : State} {p : Prop} [Decidable p] (hidle : s.running = false) (hp : p → s.running = true) :
    outcomeReads s (.next (if p then t else s)) := by
  rw [if_neg fun h => Bool.false_ne_true (hidle.symm.trans (hp h))]
  exact outcomeReads_same

/-- R184: a telegram is taken. -/
theorem outcomeReads_receive (hstate : s.nc.state = .configFault) (cls : Byte) (rx : Rx) (p : List Byte)
    (owner : State → State) : outcomeReads s (.next (s.receive cls rx p owner)) := by
  unfold State.receive
  rw [hstate]
  exact ⟨_, _, _, rfl⟩

/-- The bits of a command of the hall line whose event at most counts. -/
theorem outcomeReads_heard {r : Option (LineWatch × Option HallEvent)} {act : HallEvent → State → State}
    {p : Prop} [Decidable p] (hact : ∀ e w, outcomeReads s (.next (act e (State.putWatch w s)))) :
    outcomeReads s (.next (if p then s.heard r State.putWatch act else s)) := by
  split
  · rcases s.heard_cases r State.putWatch act with ⟨-, he⟩ | ⟨w, -, he⟩ | ⟨w, e, -, he⟩ <;> rw [he]
    · exact outcomeReads_same
    · exact ⟨_, _, _, rfl⟩
    · exact hact e w
  · exact outcomeReads_same

theorem State.takeIdleGap_idle {u : State} (h : u.running = false) : u.takeIdleGap = u := by
  simp [State.takeIdleGap, h]

/-- R181, R184: an idle gap passes by at a node that does not run. -/
theorem outcomeReads_idleGap (hidle : s.running = false) (w : LineWatch) :
    outcomeReads s (.next (State.putWatch w s).takeIdleGap) := by
  rw [State.takeIdleGap_idle (u := State.putWatch w s) hidle]
  exact ⟨_, _, _, rfl⟩

/-- R175, R184: a node that does not run starts no attempt. -/
theorem State.startAttempt_idle {u : State} (h : u.running = false) : u.startAttempt = u := by
  simp [State.startAttempt, State.chance, State.maySend, h]

theorem State.takeFault_idle {u : State} (h : u.running = false) :
    u.takeFault = u.onHlc HallLine.receiveErrorUnscored := by
  simp [State.takeFault, h]

theorem exec_configFault (c : Instr) (hpower : s.nc.powered = true) (hstate : s.nc.state = .configFault)
    (hc : c ≠ .powerLoss) : outcomeReads s (exec c s) := by
  have hidle : s.running = false := by rw [State.running, hstate]; rfl
  have hunread := fun {p : Prop} [Decidable p] {t : State} => outcomeReads_running (t := t) (p := p) hidle
  have htaken := outcomeReads_receive (s := s) hstate
  cases c with
  | powerOn => exact ⟨_, _, _, congrArg Host.Outcome.next (if_pos hpower)⟩
  | startComplete straps image => exact ⟨_, _, _, congrArg Host.Outcome.next (if_neg fun h => by cases hstate.symm.trans h.2)⟩
  | powerLoss => exact absurd rfl hc
  | retentionLow => exact ⟨_, _, _, congrArg Host.Outcome.next (if_pos hpower)⟩
  | encoderPulse => exact hunread id
  | speedWindowEnd => exact hunread id
  | inductionBlockedEdge samples => exact hunread id
  | inductionClearedEdge samples => exact hunread id
  | handoffEyeBlockedEdge samples => exact hunread id
  | exitEyeBlockedEdge k samples => exact hunread Bool.and_elim_left
  | actuatorFaultChange k samples => exact hunread Bool.and_elim_left
  | framingError line => exact hunread s.running_of_readerRuns
  | readerBreak line => exact hunread s.running_of_readerRuns
  | report line => exact hunread s.running_of_readerRuns
  | characterReceived line => exact hunread s.running_of_readerRuns
  | rateMeasurement line => exact hunread s.running_of_readerMeasures
  | rateOverflow line => exact hunread s.running_of_readerMeasures
  | spanPoint n => exact hunread id
  | windowEndPoint n => exact hunread id
  | expiryPoint node bag => exact hunread id
  | closePoint n => exact hunread id
  | armPoint n k => exact hunread id
  | firePoint n => exact hunread id
  | deadlinePoint n => exact hunread id
  | strokeTimerExpiry k => exact hunread Bool.and_elim_left
  | gaugeConversionEnd codes =>
    change outcomeReads s (execGaugeConversionEnd codes s)
    unfold execGaugeConversionEnd
    split
    · exact hunread Bool.and_elim_left
    · exact outcomeReads_same
  | gaugePassStart => exact hunread fun h => Bool.and_elim_left (Bool.and_elim_left h)
  | refreshTimerExpiry => exact hunread Bool.and_elim_left
  | viewExpiry peer deck time => exact hunread Bool.and_elim_left
  | claimWindowEnd sequence => exact hunread Bool.and_elim_left
  | joinTimerExpiry => exact hunread fun ⟨hjoining, _⟩ => congrArg NodeState.running hjoining
  | sweepExamination =>
    change outcomeReads s (execSweepExamination s)
    unfold execSweepExamination
    split
    · exact hunread id
    · exact outcomeReads_same
  | purgeComplete => exact hunread Bool.and_elim_left
  | attemptStart line =>
    change outcomeReads s (execAttemptStart s line)
    unfold execAttemptStart
    repeat' split
    · exact outcomeReads_same
    · rename_i w _ _
      rw [State.startAttempt_idle (u := State.putWatch w s) hidle]
      exact ⟨_, _, _, rfl⟩
    · exact outcomeReads_same
  | attemptEnd line => exact hunread id
  | receiveError line =>
    refine outcomeReads_heard fun _ w => ?_
    rw [State.takeFault_idle (u := State.putWatch w s) hidle]
    exact ⟨_, _, _, rfl⟩
  | detachment line => exact outcomeReads_heard fun _ => outcomeReads_idleGap hidle
  | rejoin line => exact outcomeReads_heard fun _ => outcomeReads_idleGap hidle
  | idleGap line => exact outcomeReads_heard fun _ => outcomeReads_idleGap hidle
  | telegramDiscarded cls rx p =>
    change outcomeReads s (.next (s.takeDiscarded cls rx p))
    unfold State.takeDiscarded
    rw [hstate]
    exact ⟨_, _, _, rfl⟩
  | handoff rx p => exact htaken ..
  | manifest rx p => exact htaken ..
  | manifestWithdraw rx p => exact htaken ..
  | deckMap rx p => exact htaken ..
  | delivered rx p => exact htaken ..
  | purge rx p => exact htaken ..
  | outletState rx p => exact htaken ..
  | deckClose rx p => exact htaken ..
  | deckOpen rx p => exact htaken ..
  | outletRestore rx p => exact htaken ..
  | strayCall rx p => exact htaken ..
  | claim rx p => exact htaken ..
  | lost rx p => exact htaken ..
  | misplaced rx p => exact htaken ..
  | reset rx p => exact htaken ..
  | standby rx p => exact htaken ..
  | wake rx p => exact htaken ..
  | hello rx p => exact htaken ..
  | identity rx a => exact htaken ..
  | outlet rx a => exact htaken ..
  | tag rx a => exact htaken ..
  | cabin rx a => exact htaken ..
  | counters rx a => exact htaken ..
  | strayLog rx a => exact htaken ..
  | map rx a => exact htaken ..
  | queryKindUnknown rx kind a =>
    change outcomeReads s (.next (s.takeUnknownKind rx kind a))
    unfold State.takeUnknownKind
    split
    · exact outcomeReads_same
    · exact htaken ..

end

end Sys2Proof.Machine

open Sys2Proof.Machine

/-- Settles O5: a command that a running node would take finds none, one of the hall line reads its bits, and a telegram is taken
and counted. -/
theorem configFaultOnlyCounts : Obligations.ConfigFaultOnlyCounts := by
  unfold Obligations.ConfigFaultOnlyCounts
  exact fun c s hpower hstate hc => exec_configFault c hpower hstate hc

end

section
/-! SUPPORT. The end of START (R184, R185, R188 to R190, R202): the blocks as they start, and the status output by node state. -/

open Sys2Proof

namespace Sys2Proof.Machine

section
variable {s : State}

/-! ## The status output (R189) -/

theorem State.statusOutput_powered (hpower : s.nc.powered = true) :
    s.statusOutput = match s.nc.state with
      | .start => .dark
      | .configFault => .flashes (s.nc.faultCode.getD 0)
      | .joining | .sorting | .standbyPending => .steady
      | .standby => .slowBlink := if_pos hpower

/-! ## The blocks as they start -/

/-- R46: a port with a fixed divider runs with it. -/
theorem TagReadPort.start_fixed {c : NodeConfig} (hfitted : c.readerFitted = true) {d : Nat} (hrate : c.readerRate = .fixed d)
    (t : TagReadPort) : (t.start c).rateState = .running ∧ (t.start c).divider = d := by
  unfold TagReadPort.start
  rw [if_pos hfitted, hrate]
  exact ⟨rfl, rfl⟩

/-- R46: a port in AUTO measures. -/
theorem TagReadPort.start_auto {c : NodeConfig} (hfitted : c.readerFitted = true) (hrate : c.readerRate = .auto)
    (t : TagReadPort) : (t.start c).rateState = .measuring := by
  unfold TagReadPort.start
  rw [if_pos hfitted, hrate]

/-- R61: the receiver hunts and no measurement is in progress. -/
theorem TagReadPort.start_line (c : NodeConfig) (t : TagReadPort) :
    (t.start c).receiver = .hunting false ∧ (t.start c).measurement = ⟨none, none⟩ := by
  unfold TagReadPort.start
  repeat' split
  all_goals exact ⟨rfl, rfl⟩

/-- R80: a sweep changes nothing that the store holds as it starts. -/
theorem ManifestStore.startSweep_holds (m : ManifestStore) :
    m.startSweep.table = m.table ∧ m.startSweep.cabins = m.cabins ∧ m.startSweep.map = m.map
      ∧ m.startSweep.retentionLost = m.retentionLost ∧ (m.table ≠ [] → m.startSweep.sweep = some 0) := by
  unfold ManifestStore.startSweep
  split
  · rename_i hempty
    exact ⟨rfl, rfl, rfl, rfl, fun h => absurd (List.isEmpty_iff.mp hempty) h⟩
  · exact ⟨rfl, rfl, rfl, rfl, fun _ => rfl⟩

/-! ## START_COMPLETE -/

theorem exec_startComplete_fault {straps : BitVec 6} {image : List Byte} {n : Nat} (hpower : s.nc.powered = true)
    (hstate : s.nc.state = .start) (hfault : startFault straps image = some n) :
    exec (.startComplete straps image) s = .next (s.enterConfigFault n) := by
  change execStartComplete straps image s = _
  rw [execStartComplete, if_pos ⟨hpower, hstate⟩, hfault]

theorem exec_startComplete_accepted {straps : BitVec 6} {image : List Byte} (hpower : s.nc.powered = true)
    (hstate : s.nc.state = .start) (hfault : startFault straps image = none) :
    exec (.startComplete straps image) s =
      .next ((s.startBlocks (configOf straps image)).onNc NodeControl.markBoth).enterJoining := by
  change execStartComplete straps image s = _
  rw [execStartComplete, if_pos ⟨hpower, hstate⟩, hfault]

/-- R185, R190, R191: of an empty queue the HELLO is the only entry. -/
theorem State.startBlocks_hlc (s : State) (c : NodeConfig) :
    ((s.startBlocks c).onNc NodeControl.markBoth).enterJoining.hlc = { s.hlc with
      score := 0, line := .active, idleGaps := 0, drive := .quiet, watch := .between false 0
      queue := [⟨⟨0, .hello ⟨c.address, .joining, s.ms.retentionLost, c.digest, c.servedDecks⟩⟩, 0, false⟩] } := by
  obtain ⟨-, -, -, hlost, -⟩ := s.ms.startSweep_holds
  rw [← hlost]
  rfl

theorem State.startBlocks_paceTimer (s : State) (c : NodeConfig) :
    (s.startBlocks c).om.paceTimer = if c.gaugeMode = .paced then some 1000 else none := by
  unfold State.startBlocks State.startPass
  cases hmode : c.gaugeMode <;> simp [State.onOm, Config.pacePeriodMs]

end

end Sys2Proof.Machine

open Sys2Proof.Machine

/-- Settles O23: a failed check and an accepted image by their equations, block by block, and the lamp by node state. -/
theorem startCompletes : Obligations.StartCompletes := by
  unfold Obligations.StartCompletes
  refine ⟨fun s straps image hpower hstate => ⟨fun n hfault => ?_, fun hfault c hc => ?_⟩, fun s hpower => ?_⟩
  · exact ⟨_, exec_startComplete_fault hpower hstate hfault, rfl, State.statusOutput_powered hpower⟩
  · subst hc
    obtain ⟨htable, hcabins, hmap, -, hsweep⟩ := s.ms.startSweep_holds
    obtain ⟨hreceiver, hmeasurement⟩ := s.trp.start_line (configOf straps image)
    exact ⟨_, exec_startComplete_accepted hpower hstate hfault, State.statusOutput_powered hpower, rfl, rfl, hreceiver,
      hmeasurement, rfl, rfl, s.startBlocks_hlc _, rfl, rfl, rfl, s.startBlocks_paceTimer _,
      fun hfitted d hrate => TagReadPort.start_fixed hfitted hrate _,
      fun hfitted hrate => TagReadPort.start_auto hfitted hrate _, htable, hcabins, hmap, hsweep, rfl, rfl, rfl⟩
  · rw [State.statusOutput_powered hpower]
    refine ⟨fun h => ?_, fun n h hcode => ?_, ?_, fun h => ?_⟩
    · rw [h]
    · rw [h, hcode]
      rfl
    · rintro (h | h | h) <;> rw [h]
    · rw [h]

end

section
/-! SUPPORT. The send queue (R174, R176, R177, R181): where a telegram joins, which entry it replaces, and which it displaces. -/

open Sys2Proof

namespace Sys2Proof.Machine

/-! ## The entry superseded (R176) -/

/-- R168, R176: a body supersedes those of its own class alone. -/
theorem Body.urgency_of_supersedes {a b : Body} (h : a.supersedes b = true) : b.urgency = a.urgency := by
  unfold Body.supersedes at h
  split at h
  · rfl
  · rfl
  · cases h

section
variable {t : Telegram} {x : SendEntry} {before after q : List SendEntry}

/-- A waiting entry that the telegram supersedes. -/
def SendEntry.yieldsTo (t : Telegram) (y : SendEntry) : Bool := !y.onLine && t.body.supersedes y.telegram.body

theorem SendEntry.not_yieldsTo_iff {y : SendEntry} :
    y.yieldsTo t = false ↔ y.onLine = true ∨ t.body.supersedes y.telegram.body = false := by
  unfold SendEntry.yieldsTo
  cases y.onLine <;> simp

theorem replaceWaiting_cons (t : Telegram) (y : SendEntry) (ys : List SendEntry) :
    replaceWaiting t (y :: ys) =
      if y.yieldsTo t then some (SendEntry.fresh t :: ys) else (replaceWaiting t ys).map (y :: ·) := rfl

theorem replaceWaiting_of_none (h : ∀ y ∈ q, y.yieldsTo t = false) : replaceWaiting t q = none := by
  induction q with
  | nil => rfl
  | cons y ys ih =>
    rw [List.forall_mem_cons] at h
    rw [replaceWaiting_cons, h.1, ih h.2]
    rfl

theorem replaceWaiting_of_split (h : ∀ y ∈ before, y.yieldsTo t = false) (hx : x.yieldsTo t = true) :
    replaceWaiting t (before ++ x :: after) = some (before ++ SendEntry.fresh t :: after) := by
  induction before with
  | nil => rw [List.nil_append, replaceWaiting_cons, if_pos hx]; rfl
  | cons y ys ih =>
    rw [List.forall_mem_cons] at h
    rw [List.cons_append, replaceWaiting_cons, h.1, ih h.2]
    rfl

/-- An entry replaced is one that yields. -/
theorem replaceWaiting_eq_some {r : List SendEntry} (h : replaceWaiting t q = some r) :
    ∃ before x after, q = before ++ x :: after ∧ x.yieldsTo t = true ∧ r = before ++ SendEntry.fresh t :: after := by
  induction q generalizing r with
  | nil => cases h
  | cons y ys ih =>
    rw [replaceWaiting_cons] at h
    split at h
    · rename_i hy
      cases h
      exact ⟨[], y, ys, rfl, hy, rfl⟩
    · obtain ⟨r', hr', rfl⟩ := Option.map_eq_some_iff.mp h
      obtain ⟨before, x, after, rfl, hx, rfl⟩ := ih hr'
      exact ⟨y :: before, x, after, rfl, hx, rfl⟩

/-- R176: an entry yields to telegrams of its own class alone. -/
theorem SendEntry.urgency_of_yieldsTo (h : x.yieldsTo t = true) : x.urgency = t.body.urgency :=
  Body.urgency_of_supersedes (Bool.and_elim_right h)

end

/-! ## The place of an entry by urgency (R174) -/

/-- The queue in its order. -/
def byUrgency (q : List SendEntry) : Prop := q.Pairwise fun a b => a.urgency ≤ b.urgency

theorem insertByUrgency_eq {q : List SendEntry} (h : byUrgency q) (e : SendEntry) :
    insertByUrgency e q =
      q.filter (fun y => decide (y.urgency ≤ e.urgency)) ++ e :: q.filter fun y => decide (e.urgency < y.urgency) := by
  induction q with
  | nil => rfl
  | cons x xs ih =>
    obtain ⟨hx, hxs⟩ := List.pairwise_cons.mp h
    unfold insertByUrgency
    split
    · rename_i hlt
      have hall : ∀ y ∈ x :: xs, e.urgency < y.urgency :=
        List.forall_mem_cons.mpr ⟨hlt, fun y hy => lt_of_lt_of_le hlt (hx y hy)⟩
      rw [List.filter_eq_nil_iff.mpr fun y hy => by simpa using hall y hy,
        List.filter_eq_self.mpr fun y hy => by simpa using hall y hy]
      rfl
    · rename_i hle
      rw [ih hxs, List.filter_cons_of_pos (by simpa using hle), List.filter_cons_of_neg (by simpa using hle)]
      rfl

/-! ## The entry displaced (R177) -/

section
variable {u : Nat} {x : SendEntry} {before after q : List SendEntry}

/-- A waiting entry less urgent than this. -/
def SendEntry.givesWay (u : Nat) (y : SendEntry) : Bool := !y.onLine && decide (u < y.urgency)

theorem SendEntry.not_givesWay_iff {y : SendEntry} : y.givesWay u = false ↔ y.onLine = true ∨ y.urgency ≤ u := by
  unfold SendEntry.givesWay
  cases y.onLine <;> simp

theorem displaceFor_of_none (h : ∀ y ∈ q, y.givesWay u = false) : displaceFor u q = none := by
  induction q with
  | nil => rfl
  | cons y ys ih =>
    rw [List.forall_mem_cons] at h
    unfold displaceFor
    rw [ih h.2]
    exact if_neg (by rw [show (!y.onLine && decide (u < y.urgency)) = false from h.1]; decide)

theorem displaceFor_of_split (h : ∀ y ∈ after, y.givesWay u = false) (hx : x.givesWay u = true) :
    displaceFor u (before ++ x :: after) = some (before ++ after) := by
  induction before with
  | nil =>
    rw [List.nil_append, List.nil_append, displaceFor, displaceFor_of_none h]
    exact if_pos hx
  | cons y ys ih => rw [List.cons_append, displaceFor, ih]; rfl

theorem displaceFor_sublist {r : List SendEntry} (h : displaceFor u q = some r) : r.Sublist q := by
  induction q generalizing r with
  | nil => cases h
  | cons y ys ih =>
    unfold displaceFor at h
    split at h
    · rename_i r' hr'
      cases h
      exact (ih hr').cons_cons y
    · split at h
      · cases h
        exact List.sublist_cons_self y _
      · cases h

end

/-! ## A telegram queued -/

section
variable {h : HallLine} {t : Telegram}

theorem HallLine.enqueue_detached (hline : h.line = .detached) :
    h.enqueue t = { h with counters := { h.counters with givenUp := h.counters.givenUp + 1 } } := by
  unfold HallLine.enqueue
  rw [if_pos hline]
  rfl

theorem HallLine.enqueue_superseding (hline : h.line ≠ .detached) {q : List SendEntry}
    (hq : replaceWaiting t h.queue = some q) :
    h.enqueue t = { h with queue := q, counters := { h.counters with superseded := h.counters.superseded + 1 } } := by
  unfold HallLine.enqueue
  rw [if_neg hline, hq]
  rfl

theorem HallLine.enqueue_joining (hline : h.line ≠ .detached) (hnone : replaceWaiting t h.queue = none)
    (hroom : h.queue.length < 8) :
    h.enqueue t = { h with queue := insertByUrgency (SendEntry.fresh t) h.queue } := by
  unfold HallLine.enqueue
  rw [if_neg hline, hnone]
  exact if_pos hroom

theorem HallLine.enqueue_displacing (hline : h.line ≠ .detached) (hnone : replaceWaiting t h.queue = none)
    (hfull : 8 ≤ h.queue.length) {q : List SendEntry} (hq : displaceFor t.body.urgency h.queue = some q) :
    h.enqueue t = { h with
      queue := insertByUrgency (SendEntry.fresh t) q
      counters := { h.counters with displaced := h.counters.displaced + 1 } } := by
  unfold HallLine.enqueue
  rw [if_neg hline, hnone, hq]
  exact if_neg (Nat.not_lt.mpr hfull)

theorem HallLine.enqueue_dropped (hline : h.line ≠ .detached) (hnone : replaceWaiting t h.queue = none)
    (hfull : 8 ≤ h.queue.length) (hq : displaceFor t.body.urgency h.queue = none) :
    h.enqueue t = { h with counters := { h.counters with displaced := h.counters.displaced + 1 } } := by
  unfold HallLine.enqueue
  rw [if_neg hline, hnone, hq]
  exact if_neg (Nat.not_lt.mpr hfull)

end

end Sys2Proof.Machine

open Sys2Proof.Machine

/-- Settles O54: the entry replaced or displaced is the one at which its search stops, and in a queue kept in order the place of a
new entry parts the queue by urgency. -/
theorem queueAdmits : Obligations.QueueAdmits := by
  unfold Obligations.QueueAdmits
  rintro h t fresh ⟨-, hsorted, -, -⟩ rfl
  refine ⟨HallLine.enqueue_detached, fun hline before after x hq hwaiting hsupersedes hbefore => ?_, fun hline hnone => ?_⟩
  · refine HallLine.enqueue_superseding hline ?_
    rw [hq]
    exact replaceWaiting_of_split (fun y hy => SendEntry.not_yieldsTo_iff.mpr (hbefore y hy))
      (by simp [SendEntry.yieldsTo, hwaiting, hsupersedes])
  · have hreplaced := replaceWaiting_of_none fun y hy => SendEntry.not_yieldsTo_iff.mpr (hnone y hy)
    refine ⟨fun hroom => ?_, fun hfull hnobody => ?_, fun before after x hfull hq hwaiting hurgency hafter => ?_⟩
    · rw [HallLine.enqueue_joining hline hreplaced hroom, insertByUrgency_eq hsorted]
      rfl
    · exact HallLine.enqueue_dropped hline hreplaced hfull
        (displaceFor_of_none fun y hy => SendEntry.not_givesWay_iff.mpr (hnobody y hy))
    · have hdisplaced : displaceFor t.body.urgency h.queue = some (before ++ after) := by
        rw [hq]
        exact displaceFor_of_split (fun y hy => SendEntry.not_givesWay_iff.mpr (hafter y hy))
          (by simp [SendEntry.givesWay, hwaiting, hurgency])
      rw [HallLine.enqueue_displacing hline hreplaced hfull hdisplaced,
        insertByUrgency_eq (hsorted.sublist (displaceFor_sublist hdisplaced))]
      rfl

end

section
/-! SUPPORT. Payload fields written and read back (11.2, R204, R205): fields of one, two and five bytes, lists of tags, and the
values of a COUNTERS reply. -/

open Sys2Proof

namespace Sys2Proof.Machine

/-! ## Fields of one, two and five bytes -/

section
variable {n : Nat} (b : Byte) (p x : List Byte) (i : Nat)

theorem byteAt_cons_succ : byteAt (b :: p) (i + 1) = byteAt p i := rfl
theorem wordAt_cons_succ : wordAt (b :: p) (i + 1) = wordAt p i := rfl
theorem tagAt_cons_succ : tagAt (b :: p) (i + 1) = tagAt p i := rfl

theorem toNat_byte_ofNat (h : n < 256) : (BitVec.ofNat 8 n).toNat = n := by
  rw [BitVec.toNat_ofNat]; omega

theorem byteAt_byte (h : n < 256) : byteAt (BitVec.ofNat 8 n :: p) 0 = n := toNat_byte_ofNat h

theorem wordAt_word (h : n < 65536) : wordAt (BitVec.ofNat 8 (n / 256) :: BitVec.ofNat 8 n :: p) 0 = n := by
  change (BitVec.ofNat 8 (n / 256)).toNat * 256 + (BitVec.ofNat 8 n).toNat = n
  simp only [BitVec.toNat_ofNat]
  omega

theorem wordAt_count (n : Count) :
    BitVec.ofNat 16 (wordAt (BitVec.ofNat 8 (n.toNat / 256) :: BitVec.ofNat 8 n.toNat :: p) 0) = n := by
  rw [wordAt_word p n.isLt, BitVec.ofNat_toNat, BitVec.setWidth_eq]

/-- R205: no tag up to 9,999,999,999 is taken as 0. -/
theorem tagValue_eq_self (h : n ≤ 9999999999) : tagValue n = n := if_neg (Nat.not_lt.mpr h)

theorem fiveAt_bytes5 (h : n < 1099511627776) : fiveAt (bytes5 n ++ p) 0 = n := by
  change (((((BitVec.ofNat 8 (n / 4294967296)).toNat * 256 + (BitVec.ofNat 8 (n / 16777216)).toNat) * 256
    + (BitVec.ofNat 8 (n / 65536)).toNat) * 256 + (BitVec.ofNat 8 (n / 256)).toNat) * 256 + (BitVec.ofNat 8 n).toNat) = n
  simp only [BitVec.toNat_ofNat]
  omega

theorem tagAt_bytes5 (h : n ≤ 9999999999) : tagAt (bytes5 n ++ p) 0 = n := by
  rw [tagAt, fiveAt_bytes5 p (by omega), tagValue_eq_self h]

theorem tagAt_tag (h : n ≤ 9999999999) :
    tagAt (BitVec.ofNat 8 (n / 4294967296) :: BitVec.ofNat 8 (n / 16777216) :: BitVec.ofNat 8 (n / 65536)
      :: BitVec.ofNat 8 (n / 256) :: BitVec.ofNat 8 n :: p) 0 = n := tagAt_bytes5 p h

/-! ## Lists of tags -/

theorem byteAt_append_length : byteAt (x ++ p) (x.length + i) = byteAt p i := by
  simp only [byteAt, List.getD_eq_getElem?_getD, List.getElem?_append_right (Nat.le_add_right ..), Nat.add_sub_cancel_left]

theorem tagAt_append_length : tagAt (x ++ p) x.length = tagAt p 0 := by
  have h := byteAt_append_length p x
  have h0 : byteAt (x ++ p) x.length = byteAt p 0 := h 0
  simp only [tagAt, fiveAt, Nat.zero_add, h, h0]

theorem bytes5_length (n : Nat) : (bytes5 n).length = 5 := rfl

theorem flatMap_bytes5_length (tags : List Nat) : (tags.flatMap bytes5).length = 5 * tags.length := by
  induction tags with
  | nil => rfl
  | cons t ts ih => rw [List.flatMap_cons, List.length_append, bytes5_length, ih, List.length_cons]; omega

/-- The tags of a list are read back from where it begins. -/
theorem tagsAt_flatMap {tags : List Nat} (h : ∀ t ∈ tags, t ≤ 9999999999) :
    tagsAt (x ++ tags.flatMap bytes5) x.length tags.length = tags := by
  induction tags generalizing x with
  | nil => rfl
  | cons t ts ih =>
    obtain ⟨ht, hts⟩ := List.forall_mem_cons.mp h
    rw [List.length_cons, tagsAt, List.flatMap_cons, tagAt_append_length, tagAt_bytes5 _ ht, ← List.append_assoc]
    have hrest := ih (x ++ bytes5 t) hts
    rw [List.length_append, bytes5_length] at hrest
    rw [hrest]

end

/-! ## HANDOFF (R34) -/

theorem getD_tag_le {tags : List Nat} (h : ∀ t ∈ tags, t ≤ 9999999999) (i : Nat) : tags.getD i 0 ≤ 9999999999 := by
  rw [List.getD_eq_getElem?_getD]
  cases hi : tags[i]? with
  | none => exact Nat.zero_le _
  | some t => exact h t (List.mem_of_getElem? hi)

theorem take_two_slots {tags : List Nat} (h : tags.length ≤ 2) :
    [tags.getD 0 0, tags.getD 1 0].take tags.length = tags := by
  match tags, h with
  | [], _ => rfl
  | [_], _ => rfl
  | [_, _], _ => rfl

theorem reasonCode_lt (r : Option StrayReason) : reasonCode r < 256 := by
  cases r with
  | none => decide
  | some r => cases r <;> decide

theorem reasonOfCode_reasonCode (r : Option StrayReason) : reasonOfCode (reasonCode r) = some r := by
  cases r with
  | none => rfl
  | some r => cases r <;> rfl

theorem readHandoff_handoffPayload {f : HandoffFields} (hcount : f.tags.length ≤ 2) (htags : ∀ x ∈ f.tags, x ≤ 9999999999)
    (hlength : f.length < 65536) (hlap : f.lap < 256) :
    readHandoff (handoffPayload f) =
      { bag := f.bag, tagCount := f.tags.length, tags := f.tags, length := f.length, readCode := readStateCode f.readState,
        lap := f.lap, deferred := f.deferred, missed := f.missed, reasonCode := reasonCode f.reason } := by
  have hread : readStateCode f.readState < 256 := by cases f.readState <;> decide
  have hflags : ∀ d m : Bool, (BitVec.ofNat 8 ((if d then 1 else 0) + (if m then 2 else 0))).getLsbD 0 = d
      ∧ (BitVec.ofNat 8 ((if d then 1 else 0) + (if m then 2 else 0))).getLsbD 1 = m := by decide
  obtain ⟨hdeferred, hmissed⟩ := hflags f.deferred f.missed
  have hslots := take_two_slots hcount
  simp only [readHandoff, handoffPayload, bytes1, bytes2, bytes5, List.cons_append, List.nil_append, byteAt_cons_succ,
    wordAt_cons_succ, tagAt_cons_succ, List.getD_cons_succ, List.getD_cons_zero, wordAt_count, byteAt_byte _ hlap,
    byteAt_byte _ (Nat.lt_of_le_of_lt hcount (by decide)), tagAt_tag _ (getD_tag_le htags _), wordAt_word _ hlength,
    byteAt_byte _ hread, byteAt_byte _ (reasonCode_lt _), hdeferred, hmissed, hslots]

/-! ## LOST, MISPLACED, STRAY-CALL, CLAIM and DELIVERED -/

theorem readLost_lostPayload {f : LossReport} (htags : ∀ x ∈ f.tags, x ≤ 9999999999) (hlast : f.lastSection < 256)
    (hlap : f.lap < 256) (hreporter : f.reporter < 256) : readLost (lostPayload f) = f := by
  have hcount : ((lostPayload f).length - 3) / 5 = f.tags.length := by
    simp only [lostPayload, bytes1, List.length_append, List.length_singleton, flatMap_bytes5_length]
    omega
  have hread := tagsAt_flatMap (bytes1 f.lastSection ++ bytes1 f.lap ++ bytes1 f.reporter) htags
  rw [readLost, hcount, lostPayload]
  simp only [bytes1, List.cons_append, List.nil_append, List.length_cons, List.length_nil, Nat.reduceAdd] at hread
  simp only [bytes1, List.cons_append, List.nil_append, byteAt_cons_succ, byteAt_byte _ hlast, byteAt_byte _ hlap,
    byteAt_byte _ hreporter, hread]

theorem readMisplaced_misplacedPayload {f : MisplacedReport} (htag : f.tag ≤ 9999999999) (hdeck : f.oldDeck < 256)
    (hcabin : ∀ c, f.newCabin = some c → 1 ≤ c ∧ c < 65536) :
    readMisplaced (misplacedPayload f) =
      { tag := f.tag, oldDeck := f.oldDeck, cause := some f.cause, newCabin := f.newCabin } := by
  have hcause : causeCode f.cause < 256 := by cases f.cause <;> decide
  have hnew : f.newCabin.getD 0 < 65536 ∧ (if f.newCabin.getD 0 = 0 then none else some (f.newCabin.getD 0)) = f.newCabin := by
    cases hc : f.newCabin with
    | none => exact ⟨by decide, rfl⟩
    | some c =>
      obtain ⟨hpos, hlt⟩ := hcabin c hc
      exact ⟨hlt, if_neg (Nat.ne_of_gt hpos)⟩
  obtain ⟨hlt, habsent⟩ := hnew
  simp only [readMisplaced, misplacedPayload, bytes1, bytes2, bytes5, List.cons_append, List.nil_append, byteAt_cons_succ,
    wordAt_cons_succ, tagAt_tag _ htag, byteAt_byte _ hdeck, byteAt_byte _ hcause, wordAt_word _ hlt, causeOfCode_causeCode,
    habsent]

theorem readSequence_bytes2 (n : Count) (p : List Byte) : readSequence (bytes2 n.toNat ++ p) = n :=
  wordAt_count p n

theorem readCallTags_strayCallPayload (n : Count) {tags : List Nat} (htags : ∀ x ∈ tags, x ≤ 9999999999) :
    readCallTags (strayCallPayload n tags) = tags := by
  have hcount : ((strayCallPayload n tags).length - 2) / 5 = tags.length := by
    simp only [strayCallPayload, bytes2, List.length_append, List.length_cons, List.length_nil, flatMap_bytes5_length]
    omega
  rw [readCallTags, hcount]
  exact tagsAt_flatMap (bytes2 n.toNat) htags

theorem readClaim_claimPayload (n : Count) {f : ClaimFields} (htag : f.tag ≤ 9999999999) (hcabin : f.cabin < 65536)
    (hdeck : f.deck < 256) (hnode : f.node < 256) : readClaim (claimPayload n f) = f := by
  simp only [readClaim, claimPayload, bytes1, bytes2, bytes5, List.cons_append, List.nil_append, byteAt_cons_succ,
    wordAt_cons_succ, tagAt_cons_succ, tagAt_tag _ htag, wordAt_word _ hcabin, byteAt_byte _ hdeck, byteAt_byte _ hnode]

theorem readDelivered_deliveredPayload {f : DeliveredFields} (htag : f.tag ≤ 9999999999) (hcabin : f.cabin < 65536)
    (hdeck : f.deck < 256) (hnode : f.node < 256) (houtlet : f.outlet < 256) : readDelivered (deliveredPayload f) = f := by
  simp only [readDelivered, deliveredPayload, bytes1, bytes2, bytes5, List.cons_append, List.nil_append, byteAt_cons_succ,
    wordAt_cons_succ, tagAt_tag _ htag, wordAt_word _ hcabin, byteAt_byte _ hdeck, byteAt_byte _ hnode, byteAt_byte _ houtlet]

/-! ## OUTLET-STATE, HELLO and REPLY -/

theorem readOutletState_outletStatePayload {deck reading : Nat} (summary : Summary) (hdeck : deck < 256)
    (hreading : reading < 256) :
    readOutletState (outletStatePayload deck summary reading) =
      { deck := deck, summary := some summary, reading := reading } := by
  have hsummary : summaryCode summary < 256 := by cases summary <;> decide
  simp only [readOutletState, outletStatePayload, bytes1, List.cons_append, List.nil_append, byteAt_cons_succ,
    byteAt_byte _ hdeck, byteAt_byte _ hsummary, byteAt_byte _ hreading, summaryOfCode_summaryCode]

theorem getD_byte_lt {l : List Nat} (h : ∀ d ∈ l, d < 256) (i : Nat) : l.getD i 0 < 256 := by
  rw [List.getD_eq_getElem?_getD]
  cases hi : l[i]? with
  | none => decide
  | some d => exact h d (List.mem_of_getElem? hi)

/-- R191: each field of a HELLO stands in its byte. -/
theorem helloPayload_fields {f : HelloFields} (haddress : f.address < 256) (hdecks : ∀ d ∈ f.decks, d < 256) :
    byteAt (helloPayload f) 0 = f.address ∧ byteAt (helloPayload f) 1 = nodeStateCode f.state
      ∧ byteAt (helloPayload f) 2 = (if f.retentionLost then 1 else 0) ∧ wordAt (helloPayload f) 3 = f.digest.toNat
      ∧ ∀ i, i < 4 → byteAt (helloPayload f) (5 + i) = f.decks.getD i 0 := by
  have hstate : nodeStateCode f.state < 256 := by cases f.state <;> decide
  have hdeck : ∀ i, (BitVec.ofNat 8 (f.decks.getD i 0)).toNat = f.decks.getD i 0 := fun i =>
    toNat_byte_ofNat (getD_byte_lt hdecks i)
  refine ⟨toNat_byte_ofNat haddress, toNat_byte_ofNat hstate, ?_, wordAt_word [] f.digest.isLt, fun i hi => ?_⟩
  · change (if f.retentionLost then 1 else 0 : Byte).toNat = _
    cases f.retentionLost <;> rfl
  · match i, hi with
    | 0, _ => exact hdeck 0
    | 1, _ => exact hdeck 1
    | 2, _ => exact hdeck 2
    | 3, _ => exact hdeck 3

theorem bytes4_value (v : Counter) : (bytes4 v).foldl (fun n b => 256 * n + b.toNat) 0 = v.toNat := by
  simp only [bytes4, List.foldl_cons, List.foldl_nil, BitVec.extractLsb'_toNat, Nat.shiftRight_eq_div_pow]
  omega

/-- R201: the values of a COUNTERS reply stand one after another, four bytes each. -/
theorem flatMap_bytes4_value {values : List Counter} {i : Nat} {v : Counter} (h : values[i]? = some v) :
    ((values.flatMap bytes4).drop (4 * i)).take 4 = bytes4 v := by
  induction values generalizing i with
  | nil => cases h
  | cons w ws ih =>
    cases i with
    | zero => cases h; rfl
    | succ i => exact ih h

theorem flatMap_bytes4_length (values : List Counter) : (values.flatMap bytes4).length = 4 * values.length := by
  induction values with
  | nil => rfl
  | cons v vs ih =>
    rw [List.flatMap_cons, List.length_append, ih, List.length_cons, show (bytes4 v).length = 4 from rfl]
    omega

end Sys2Proof.Machine

open Sys2Proof.Machine

/-- Settles O59: class by class, each field read where it was written. -/
theorem payloadFieldsReadBack : Obligations.PayloadFieldsReadBack := by
  unfold Obligations.PayloadFieldsReadBack
  refine ⟨fun f hcount htags hlength hlap => ⟨readHandoff_handoffPayload hcount htags hlength hlap, reasonOfCode_reasonCode _⟩,
    fun f _ htags => readLost_lostPayload htags, fun f => readMisplaced_misplacedPayload,
    fun n tags _ htags => ⟨readSequence_bytes2 n _, readCallTags_strayCallPayload n htags⟩,
    fun n f htag hcabin hdeck hnode => ⟨?_, readClaim_claimPayload n htag hcabin hdeck hnode⟩,
    fun f => readDelivered_deliveredPayload, fun deck summary reading => readOutletState_outletStatePayload summary,
    ?_, fun kind condition data => ?_, ?_⟩
  · simp only [claimPayload, List.append_assoc]
    exact readSequence_bytes2 n _
  · rintro f _ rfl haddress _ hdecks
    exact ⟨rfl, helloPayload_fields haddress hdecks⟩
  · cases condition <;> rfl
  · rintro values _ rfl
    exact ⟨flatMap_bytes4_length values, fun i v h => (congrArg _ (flatMap_bytes4_value h)).trans (bytes4_value v)⟩

end

section
/-! SUPPORT. The hall line's invariants (R167, R169, R174, R175, R178 to R181): what the send queue and what is read of the line
keep when a telegram is queued, a score changes, and an attempt starts or ends. -/

open Sys2Proof

namespace Sys2Proof.Machine

/-! ## A telegram queued (R174, R176, R177) -/

section
variable {t : Telegram} {q r : List SendEntry}

/-- R174, R175: a queue in order, with its attempts counted and at most one of its entries on the line. -/
def queueFit (q : List SendEntry) : Prop :=
  byUrgency q ∧ (∀ e ∈ q, e.attempts < Config.maxAttempts) ∧ q.countP SendEntry.onLine ≤ 1

theorem HallLine.queueOk_iff (h : HallLine) : h.queueOk ↔ h.queue.length ≤ Config.maxQueue ∧ queueFit h.queue := Iff.rfl

theorem exists_onLine_iff : (∃ e ∈ q, e.onLine = true) ↔ 0 < q.countP SendEntry.onLine := List.countP_pos_iff.symm

/-- R176: the telegram that supersedes a waiting entry takes its place in the order. -/
theorem queueFit_replaceWaiting (hq : queueFit q) (h : replaceWaiting t q = some r) :
    queueFit r ∧ r.countP SendEntry.onLine = q.countP SendEntry.onLine := by
  obtain ⟨before, x, after, rfl, hx, rfl⟩ := replaceWaiting_eq_some h
  obtain ⟨hsorted, hattempts, hone⟩ := hq
  have hwaiting : x.onLine = false := by simpa using Bool.and_elim_left hx
  have hcount : (before ++ SendEntry.fresh t :: after).countP SendEntry.onLine =
      (before ++ x :: after).countP SendEntry.onLine := by
    simp [List.countP_append, hwaiting, SendEntry.fresh]
  have hurgency : (before ++ SendEntry.fresh t :: after).map SendEntry.urgency =
      (before ++ x :: after).map SendEntry.urgency := by
    rw [List.map_append, List.map_append, List.map_cons, List.map_cons, SendEntry.urgency_of_yieldsTo hx]
    rfl
  refine ⟨⟨?_, fun e he => ?_, hcount.trans_le hone⟩, hcount⟩
  · rw [byUrgency, ← List.pairwise_map (f := SendEntry.urgency) (R := (· ≤ ·))] at hsorted ⊢
    rwa [hurgency]
  · rcases List.mem_append.mp he with he | he
    · exact hattempts e (List.mem_append_left _ he)
    · rcases List.mem_cons.mp he with rfl | he
      · exact Nat.zero_lt_succ 7
      · exact hattempts e (List.mem_append_right _ (List.mem_cons_of_mem _ he))

/-- R174: a telegram that joins takes its place in the order. -/
theorem queueFit_insertByUrgency (hq : queueFit q) (t : Telegram) :
    queueFit (insertByUrgency (SendEntry.fresh t) q)
      ∧ (insertByUrgency (SendEntry.fresh t) q).countP SendEntry.onLine = q.countP SendEntry.onLine := by
  obtain ⟨hsorted, hattempts, hone⟩ := hq
  have hparts : ∀ e : SendEntry, (!decide (e.urgency ≤ (SendEntry.fresh t).urgency)) =
      decide ((SendEntry.fresh t).urgency < e.urgency) := fun e => by rw [← decide_not, decide_eq_decide, not_le]
  have hperm : (insertByUrgency (SendEntry.fresh t) q).Perm (SendEntry.fresh t :: q) := by
    rw [insertByUrgency_eq hsorted]
    refine List.perm_middle.trans (List.Perm.cons _ ?_)
    simpa only [hparts] using List.filter_append_perm (fun y => decide (y.urgency ≤ (SendEntry.fresh t).urgency)) q
  have hcount : (insertByUrgency (SendEntry.fresh t) q).countP SendEntry.onLine = q.countP SendEntry.onLine :=
    hperm.countP_eq _
  refine ⟨⟨?_, fun e he => ?_, hcount.trans_le hone⟩, hcount⟩
  · rw [insertByUrgency_eq hsorted]
    refine List.pairwise_append.mpr ⟨hsorted.filter _, List.pairwise_cons.mpr ⟨fun y hy => ?_, hsorted.filter _⟩,
      fun x hx y hy => ?_⟩
    · have := (List.mem_filter.mp hy).2
      simp only [decide_eq_true_eq] at this
      exact this.le
    · have hle := (List.mem_filter.mp hx).2
      simp only [decide_eq_true_eq] at hle
      rcases List.mem_cons.mp hy with rfl | hy
      · exact hle
      · have hlt := (List.mem_filter.mp hy).2
        simp only [decide_eq_true_eq] at hlt
        exact hle.trans hlt.le
  · rcases List.mem_cons.mp (hperm.mem_iff.mp he) with rfl | he
    · exact Nat.zero_lt_succ 7
    · exact hattempts e he

/-- R177: only a waiting entry is displaced. -/
theorem displaceFor_countP {u : Nat} (h : displaceFor u q = some r) :
    r.countP SendEntry.onLine = q.countP SendEntry.onLine := by
  induction q generalizing r with
  | nil => cases h
  | cons y ys ih =>
    unfold displaceFor at h
    split at h
    · rename_i r' hr'
      cases h
      rw [List.countP_cons, List.countP_cons, ih hr']
    · split at h
      · rename_i hy
        cases h
        have hwaiting : y.onLine = false := by simpa using Bool.and_elim_left hy
        rw [List.countP_cons_of_neg (by simp [hwaiting])]
      · cases h

theorem queueFit_displaceFor {u : Nat} (hq : queueFit q) (h : displaceFor u q = some r) : queueFit r := by
  obtain ⟨hsorted, hattempts, hone⟩ := hq
  have hsub := displaceFor_sublist h
  exact ⟨hsorted.sublist hsub, fun e he => hattempts e (hsub.subset he), (displaceFor_countP h).trans_le hone⟩

end

section
variable {h : HallLine} {t : Telegram}

/-- What a queued telegram does to the queue. -/
theorem HallLine.enqueue_keeps (hq : h.queueOk) (t : Telegram) :
    (h.enqueue t).queueOk ∧ (h.enqueue t).queue.countP SendEntry.onLine = h.queue.countP SendEntry.onLine := by
  obtain ⟨hlength, hfit⟩ := h.queueOk_iff.mp hq
  unfold HallLine.enqueue
  split
  · exact ⟨hq, rfl⟩
  · split
    · rename_i q hr
      obtain ⟨hfit', hcount⟩ := queueFit_replaceWaiting hfit hr
      exact ⟨⟨(replaceWaiting_length hr).trans_le hlength, hfit'⟩, hcount⟩
    · split
      · rename_i hroom
        obtain ⟨hfit', hcount⟩ := queueFit_insertByUrgency hfit t
        exact ⟨⟨(insertByUrgency_length _ _).trans_le hroom, hfit'⟩, hcount⟩
      · split
        · rename_i q hd
          obtain ⟨hfit', hcount⟩ := queueFit_insertByUrgency (queueFit_displaceFor hfit hd) t
          refine ⟨⟨((insertByUrgency_length _ _).trans (displaceFor_length hd)).trans_le hlength, hfit'⟩, ?_⟩
          exact hcount.trans (displaceFor_countP hd)
        · exact ⟨hq, rfl⟩

/-! ## The whole of the hall line -/

/-- R167 to R181: what every step keeps of the HLC. -/
def HallLine.ok (h : HallLine) : Prop := h.queueOk ∧ h.lineOk

/-- R178, R179, R181: the score, the line state and the count of idle gaps. -/
def HallLine.scoreOk (h : HallLine) : Prop :=
  h.score ≤ Config.maxScore
    ∧ if h.line = .detached then h.score = Config.maxScore ∧ h.queue = [] ∧ h.idleGaps < Config.rejoinGaps
      else h.line = lineStateOf h.score

theorem HallLine.ok_iff (h : HallLine) : h.ok ↔ h.queueOk ∧ h.scoreOk ∧ h.watchOk := by
  simp only [HallLine.ok, HallLine.lineOk, HallLine.scoreOk, and_assoc]

theorem HallLine.watchOk_of_countP {g : HallLine} (hwatch : g.watch = h.watch)
    (hcount : g.queue.countP SendEntry.onLine = h.queue.countP SendEntry.onLine) (hok : h.watchOk) : g.watchOk := by
  unfold HallLine.watchOk at hok ⊢
  rw [exists_onLine_iff] at hok ⊢
  rwa [hwatch, hcount]

theorem HallLine.enqueue_ok (hok : h.ok) (t : Telegram) : (h.enqueue t).ok := by
  obtain ⟨hq, ⟨hle, hline⟩, hwatch⟩ := h.ok_iff.mp hok
  obtain ⟨hq', hcount⟩ := HallLine.enqueue_keeps hq t
  refine (HallLine.ok_iff _).mpr ⟨hq', ?_, HallLine.watchOk_of_countP (h.enqueue_watch t) hcount hwatch⟩
  unfold HallLine.scoreOk
  rw [HallLine.enqueue_score, HallLine.enqueue_line, HallLine.enqueue_idleGaps]
  refine ⟨hle, ?_⟩
  split
  · rename_i hdetached
    rw [if_pos hdetached] at hline
    rwa [HallLine.enqueue_detached hdetached]
  · rename_i hdetached
    rwa [if_neg hdetached] at hline

theorem HallLine.foldl_enqueue_ok (hok : h.ok) (ts : List Telegram) : (ts.foldl (fun h t => h.enqueue t) h).ok := by
  induction ts generalizing h with
  | nil => exact hok
  | cons t ts ih => exact ih (HallLine.enqueue_ok hok t)

end

/-! ## Bits heard (R169, R170) -/

/-- R170, R172: bits keep the reader's form, and an attempt goes on through all but those that end it. -/
theorem hear_attempting {tells row : HallEvent → Bool} (htells : ∀ r, tells (.ended r) = true) {line : List Bool}
    {w v : LineWatch} {e : Option HallEvent} (hw : w.ok) (h : hear LineWatch.sample tells row line w = some (v, e)) :
    v.ok ∧ ((∃ read left, v = .attempting read left)
        ↔ (∃ read left, w = .attempting read left) ∧ ∀ r, e ≠ some (.ended r))
      ∧ ∀ r, e = some (.ended r) → ∃ read left, w = .attempting read left := by
  induction line generalizing w with
  | nil =>
    simp only [hear, Option.some.injEq, Prod.mk.injEq] at h
    obtain ⟨rfl, rfl⟩ := h
    exact ⟨hw, by simp, by simp⟩
  | cons b bs ih =>
    have hok := LineWatch.sample_ok (b := b) hw
    obtain ⟨hgoes, hends⟩ := LineWatch.sample_attempting (b := b) hw
    unfold hear at h
    split at h
    · rename_i hnone
      rw [hnone] at hgoes
      obtain ⟨hv, hiff, hend⟩ := ih hok h
      simp only [hgoes] at hiff hend
      exact ⟨hv, by simpa using hiff, fun r hr => (hend r hr).1⟩
    · rename_i x hx
      rw [hx] at hgoes hends
      split at h
      · split at h
        · simp only [Option.some.injEq, Prod.mk.injEq] at h
          obtain ⟨rfl, rfl⟩ := h
          exact ⟨hok, hgoes, hends⟩
        · cases h
      · rename_i htold
        have hgoing : ∀ r, some x ≠ some (.ended r) := fun r hr => htold ((Option.some.inj hr) ▸ htells r)
        obtain ⟨hv, hiff, hend⟩ := ih hok h
        simp only [hgoes] at hiff hend
        exact ⟨hv, by simpa [hgoing] using hiff, fun r hr => (hend r hr).1⟩

section
variable {s : State} {row : HallEvent → Bool} {line : List Bool} {w : LineWatch} {e : Option HallEvent}

theorem State.hearHall_attempting (hw : s.hlc.watch.ok) (h : s.hearHall row line = some (w, e)) :
    w.ok ∧ ((∃ read left, w = .attempting read left)
        ↔ (∃ read left, s.hlc.watch = .attempting read left) ∧ ∀ r, e ≠ some (.ended r))
      ∧ ∀ r, e = some (.ended r) → ∃ read left, s.hlc.watch = .attempting read left := by
  unfold State.hearHall at h
  split at h
  · cases h
  · exact hear_attempting (fun _ => rfl) hw h

/-- An event that the bits of a command bring is the command's own. -/
theorem State.hearHall_row {x : HallEvent} (h : s.hearHall row line = some (w, some x)) : row x = true := by
  unfold State.hearHall at h
  split at h
  · cases h
  · exact (hear_row h).2

/-- R169: bits that end no attempt. -/
theorem State.putWatch_ok (hok : s.hlc.ok) (h : s.hearHall row line = some (w, e)) (he : ∀ r, e ≠ some (.ended r)) :
    (State.putWatch w s).hlc.ok := by
  obtain ⟨hq, hscore, hwatch, hiff⟩ := s.hlc.ok_iff.mp hok
  obtain ⟨hw, hgoes, -⟩ := State.hearHall_attempting hwatch h
  refine (HallLine.ok_iff _).mpr ⟨hq, hscore, hw, ?_⟩
  exact (hgoes.trans (and_iff_left he)).trans hiff

end

/-! ## The score (R178, R179) -/

section
variable {h : HallLine}

theorem lineStateOf_ne_detached (n : Nat) : lineStateOf n ≠ .detached := by
  unfold lineStateOf
  repeat' split
  all_goals decide

theorem HallLine.rescore_of_detached (hline : h.line = .detached) (f : Nat → Nat) : h.rescore f = h := if_pos hline

theorem HallLine.rescore_of_ne (hline : h.line ≠ .detached) (f : Nat → Nat) :
    h.rescore f = { h with score := f h.score, line := lineStateOf (f h.score) } := if_neg hline

theorem HallLine.rescore_watch (f : Nat → Nat) (h : HallLine) : (h.rescore f).watch = h.watch := by
  unfold HallLine.rescore; split <;> rfl

/-- R179: outside DETACHED the line state is the one the score gives. -/
theorem HallLine.scoreOk_of_line {n : Nat} (hscore : h.score = n) (hline : h.line = lineStateOf n) (hle : n ≤ 255) :
    h.scoreOk := by
  unfold HallLine.scoreOk
  rw [hline, if_neg (lineStateOf_ne_detached n), hscore]
  exact ⟨hle, rfl⟩

theorem HallLine.rescore_scoreOk (hok : h.scoreOk) {f : Nat → Nat} (hf : f h.score ≤ 255) : (h.rescore f).scoreOk := by
  by_cases hline : h.line = .detached
  · rwa [HallLine.rescore_of_detached hline]
  · rw [HallLine.rescore_of_ne hline]
    exact HallLine.scoreOk_of_line rfl rfl hf

theorem scoreUp_le (n score : Nat) : scoreUp n score ≤ 255 := Nat.min_le_left _ _

theorem HallLine.scoreDown_le (hok : h.scoreOk) (n : Nat) : scoreDown n h.score ≤ 255 := (Nat.sub_le ..).trans hok.1

theorem HallLine.rescore_ok (hok : h.ok) {f : Nat → Nat} (hf : f h.score ≤ 255) : (h.rescore f).ok := by
  obtain ⟨hq, hscore, hwatch⟩ := h.ok_iff.mp hok
  refine (HallLine.ok_iff _).mpr ⟨?_, HallLine.rescore_scoreOk hscore hf, ?_⟩
  · rw [HallLine.queueOk_iff, HallLine.rescore_queue]
    exact hq
  · exact HallLine.watchOk_of_countP (HallLine.rescore_watch f h) (by rw [HallLine.rescore_queue]) hwatch

/-- R169, R173: the line after a telegram; an attempt goes on. -/
theorem LineWatch.afterTelegram_ok {w : LineWatch} (hw : w.ok) (check : BitVec 16) (confirmed : Bool) :
    (w.afterTelegram check confirmed).ok
      ∧ ((∃ read left, w.afterTelegram check confirmed = .attempting read left) ↔ ∃ read left, w = .attempting read left) := by
  cases w with
  | between idle run => exact ⟨lineAfter_ok _, by simp [LineWatch.afterTelegram, lineAfter]⟩
  | receiving bytes bits => exact ⟨lineAfter_ok _, by simp [LineWatch.afterTelegram, lineAfter]⟩
  | attempting read left => exact ⟨hw, Iff.rfl⟩

theorem HallLine.afterTelegram_ok (hok : h.ok) (check : BitVec 16) (confirmed : Bool) (drive : LineDrive) :
    ({ h with drive := drive, watch := h.watch.afterTelegram check confirmed } : HallLine).ok := by
  obtain ⟨hq, hscore, hwatch, hiff⟩ := h.ok_iff.mp hok
  obtain ⟨hw, hgoes⟩ := LineWatch.afterTelegram_ok hwatch check confirmed
  exact (HallLine.ok_iff _).mpr ⟨hq, hscore, hw, hgoes.trans hiff⟩

theorem State.takeTelegram_ok {s : State} (hok : s.hlc.ok) (rx : Rx) : (s.takeTelegram rx).hlc.ok := by
  have hafter := HallLine.afterTelegram_ok hok rx.check (rx.confirmed || s.confirms rx) (s.confirmDrive rx)
  exact HallLine.rescore_ok hafter (HallLine.scoreDown_le ((HallLine.ok_iff _).mp hafter).2.1 1)

theorem State.takeInFault_ok {s : State} (hok : s.hlc.ok) (rx : Rx) : (s.takeInFault rx).hlc.ok :=
  HallLine.afterTelegram_ok hok rx.check rx.confirmed s.hlc.drive

theorem State.discard_ok {s : State} (hok : s.hlc.ok) (j : Judgement) : (s.discard j).hlc.ok := by
  cases j <;> exact hok

theorem State.takeFault_ok {s : State} (hok : s.hlc.ok) : s.takeFault.hlc.ok := by
  unfold State.takeFault
  split
  · exact HallLine.rescore_ok (h := { s.hlc with drive := if s.hlc.line.drives then .errorMark else .quiet }) hok
      (scoreUp_le 1 _)
  · exact hok

/-! ## Attempts (R174, R175) -/

theorem HallLine.not_attempting_iff : h.attempting = false ↔ ∀ e ∈ h.queue, e.onLine = false := by
  simp [HallLine.attempting, List.any_eq_false]

theorem countP_onLine_eq_zero {q : List SendEntry} (hq : ∀ e ∈ q, e.onLine = false) : q.countP SendEntry.onLine = 0 :=
  List.countP_eq_zero.mpr fun e he => by simp [hq e he]

theorem Telegram.levels_ne_nil (address : Nat) (t : Telegram) : t.levels address ≠ [] := by
  simp [Telegram.levels, confirmSlot]

/-- R175: the first entry goes on the line. -/
theorem HallLine.startAttempt_ok (hok : h.ok) (hdrives : h.line.drives = true) (hnone : ∀ e ∈ h.queue, e.onLine = false)
    (address : Nat) : (h.startAttempt address).ok := by
  obtain ⟨hq, ⟨hle, hline⟩, -⟩ := h.ok_iff.mp hok
  obtain ⟨hlength, hsorted, hattempts, -⟩ := h.queueOk_iff.mp hq
  unfold HallLine.startAttempt
  split
  · exact hok
  · rename_i e es hqueue
    rw [hqueue] at hlength hsorted hattempts hnone
    obtain ⟨hefirst, hes⟩ := List.pairwise_cons.mp hsorted
    obtain ⟨hattempt, hrest⟩ := List.forall_mem_cons.mp hattempts
    have hone : ({ e with onLine := true } :: es).countP SendEntry.onLine = 1 := by
      rw [List.countP_cons_of_pos rfl, countP_onLine_eq_zero (List.forall_mem_cons.mp hnone).2]
    have hdetached : h.line ≠ .detached := fun hd => by rw [hd] at hdrives; cases hdrives
    rw [if_neg hdetached] at hline
    refine (HallLine.ok_iff _).mpr ⟨⟨hlength, ?_, ?_, hone.le⟩, ⟨hle, ?_⟩, e.telegram.levels_ne_nil address, ?_⟩
    · exact List.pairwise_cons.mpr ⟨hefirst, hes⟩
    · exact List.forall_mem_cons.mpr ⟨hattempt, hrest⟩
    · exact (if_neg hdetached).mpr hline
    · exact iff_of_true ⟨_, _, rfl⟩ ⟨_, List.mem_cons_self, rfl⟩

theorem State.startAttempt_ok {s : State} (hok : s.hlc.ok) : s.startAttempt.hlc.ok := by
  unfold State.startAttempt
  split
  · rename_i hchance
    simp only [State.chance, State.maySend, Bool.and_eq_true, Bool.not_eq_true'] at hchance
    obtain ⟨⟨⟨⟨-, hdrives⟩, hnone⟩, -⟩, -⟩ := hchance
    exact HallLine.startAttempt_ok hok hdrives (HallLine.not_attempting_iff.mp hnone) _
  · exact hok

/-- An HLC whose attempt has left the line. -/
structure HallLine.Cleared (h : HallLine) : Prop where
  queue : h.queueOk
  score : h.scoreOk
  none  : ∀ e ∈ h.queue, e.onLine = false

theorem HallLine.Cleared.ok (hc : h.Cleared) (hw : h.watch.ok) (hnot : ¬ ∃ read left, h.watch = .attempting read left) :
    h.ok :=
  h.ok_iff.mpr ⟨hc.queue, hc.score, hw, iff_of_false hnot fun ⟨e, he, hon⟩ => by
    rw [hc.none e he] at hon; cases hon⟩

theorem HallLine.Cleared.tally (hc : h.Cleared) (f : HlcCounters → HlcCounters) : (h.tally f).Cleared :=
  ⟨hc.queue, hc.score, hc.none⟩

theorem HallLine.dropOnLine_fit (hq : h.queueOk) :
    h.dropOnLine.queueOk ∧ ∀ e ∈ h.dropOnLine.queue, e.onLine = false := by
  obtain ⟨hlength, hsorted, hattempts, hone⟩ := h.queueOk_iff.mp hq
  have hsub : h.dropOnLine.queue.Sublist h.queue := List.filter_sublist
  exact ⟨⟨hsub.length_le.trans hlength, hsorted.sublist hsub, fun e he => hattempts e (hsub.subset he),
    (hsub.countP_le).trans hone⟩, fun e he => by simpa using (List.mem_filter.mp he).2⟩

/-- R175: an entry that stays keeps its place, with its attempts counted. -/
theorem HallLine.keepOnLine_fit (hq : h.queueOk) {attempts : Nat} (hattempt : attempts < Config.maxAttempts) (e : SendEntry) :
    (h.keepOnLine attempts e).queueOk ∧ ∀ e' ∈ (h.keepOnLine attempts e).queue, e'.onLine = false := by
  unfold HallLine.keepOnLine
  split
  · exact HallLine.dropOnLine_fit hq
  · obtain ⟨hlength, hsorted, hattempts, -⟩ := h.queueOk_iff.mp hq
    have hwaits : ∀ x ∈ h.queue.map fun x => if x.onLine then { x with attempts := attempts, onLine := false } else x,
        x.attempts < Config.maxAttempts ∧ x.onLine = false := fun x hx => by
      obtain ⟨y, hy, rfl⟩ := List.mem_map.mp hx
      split
      · exact ⟨hattempt, rfl⟩
      · rename_i hwaiting
        exact ⟨hattempts y hy, Bool.eq_false_iff.mpr hwaiting⟩
    refine ⟨⟨(List.length_map _).trans_le hlength, ?_, fun x hx => (hwaits x hx).1, ?_⟩, fun x hx => (hwaits x hx).2⟩
    · refine List.pairwise_map.mpr (hsorted.imp fun {a b} hab => ?_)
      have hurgency : ∀ x : SendEntry,
          (if x.onLine then { x with attempts := attempts, onLine := false } else x).urgency = x.urgency := fun x => by
        split <;> rfl
      rwa [hurgency, hurgency]
    · exact (countP_onLine_eq_zero fun x hx => (hwaits x hx).2).trans_le (Nat.zero_le 1)

theorem HallLine.keepOnLine_rest (attempts : Nat) (e : SendEntry) (h : HallLine) :
    (h.keepOnLine attempts e).line = h.line ∧ (h.keepOnLine attempts e).score = h.score
      ∧ (h.keepOnLine attempts e).watch = h.watch ∧ (h.keepOnLine attempts e).idleGaps = h.idleGaps
      ∧ (h.keepOnLine attempts e).drive = h.drive := by
  unfold HallLine.keepOnLine
  split <;> exact ⟨rfl, rfl, rfl, rfl, rfl⟩

/-- R178: the queue of an attempt that is over, scored. -/
theorem HallLine.Cleared.rescored {f : Nat → Nat} (hline : h.line ≠ .detached) (hq : h.queueOk)
    (hnone : ∀ e ∈ h.queue, e.onLine = false) (hf : f h.score ≤ 255) : (h.rescore f).Cleared := by
  rw [HallLine.rescore_of_ne hline]
  exact ⟨hq, HallLine.scoreOk_of_line rfl rfl hf, hnone⟩

/-- R180: a node that detaches holds no telegram. -/
theorem HallLine.detach_cleared (hscore : h.score = 255) : h.detach.Cleared := by
  refine ⟨⟨Nat.zero_le _, List.Pairwise.nil, List.forall_mem_nil _, Nat.zero_le _⟩, ⟨hscore.le, ?_⟩, List.forall_mem_nil _⟩
  exact (if_pos rfl).mpr ⟨hscore, rfl, Nat.zero_lt_succ 95⟩

/-- R175: the end of the attempt of an entry clears the line. -/
theorem HallLine.endAttempt_cleared {e : SendEntry} (hq : h.queueOk) (hscore : h.scoreOk) (he : e ∈ h.queue)
    (result : AttemptResult) : (h.endAttempt e result).Cleared := by
  obtain ⟨-, -, hattempts, -⟩ := h.queueOk_iff.mp hq
  have hline : h.line ≠ .detached := fun hd => by
    obtain ⟨-, hempty⟩ := hscore
    rw [if_pos hd] at hempty
    rw [hempty.2.1] at he
    cases he
  unfold HallLine.endAttempt
  generalize h.driveAfter result = drive
  have hu : ({ h with drive := drive } : HallLine).queueOk := hq
  dsimp only
  split
  · obtain ⟨hq', hnone⟩ := HallLine.dropOnLine_fit hu
    exact (HallLine.Cleared.rescored (h := { h with drive := drive }.dropOnLine) hline hq' hnone
      (HallLine.scoreDown_le hscore 1)).tally _
  · obtain ⟨hq', hnone⟩ := HallLine.keepOnLine_fit hu (hattempts e he) e
    obtain ⟨hline', hscore', -⟩ := HallLine.keepOnLine_rest e.attempts e { h with drive := drive }
    obtain ⟨hle, hstate⟩ := hscore
    rw [if_neg hline] at hstate
    exact ⟨hq', HallLine.scoreOk_of_line hscore' (hline'.trans hstate) hle, hnone⟩
  · split
    · exact HallLine.detach_cleared ‹_›
    · unfold HallLine.failAttempt
      split
      · obtain ⟨hq', hnone⟩ := HallLine.dropOnLine_fit hu
        exact (HallLine.Cleared.rescored
          (h := { h with drive := drive }.dropOnLine.tally fun c => { c with givenUp := c.givenUp + 1 }) hline hq' hnone
          (scoreUp_le 8 _)).tally _
      · rename_i hfew
        obtain ⟨hq', hnone⟩ := HallLine.keepOnLine_fit hu (Nat.lt_of_not_le hfew) e
        obtain ⟨hline', -⟩ := HallLine.keepOnLine_rest (e.attempts + 1) e { h with drive := drive }
        exact (HallLine.Cleared.rescored (by rwa [hline']) hq' hnone (scoreUp_le 8 _)).tally _

theorem HallLine.failAttempt_watch (e : SendEntry) (h : HallLine) : (h.failAttempt e).watch = h.watch := by
  unfold HallLine.failAttempt
  rw [HallLine.tally_watch, HallLine.rescore_watch]
  split
  · rfl
  · exact (HallLine.keepOnLine_rest _ e h).2.2.1

theorem HallLine.endAttempt_watch (e : SendEntry) (result : AttemptResult) (h : HallLine) :
    (h.endAttempt e result).watch = h.watch := by
  unfold HallLine.endAttempt
  dsimp only
  repeat' split
  · rw [HallLine.tally_watch, HallLine.rescore_watch]; rfl
  · rw [HallLine.tally_watch, (HallLine.keepOnLine_rest _ e _).2.2.1]
  · rfl
  · rw [HallLine.failAttempt_watch]

end

end Sys2Proof.Machine

end

section
/-! SUPPORT. The hall line along the commands (R167 to R181): which operations only queue telegrams, what the others keep of the
HLC, and what every command keeps. -/

open Sys2Proof

namespace Sys2Proof.Machine

/-! ## Operations that only queue telegrams -/

/-- `t` is `s` to the HLC but for telegrams queued. -/
def State.Sends (s t : State) : Prop := ∃ ts : List Telegram, t.hlc = ts.foldl (fun h t => h.enqueue t) s.hlc

section
variable {s t u : State}

theorem State.Sends.of_eq (h : t.hlc = s.hlc) : s.Sends t := ⟨[], h⟩

theorem State.Sends.refl (s : State) : s.Sends s := .of_eq rfl

theorem State.Sends.trans (h : s.Sends t) (h' : t.Sends u) : s.Sends u := by
  obtain ⟨ts, ht⟩ := h
  obtain ⟨us, hu⟩ := h'
  exact ⟨ts ++ us, by rw [hu, ht, List.foldl_append]⟩

theorem State.Sends.congr (heq : u.hlc = t.hlc) (h : s.Sends t) : s.Sends u := h.trans (.of_eq heq)

/-- What is sent after a state of the same HLC is sent after this one. -/
theorem State.Sends.after (h : u.Sends t) (heq : u.hlc = s.hlc) : s.Sends t := (State.Sends.of_eq heq).trans h

theorem State.Sends.ok (h : s.Sends t) (hok : s.hlc.ok) : t.hlc.ok := by
  obtain ⟨ts, ht⟩ := h
  exact ht ▸ HallLine.foldl_enqueue_ok hok ts

theorem State.Sends.ite {p : Prop} [Decidable p] (h : p → s.Sends t) : s.Sends (if p then t else s) := by
  split
  · exact h ‹_›
  · exact .refl s

theorem State.Sends.foldl {α : Type} {f : State → α → State} (h : ∀ (u : State) a, u.Sends (f u a)) (l : List α)
    (s : State) : s.Sends (l.foldl f s) := by
  induction l generalizing s with
  | nil => exact .refl s
  | cons a l ih => exact (h s a).trans (ih _)

theorem State.Sends.standbyTest (h : s.Sends t) : s.Sends t.standbyTest := .congr t.standbyTest_hlc h

variable (s : State)

/-! ### Shared operations -/

theorem State.Sends.send (d : Nat) (b : Body) : s.Sends (s.send d b) := ⟨[⟨d, b⟩], rfl⟩

@[simp] theorem State.endRecord_hlc (n : Count) : (s.endRecord n).hlc = s.hlc := by
  unfold State.endRecord; split <;> rfl

@[simp] theorem State.dropArmed_hlc (k : OutletNo) : (s.dropArmed k).hlc = s.hlc :=
  (foldl_keeps (g := State.hlc) (fun u (c : Commitment) => State.onSt_hlc u (SectionTracker.notice c.record _)) _ _).trans rfl

theorem State.Sends.queueHello : s.Sends s.queueHello := .send s 0 _

theorem State.Sends.reportLost (r : LossReport) : s.Sends (s.reportLost r) :=
  ⟨[⟨0, .lost r⟩], by rw [State.reportLost_eq]; rfl⟩

theorem State.Sends.reportMisplaced (r : MisplacedReport) : s.Sends (s.reportMisplaced r) :=
  ⟨[⟨0, .misplaced r⟩], by rw [State.reportMisplaced_eq]; rfl⟩

theorem State.Sends.summarise (k : OutletNo) (first : Bool) : s.Sends (s.summarise k first) := by
  rw [State.summarise_eq]
  split
  · exact .refl s
  · dsimp only
    split
    · exact ⟨[_], rfl⟩
    · exact .refl s

theorem State.Sends.rederive (k : OutletNo) (first : Bool) : s.Sends (s.rederive k first) := by
  unfold State.rederive
  dsimp only
  refine .after (.summarise _ _ _) ?_
  repeat' split
  · rfl
  · exact State.dropArmed_hlc ..
  · rfl

theorem State.Sends.rederiveDecks (ds : List Nat) : s.Sends (s.rederiveDecks ds) := by
  refine .foldl (fun u k => ?_) _ s
  repeat' split
  · exact .rederive u k false
  · exact .refl u
  · exact .refl u

theorem State.Sends.clearClosedDecks : s.Sends s.clearClosedDecks := .after (.rederiveDecks _ _) rfl

theorem State.Sends.queueOutletStates : s.Sends s.queueOutletStates := by
  rw [State.queueOutletStates_eq]
  exact ⟨s.outletRound, rfl⟩

theorem State.Sends.wakeUp : s.Sends s.wakeUp := by
  rw [State.wakeUp_eq]
  exact .ite fun _ => ⟨s.helloIn .sorting :: s.outletRound, rfl⟩

theorem State.Sends.wakeIfAddressed (rx : Rx) : s.Sends (s.wakeIfAddressed rx) := by
  unfold State.wakeIfAddressed
  split
  · exact .refl s
  · exact .wakeUp s

/-! ### The Section Tracker and the reader port -/

theorem State.Sends.inductionBlocked : s.Sends s.inductionBlocked := by
  unfold State.inductionBlocked
  dsimp only
  split <;> exact .wakeUp s

@[simp] theorem State.takeClosePoint_hlc (n : Count) : (s.takeClosePoint n).hlc = s.hlc := by
  unfold State.takeClosePoint; repeat' split
  all_goals rfl

theorem State.Sends.bindAtTrailing (n : Count) (length : Nat) : s.Sends (s.bindAtTrailing n length) := by
  unfold State.bindAtTrailing
  repeat' split
  · exact .refl s
  · exact .of_eq rfl
  · exact .refl s
  · exact .refl s
  · exact .congr (State.onSt_hlc _ _) (.after (.reportLost _ _) rfl)
  · exact .refl s

theorem State.Sends.bindIfAwaiting (n : Count) (length : Nat) : s.Sends (s.bindIfAwaiting n length) := by
  unfold State.bindIfAwaiting
  repeat' split
  · exact .bindAtTrailing s n length
  · exact .refl s
  · exact .refl s

theorem State.Sends.trailingEdge (n leading : Count) : s.Sends (s.trailingEdge n leading) := by
  unfold State.trailingEdge State.registerClosePoint
  dsimp only
  repeat' split
  · exact .of_eq (by simp [State.withdraw])
  · exact .after (.bindIfAwaiting _ _ _) (by simp)
  · exact .after (.bindIfAwaiting _ _ _) (by simp)

theorem State.Sends.inductionCleared : s.Sends s.inductionCleared := by
  unfold State.inductionCleared
  dsimp only
  repeat' split
  · exact .of_eq rfl
  · exact .of_eq rfl
  · exact .of_eq rfl
  · exact .after (.trailingEdge _ _ _) rfl

theorem State.Sends.handoffBlocked : s.Sends s.handoffBlocked := by
  unfold State.handoffBlocked State.handOff
  repeat' split
  · refine .standbyTest (.congr (State.endRecord_hlc _ _) ?_)
    exact .after (.send _ _ _) rfl
  · exact .of_eq rfl
  · exact .of_eq rfl

@[simp] theorem State.takeSpanPoint_hlc (n : Count) : (s.takeSpanPoint n).hlc = s.hlc := by
  unfold State.takeSpanPoint; repeat' split
  all_goals rfl

theorem State.Sends.takeWindowEnd (n : Count) : s.Sends (s.takeWindowEnd n) := by
  unfold State.takeWindowEnd
  repeat' split
  · exact .standbyTest (.congr (State.endRecord_hlc _ _) (.after (.reportLost _ _) rfl))
  · exact .refl s
  · exact .refl s

theorem State.Sends.takeExpiry (node : Nat) (bag : Count) : s.Sends (s.takeExpiry node bag) := by
  unfold State.takeExpiry
  repeat' split
  · exact .standbyTest (.after (.reportLost _ _) rfl)
  · exact .refl s
  · exact .refl s

@[simp] theorem State.judgeReport_hlc (cs : List Byte) : (s.judgeReport cs).hlc = s.hlc := by
  unfold State.judgeReport State.bindRead; dsimp only; repeat' split
  all_goals rfl

@[simp] theorem State.assemble_hlc (b : Byte) : (s.assemble b).hlc = s.hlc := by
  unfold State.assemble; repeat' split
  all_goals simp

@[simp] theorem State.takeCharacter_hlc (e : LineEvent) : (State.takeCharacter e s).hlc = s.hlc := by
  unfold State.takeCharacter State.receiveCharacter; repeat' split
  all_goals simp

@[simp] theorem State.takeBreak_hlc : s.takeBreak.hlc = s.hlc := by
  unfold State.takeBreak State.bindBreak; repeat' split
  all_goals rfl

@[simp] theorem State.takeRate_hlc (e : RateEvent) : (State.takeRate e s).hlc = s.hlc := by
  cases e <;> rfl

/-! ### The Divert Controller and the Outlet Monitor -/

theorem State.Sends.reportMiss (k : OutletNo) : s.Sends (s.reportMiss k) := by
  unfold State.reportMiss
  dsimp only
  split
  · exact .after (.rederive _ _ _) rfl
  · exact .of_eq rfl

theorem State.Sends.takeDeadline (n : Count) : s.Sends (s.takeDeadline n) := by
  unfold State.takeDeadline State.missPush
  repeat' split
  · exact .standbyTest (.after (.reportMiss _ _) rfl)
  · exact .refl s
  · exact .refl s

theorem State.Sends.takeFirePoint (n : Count) : s.Sends (s.takeFirePoint n) := by
  unfold State.takeFirePoint State.firePusher State.dropBusy
  repeat' split
  · exact .after (.takeDeadline _ _) rfl
  · exact .of_eq (State.standbyTest_hlc _)
  · exact .refl s
  · exact .refl s

theorem State.Sends.evaluate (k : OutletNo) (r : BagRecord) : s.Sends (s.evaluate k r) := by
  unfold State.evaluate
  cases decideRoute s k r with
  | pass => exact .of_eq rfl
  | passNoLength => exact .of_eq rfl
  | markStray reason => exact .of_eq rfl
  | deferBag => exact .of_eq rfl
  | commitStray => exact .after (.takeFirePoint _ _) rfl
  | commitDeck tag cabin deck => exact .after (.takeFirePoint _ _) rfl

theorem State.Sends.takeArmPoint (n : Count) (k : OutletNo) : s.Sends (s.takeArmPoint n k) := by
  unfold State.takeArmPoint
  dsimp only
  repeat' split
  · exact .of_eq rfl
  · exact .after (.evaluate _ _ _) rfl
  · exact .of_eq rfl
  · exact .refl s
  · exact .refl s

theorem State.Sends.logStray (tags : List Nat) (reason : Option StrayReason) (lap : Nat) (length : Option Nat) :
    s.Sends (s.logStray tags reason lap length) := by
  unfold State.logStray
  split
  · exact .of_eq rfl
  · exact .after (.send _ _ _) rfl

theorem State.Sends.exitBlocked (k : OutletNo) : s.Sends (s.exitBlocked k) := by
  unfold State.exitBlocked
  split
  · rename_i r c _
    refine .standbyTest (.after (u := s.deliverPush k r) ?_ (State.endRecord_hlc _ _))
    cases c.kind with
    | deck tag cabin deck => exact .after (.send _ _ _) rfl
    | stray => exact .after (.logStray _ _ _ _ _) rfl
  · exact .of_eq rfl

theorem State.Sends.takePoint (p : Point) : s.Sends (s.takePoint p) := by
  cases p with
  | span n => exact .of_eq (s.takeSpanPoint_hlc n)
  | windowEnd n => exact .takeWindowEnd s n
  | expiry node bag => exact .takeExpiry s node bag
  | close n => exact .of_eq (s.takeClosePoint_hlc n)
  | arm n k => exact .takeArmPoint s n k
  | fire n => exact .takeFirePoint s n
  | deadline n => exact .takeDeadline s n

theorem State.Sends.takeRestore (rx : Rx) (n : Nat) : s.Sends (s.takeRestore rx n) := by
  unfold State.takeRestore
  split
  · exact .of_eq rfl
  · exact .after (.rederive _ _ _) rfl

theorem State.Sends.takeDeckClose (d : Nat) : s.Sends (s.takeDeckClose d) := by
  unfold State.takeDeckClose
  split
  · exact .after (.rederiveDecks _ _) rfl
  · exact .of_eq rfl

theorem State.Sends.takeDeckOpen (d : Nat) : s.Sends (s.takeDeckOpen d) := by
  unfold State.takeDeckOpen
  split
  · exact .after (.rederiveDecks _ _) rfl
  · exact .of_eq rfl

/-! ### The Manifest Store and the Stray Unit -/

theorem State.Sends.commitStores (x : StoreChange) : s.Sends (s.commitStores x) := .after (.foldl .reportMisplaced _ _) rfl

@[simp] theorem State.applyDeckMap_hlc (f : DeckMapFields) : (s.applyDeckMap f).hlc = s.hlc := by
  unfold State.applyDeckMap; repeat' split
  all_goals rfl

theorem State.Sends.applyHeld (t : HeldTelegram) : s.Sends (s.applyHeld t) := by
  cases t with
  | manifest f => exact .commitStores s _
  | withdraw tag => exact .commitStores s _
  | deckMap f => exact .of_eq (s.applyDeckMap_hlc f)

theorem State.Sends.takeManifestTelegram (t : HeldTelegram) : s.Sends (s.takeManifestTelegram t) := by
  unfold State.takeManifestTelegram
  split
  · exact .of_eq rfl
  · exact .applyHeld s t

theorem State.Sends.examineNext (last : Nat) : s.Sends (s.examineNext last) := by
  unfold State.examineNext
  split
  · exact .of_eq rfl
  · exact .congr (State.onMs_hlc _ _) (.commitStores s _)

theorem State.Sends.completePurge : s.Sends s.completePurge := .after (.foldl .applyHeld _ _) rfl

@[simp] theorem State.clearLog_hlc : s.clearLog.hlc = s.hlc := by
  unfold State.clearLog; split <;> rfl

theorem State.Sends.takePurge : s.Sends s.takePurge :=
  .congr (State.markMap_hlc _) (.after (.clearClosedDecks _) (State.clearLog_hlc _))

@[simp] theorem State.takeLost_hlc (r : LossReport) : (s.takeLost r).hlc = s.hlc := by
  unfold State.takeLost; repeat' split
  all_goals rfl

@[simp] theorem State.takeMisplaced_hlc (n : Nat) (r : ReceivedMisplaced) : (s.takeMisplaced n r).hlc = s.hlc := by
  unfold State.takeMisplaced; repeat' split
  all_goals rfl

theorem State.Sends.takeCall (caller : Nat) (sequence : Count) (tags : List Nat) : s.Sends (s.takeCall caller sequence tags) := by
  unfold State.takeCall
  split
  · exact .of_eq rfl
  · refine .after (.foldl (fun u tag => ?_) _ _) rfl
    unfold State.answerCall
    split
    · exact .send u _ _
    · exact .refl u

@[simp] theorem State.takeClaim_hlc (rx : Rx) (sequence : Count) (f : ClaimFields) : (s.takeClaim rx sequence f).hlc = s.hlc := by
  unfold State.takeClaim; dsimp only; split <;> rfl

/-! ### Node Control and the queries -/

theorem State.Sends.takeStandby : s.Sends s.takeStandby := by
  unfold State.takeStandby
  split
  · exact .of_eq (State.standbyTest_hlc _)
  · exact .of_eq rfl

theorem State.Sends.takeWake : s.Sends s.takeWake := by
  unfold State.takeWake
  split
  · exact .of_eq rfl
  · exact .wakeUp s
  · exact .of_eq rfl

theorem State.Sends.takeQuery (rx : Rx) (kind : Byte) (build : State → Answer) : s.Sends (s.takeQuery rx kind build) := by
  unfold State.takeQuery
  split
  · exact .of_eq rfl
  · exact .trans (.wakeUp s) (.after (.send _ _ _) rfl)

theorem State.Sends.takeLogQuery (rx : Rx) (cursor part : Nat) : s.Sends (s.takeLogQuery rx cursor part) := by
  unfold State.takeLogQuery
  dsimp only
  split <;> exact .takeQuery s rx _ _

theorem State.Sends.takeMapQuery (rx : Rx) (cursor : Nat) : s.Sends (s.takeMapQuery rx cursor) := by
  unfold State.takeMapQuery
  dsimp only
  split <;> exact .takeQuery s rx _ _

/-- R195: the blocks' part of a RESET, but for the HLC's own, and the node's joining anew. -/
theorem State.resetBlocks_hlc : s.resetBlocks.hlc = s.hlc.clearAtReset := by
  have habandon : s.abandon.hlc = s.hlc := (foldl_keeps (g := State.hlc) (fun u _ => State.endRecord_hlc u _) _ _).trans rfl
  exact congrArg HallLine.clearAtReset habandon

theorem State.Sends.enterJoining : s.Sends s.enterJoining := ⟨[s.helloIn .joining], rfl⟩

theorem State.Sends.rejoinHall : s.Sends s.rejoinHall :=
  .trans (.after (.enterJoining _) (State.onNc_hlc s _)) (.queueOutletStates _)

end

/-! ## The HLC's own rules -/

section
variable {s : State}

/-- An HLC with no telegram and its score at 0. -/
theorem HallLine.ok_of_fresh {h : HallLine} (hqueue : h.queue = []) (hscore : h.score = 0) (hline : h.line = .active)
    (hw : h.watch.ok) (hnot : ¬ ∃ read left, h.watch = .attempting read left) : h.ok := by
  refine HallLine.Cleared.ok ⟨?_, HallLine.scoreOk_of_line hscore hline (by decide), ?_⟩ hw hnot
  · rw [HallLine.queueOk_iff, hqueue]
    exact ⟨Nat.zero_le _, List.Pairwise.nil, List.forall_mem_nil _, Nat.zero_le _⟩
  · rw [hqueue]
    exact List.forall_mem_nil _

/-- R185: a RESET ends an attempt. -/
theorem LineWatch.withoutAttempt_ok {w : LineWatch} (hw : w.ok) :
    w.withoutAttempt.ok ∧ ¬ ∃ read left, w.withoutAttempt = .attempting read left := by
  cases w with
  | between idle run => exact ⟨hw, by simp [LineWatch.withoutAttempt]⟩
  | receiving bytes bits => exact ⟨hw, by simp [LineWatch.withoutAttempt]⟩
  | attempting read left => exact ⟨lineAfter_ok _, by simp [LineWatch.withoutAttempt, lineAfter]⟩

theorem State.takeReset_ok (hok : s.hlc.ok) : s.takeReset.hlc.ok := by
  obtain ⟨-, -, hwatch, -⟩ := s.hlc.ok_iff.mp hok
  obtain ⟨hw, hnot⟩ := LineWatch.withoutAttempt_ok hwatch
  have hcleared : s.resetBlocks.hlc.ok := by
    rw [State.resetBlocks_hlc]
    exact HallLine.ok_of_fresh rfl rfl rfl hw hnot
  have hjoined := (State.Sends.rejoinHall s.resetBlocks).ok hcleared
  unfold State.takeReset
  dsimp only
  split <;> exact hjoined

theorem HallEvent.isEnd_iff {x : HallEvent} : x.isEnd = true ↔ ∃ result, x = .ended result := by
  cases x <;> simp [HallEvent.isEnd]

/-- R175: the end of the attempt takes its entry off the line. -/
theorem State.endAttempt_ok (hok : s.hlc.ok) {line : List Bool} {w : LineWatch} {x : HallEvent}
    (h : s.hearHall HallEvent.isEnd line = some (w, some x)) : (State.endAttempt x (State.putWatch w s)).hlc.ok := by
  obtain ⟨hq, hscore, hwatch, hiff⟩ := s.hlc.ok_iff.mp hok
  have hend := State.hearHall_row h
  obtain ⟨result, rfl⟩ := HallEvent.isEnd_iff.mp hend
  obtain ⟨hw, hgoes, hwas⟩ := State.hearHall_attempting hwatch h
  obtain ⟨e, he, hon⟩ := hiff.mp (hwas result rfl)
  obtain ⟨entry, hentry⟩ := Option.isSome_iff_exists.mp (List.find?_isSome.mpr ⟨e, he, hon⟩)
  have hover : ¬ ∃ read left, w = .attempting read left := fun hgoing => (hgoes.mp hgoing).2 result rfl
  have hcleared : (HallLine.endAttempt entry result { s.hlc with watch := w }).Cleared :=
    HallLine.endAttempt_cleared (h := { s.hlc with watch := w }) hq hscore (List.mem_of_find?_eq_some hentry) result
  have hend : State.endAttempt (.ended result) (State.putWatch w s) =
      ((State.putWatch w s).onHlc (HallLine.endAttempt entry result)).standbyTest := by
    simp only [State.endAttempt, State.putWatch, State.onHlc_hlc, hentry]
  rw [hend, State.standbyTest_hlc]
  refine hcleared.ok ?_ ?_
  · rw [HallLine.endAttempt_watch]
    exact hw
  · rw [HallLine.endAttempt_watch]
    exact hover

/-- R180, R181: an idle gap. -/
theorem State.takeIdleGap_ok (hok : s.hlc.ok) : s.takeIdleGap.hlc.ok := by
  obtain ⟨-, ⟨hle, hline⟩, hwatch, hiff⟩ := s.hlc.ok_iff.mp hok
  unfold State.takeIdleGap
  repeat' split
  · rename_i hdetaches
    simp only [HallLine.detaches, Bool.and_eq_true, Bool.not_eq_true', beq_iff_eq] at hdetaches
    obtain ⟨⟨⟨-, hscore⟩, -⟩, hnone⟩ := hdetaches
    have hcleared : ({ s.hlc with drive := .quiet } : HallLine).detach.Cleared := HallLine.detach_cleared hscore
    have hnot : ¬ ∃ read left, s.hlc.watch = .attempting read left := fun hgoing => by
      obtain ⟨e, he, hon⟩ := hiff.mp hgoing
      rw [HallLine.not_attempting_iff.mp hnone e he] at hon
      cases hon
    unfold State.detach
    rw [State.standbyTest_hlc]
    exact hcleared.ok hwatch hnot
  · rename_i hrejoins
    simp only [HallLine.rejoinsNext, Bool.and_eq_true, beq_iff_eq] at hrejoins
    obtain ⟨hdetached, -⟩ := hrejoins
    rw [if_pos hdetached] at hline
    obtain ⟨-, hempty, -⟩ := hline
    have hnot : ¬ ∃ read left, s.hlc.watch = .attempting read left := fun hgoing => by
      obtain ⟨e, he, -⟩ := hiff.mp hgoing
      rw [hempty] at he
      cases he
    have hrejoined : s.hlc.rejoin.ok := HallLine.ok_of_fresh hempty rfl rfl hwatch hnot
    have hhello := (State.Sends.queueHello (s.onHlc HallLine.rejoin)).ok hrejoined
    unfold State.rejoin
    dsimp only
    split
    · exact (State.Sends.queueOutletStates _).ok hhello
    · exact hhello
  · rename_i hnext hdetached
    obtain ⟨hq, -, hwatchOk⟩ := s.hlc.ok_iff.mp hok
    rw [if_pos hdetached] at hline
    obtain ⟨hfull, hempty, -⟩ := hline
    have hfew : s.hlc.idleGaps + 1 < Config.rejoinGaps := by
      simpa [HallLine.rejoinsNext, hdetached] using hnext
    refine (HallLine.ok_iff _).mpr ⟨hq, ⟨hle, ?_⟩, hwatchOk⟩
    exact (if_pos hdetached).mpr ⟨hfull, hempty, hfew⟩
  · exact hok
  · exact hok

theorem State.takeDiscarded_ok (hok : s.hlc.ok) (cls : Byte) (rx : Rx) (p : List Byte) : (s.takeDiscarded cls rx p).hlc.ok := by
  unfold State.takeDiscarded
  repeat' split
  · exact hok
  · exact State.takeInFault_ok hok rx
  · exact hok
  · exact State.discard_ok (State.takeTelegram_ok hok rx) _

/-! ## The commands -/

/-- The outcome of a command that keeps the hall line in order. -/
def outcomeKeepsLine (s : State) (o : Host.Outcome State Fault Refusal) : Prop := ∃ t, o = .next t ∧ (s.hlc.ok → t.hlc.ok)

theorem keepsLine_sends {t : State} (h : s.Sends t) : outcomeKeepsLine s (.next t) := ⟨t, rfl, h.ok⟩

theorem keepsLine_ite {t : State} {p : Prop} [Decidable p] (h : p → s.Sends t) :
    outcomeKeepsLine s (.next (if p then t else s)) := keepsLine_sends (.ite h)

/-- The samples of another block's command, and the effect of their event. -/
theorem keepsLine_sampled {σ ε : Type} {r : Option (σ × Option ε)} {store : σ → State → State} {act : ε → State → State}
    {p : Prop} [Decidable p] (hstore : ∀ f, (store f s).hlc = s.hlc) (hact : ∀ e (u : State), u.Sends (act e u)) :
    outcomeKeepsLine s (.next (if p then s.heard r store act else s)) := by
  refine keepsLine_ite fun _ => ?_
  rcases s.heard_cases r store act with ⟨-, he⟩ | ⟨f, -, he⟩ | ⟨f, e, -, he⟩ <;> rw [he]
  · exact .refl s
  · exact .of_eq (hstore f)
  · exact .after (hact e _) (hstore f)

/-- The bits of a command of the hall line whose own event ends no attempt. -/
theorem keepsLine_heard {row : HallEvent → Bool} {line : List Bool} {act : HallEvent → State → State} {p : Prop}
    [Decidable p] (hrow : ∀ r, row (.ended r) = false) (hact : ∀ e (u : State), u.hlc.ok → (act e u).hlc.ok) :
    outcomeKeepsLine s (.next (if p then s.heard (s.hearHall row line) State.putWatch act else s)) := by
  refine ⟨_, rfl, fun hok => ?_⟩
  split
  · rcases s.heard_cases (s.hearHall row line) State.putWatch act with ⟨-, he⟩ | ⟨w, hw, he⟩ | ⟨w, e, hw, he⟩ <;> rw [he]
    · exact hok
    · exact State.putWatch_ok hok hw (by simp)
    · refine hact e _ (State.putWatch_ok hok hw fun r hr => ?_)
      cases hr
      exact Bool.false_ne_true ((hrow r).symm.trans (State.hearHall_row hw))
  · exact hok

/-- R182, R183: a telegram is taken, and given to its owner or counted. -/
theorem State.receive_lineOk {owner : State → State} (h : ∀ u : State, u.hlc.ok → (owner u).hlc.ok) (hok : s.hlc.ok)
    (cls : Byte) (rx : Rx) (p : List Byte) : (s.receive cls rx p owner).hlc.ok := by
  unfold State.receive
  split
  · exact hok
  · exact State.takeInFault_ok hok rx
  · split
    · exact h _ (State.takeTelegram_ok hok rx)
    · exact State.discard_ok (State.takeTelegram_ok hok rx) _

theorem keepsLine_receive {owner : State → State} {cls : Byte} {rx : Rx} {p : List Byte}
    (h : ∀ u : State, u.Sends (owner u)) : outcomeKeepsLine s (.next (s.receive cls rx p owner)) :=
  ⟨_, rfl, fun hok => State.receive_lineOk (fun u => (h u).ok) hok cls rx p⟩

/-- R175: at the end of an idle gap, or on an idle line, an attempt starts. -/
theorem keepsLine_attemptStart (s : State) (line : List Bool) : outcomeKeepsLine s (execAttemptStart s line) := by
  refine ⟨_, rfl, fun hok => ?_⟩
  repeat' split
  · exact hok
  · rename_i w e hw
    refine State.startAttempt_ok (State.putWatch_ok hok hw fun r hr => ?_)
    subst hr
    have hrow := State.hearHall_row hw
    exact Bool.false_ne_true hrow
  · exact hok

/-- R175: the bits up to the end of an attempt. -/
theorem keepsLine_attemptEnd (s : State) (line : List Bool) : outcomeKeepsLine s (execAttemptEnd line s) := by
  refine ⟨_, rfl, fun hok => ?_⟩
  split
  · rcases s.heard_cases (s.hearHall HallEvent.isEnd line) State.putWatch State.endAttempt with
      ⟨-, he⟩ | ⟨w, hw, he⟩ | ⟨w, e, hw, he⟩ <;> rw [he]
    · exact hok
    · exact State.putWatch_ok hok hw (by simp)
    · exact State.endAttempt_ok hok hw
  · exact hok

/-- R184, R188: the HLC starts anew, or is left as it is. -/
theorem keepsLine_startComplete (s : State) (straps : BitVec 6) (image : List Byte) :
    outcomeKeepsLine s (exec (.startComplete straps image) s) := by
  refine ⟨_, rfl, fun hok => ?_⟩
  repeat' split
  · exact hok
  · have hstarted : s.hlc.start.ok := HallLine.ok_of_fresh rfl rfl rfl (show (0 : Nat) < 12 by decide) (by simp [HallLine.start])
    exact HallLine.enqueue_ok hstarted _
  · exact hok

theorem exec_keepsLine (c : Instr) (s : State) : outcomeKeepsLine s (exec c s) := by
  cases c with
  | powerOn =>
    refine keepsLine_sends ?_
    split
    · exact .refl s
    · exact .of_eq (by unfold State.finishPendingPurge; split <;> rfl)
  | startComplete straps image => exact keepsLine_startComplete s straps image
  | powerLoss =>
    refine ⟨_, rfl, fun hok => ?_⟩
    split
    · exact ⟨HallLine.atPowerOn_queueOk, HallLine.atPowerOn_lineOk⟩
    · exact hok
  | retentionLow =>
    refine keepsLine_sends ?_
    split <;> exact .of_eq rfl
  | encoderPulse => exact keepsLine_ite fun _ => .after (.foldl .takePoint _ _) rfl
  | speedWindowEnd => exact keepsLine_ite fun _ => .of_eq rfl
  | inductionBlockedEdge samples => exact keepsLine_sampled (fun _ => rfl) fun _ => .inductionBlocked
  | inductionClearedEdge samples => exact keepsLine_sampled (fun _ => rfl) fun _ => .inductionCleared
  | handoffEyeBlockedEdge samples => exact keepsLine_sampled (fun _ => rfl) fun _ => .handoffBlocked
  | exitEyeBlockedEdge k samples => exact keepsLine_sampled (fun _ => rfl) fun _ u => .exitBlocked u k
  | actuatorFaultChange k samples => exact keepsLine_sampled (fun _ => rfl) fun _ _ => .after (.rederive _ k false) rfl
  | framingError line => exact keepsLine_sampled (fun _ => rfl) fun _ _ => .of_eq rfl
  | readerBreak line => exact keepsLine_sampled (fun _ => rfl) fun _ u => .of_eq u.takeBreak_hlc
  | report line => exact keepsLine_sampled (fun _ => rfl) fun e u => .of_eq (u.takeCharacter_hlc e)
  | characterReceived line => exact keepsLine_sampled (fun _ => rfl) fun e u => .of_eq (u.takeCharacter_hlc e)
  | rateMeasurement line => exact keepsLine_sampled (fun _ => rfl) fun e u => .of_eq (u.takeRate_hlc e)
  | rateOverflow line => exact keepsLine_sampled (fun _ => rfl) fun e u => .of_eq (u.takeRate_hlc e)
  | spanPoint n => exact keepsLine_ite fun _ => .of_eq (s.takeSpanPoint_hlc n)
  | windowEndPoint n => exact keepsLine_ite fun _ => .takeWindowEnd s n
  | expiryPoint node bag => exact keepsLine_ite fun _ => .takeExpiry s node bag
  | closePoint n => exact keepsLine_ite fun _ => .of_eq (s.takeClosePoint_hlc n)
  | armPoint n k => exact keepsLine_ite fun _ => .takeArmPoint s n k
  | firePoint n => exact keepsLine_ite fun _ => .takeFirePoint s n
  | deadlinePoint n => exact keepsLine_ite fun _ => .takeDeadline s n
  | strokeTimerExpiry k => exact keepsLine_ite fun _ => .of_eq (State.standbyTest_hlc _)
  | gaugeConversionEnd codes =>
    refine keepsLine_sends ?_
    split
    · exact .ite fun _ => .after (.rederive _ _ _) rfl
    · exact .refl s
  | gaugePassStart => exact keepsLine_ite fun _ => .of_eq rfl
  | refreshTimerExpiry => exact keepsLine_ite fun _ => .queueOutletStates s
  | viewExpiry peer deck time => exact keepsLine_ite fun _ => .of_eq rfl
  | claimWindowEnd sequence => exact keepsLine_ite fun _ => .of_eq (by dsimp only; split <;> rfl)
  | joinTimerExpiry => exact keepsLine_ite fun _ => .of_eq rfl
  | sweepExamination =>
    refine keepsLine_sends ?_
    split
    · exact .ite fun _ => .examineNext s _
    · exact .refl s
  | purgeComplete => exact keepsLine_ite fun _ => .completePurge s
  | attemptStart line => exact keepsLine_attemptStart s line
  | attemptEnd line => exact keepsLine_attemptEnd s line
  | receiveError line => exact keepsLine_heard (fun _ => rfl) fun _ _ => State.takeFault_ok
  | detachment line => exact keepsLine_heard (fun _ => rfl) fun _ _ => State.takeIdleGap_ok
  | rejoin line => exact keepsLine_heard (fun _ => rfl) fun _ _ => State.takeIdleGap_ok
  | idleGap line => exact keepsLine_heard (fun _ => rfl) fun _ _ => State.takeIdleGap_ok
  | telegramDiscarded cls rx p => exact ⟨_, rfl, fun hok => State.takeDiscarded_ok hok cls rx p⟩
  | handoff rx p => exact keepsLine_receive fun u => .wakeIfAddressed u rx
  | manifest rx p => exact keepsLine_receive fun u => .takeManifestTelegram u _
  | manifestWithdraw rx p => exact keepsLine_receive fun u => .takeManifestTelegram u _
  | deckMap rx p => exact keepsLine_receive fun u => .takeManifestTelegram u _
  | delivered rx p => exact keepsLine_receive fun _ => .of_eq rfl
  | purge rx p => exact keepsLine_receive .takePurge
  | outletState rx p => exact keepsLine_receive fun _ => .of_eq rfl
  | deckClose rx p => exact keepsLine_receive fun u => .takeDeckClose u _
  | deckOpen rx p => exact keepsLine_receive fun u => .takeDeckOpen u _
  | outletRestore rx p => exact keepsLine_receive fun u => .trans (.wakeIfAddressed u rx) (.takeRestore _ rx _)
  | strayCall rx p => exact keepsLine_receive fun u => .takeCall u _ _ _
  | claim rx p => exact keepsLine_receive fun u => .congr (State.takeClaim_hlc ..) (.wakeIfAddressed u rx)
  | lost rx p => exact keepsLine_receive fun u => .of_eq (u.takeLost_hlc _)
  | misplaced rx p => exact keepsLine_receive fun u => .of_eq (u.takeMisplaced_hlc _ _)
  | reset rx p => exact ⟨_, rfl, fun hok => State.receive_lineOk (fun _ => State.takeReset_ok) hok _ rx p⟩
  | standby rx p => exact keepsLine_receive .takeStandby
  | wake rx p => exact keepsLine_receive .takeWake
  | hello rx p => exact keepsLine_receive fun _ => .of_eq rfl
  | identity rx a => exact keepsLine_receive fun u => .takeQuery u ..
  | outlet rx a => exact keepsLine_receive fun u => .takeQuery u ..
  | tag rx a => exact keepsLine_receive fun u => .takeQuery u ..
  | cabin rx a => exact keepsLine_receive fun u => .takeQuery u ..
  | counters rx a => exact keepsLine_receive fun u => .takeQuery u ..
  | strayLog rx a => exact keepsLine_receive fun u => .takeLogQuery u ..
  | map rx a => exact keepsLine_receive fun u => .takeMapQuery u ..
  | queryKindUnknown rx kind a =>
    refine ⟨_, rfl, fun hok => ?_⟩
    unfold State.takeUnknownKind
    split
    · exact hok
    · exact State.receive_lineOk (fun u => (State.Sends.takeQuery u ..).ok) hok _ _ _

end

end Sys2Proof.Machine

open Sys2Proof.Machine

/-- Settles O18: what other blocks do to the HLC is to queue telegrams, each of which finds its place; an attempt starts with the
first entry and ends with none on the line; and bits leave an attempt in progress until they end it. -/
theorem hallLineKept : Obligations.HallLineKept := by
  unfold Obligations.HallLineKept
  exact fun s t hqueue hline hstep =>
    step_of_exec (P := fun s t => s.hlc.ok → t.hlc.ok) (fun _ => id)
      (fun c cs s => exec_keepsLine c { s with pending := cs }) hstep ⟨hqueue, hline⟩

end

section
/-! SUPPORT. The bits of an attempt (R167, R169, R170, R172, R175): what the node reads of its own telegram, where a start is due,
and what the end of an attempt leaves in the send queue. -/

open Sys2Proof

namespace Sys2Proof.Machine

/-! ## Bits one after another -/

section
variable {tells row : HallEvent → Bool}

/-- R169: the recessive bits up to the end of an idle gap. -/
theorem hear_idleGap {idle : Bool} {run : Nat} (h : run < 12) :
    hear LineWatch.sample tells row (List.replicate (12 - run) false) (.between idle run) =
      if tells .idleGap then (if row .idleGap then some (.between true 0, some .idleGap) else none)
      else some (.between true 0, none) := by
  obtain ⟨m, hm⟩ : ∃ m, 12 - run = m + 1 := ⟨11 - run, by omega⟩
  induction m generalizing run with
  | zero =>
    obtain rfl : run = 11 := by omega
    simp [hear, LineWatch.sample, betweenBit, Config.gapBits]
  | succ m ih =>
    have hbit : LineWatch.sample false (.between idle run) = (.between idle (run + 1), none) := by
      have hmore : run + 1 < Config.gapBits := show run + 1 < 12 by omega
      simp [LineWatch.sample, betweenBit, hmore]
    rw [hm, List.replicate_succ, hear_cons_none hbit, ← ih (run := run + 1) (by omega) (by omega)]
    congr 2
    omega

/-- R169: a line becomes idle at an idle gap alone. -/
theorem LineWatch.sample_idle {w : LineWatch} (hidle : w.idle = false) {b : Bool} (h : (w.sample b).1.idle = true) :
    (w.sample b).2 = some .idleGap := by
  revert h
  match w with
  | .between idle run =>
    obtain rfl : idle = false := hidle
    simp only [LineWatch.sample, betweenBit]
    repeat' split
    all_goals simp [LineWatch.idle]
  | .receiving bytes bits =>
    simp only [LineWatch.sample, slotBit, byteBit, byteEnd, faultAt, lineAfter]
    repeat' split
    all_goals simp [LineWatch.idle]
  | .attempting read [] => simp [LineWatch.sample, LineWatch.idle]
  | .attempting read (x :: rest) =>
    simp only [LineWatch.sample, attemptBit, slotEnd, receiveFrom, lineAfter]
    repeat' split
    all_goals simp [LineWatch.idle]

/-- R169: where idle gaps are events, bits without one do not make the line idle. -/
theorem hear_idle (htells : tells .idleGap = true) {line : List Bool} {w v : LineWatch} (hidle : w.idle = false)
    (h : hear LineWatch.sample tells row line w = some (v, none)) : v.idle = false := by
  induction line generalizing w with
  | nil =>
    simp only [hear, Option.some.injEq, Prod.mk.injEq, and_true] at h
    rwa [← h]
  | cons b bs ih =>
    have hnext : (w.sample b).2 ≠ some .idleGap → (w.sample b).1.idle = false := fun hne =>
      Bool.eq_false_iff.mpr fun hi => hne (LineWatch.sample_idle hidle hi)
    unfold hear at h
    split at h
    · rename_i hnone
      exact ih (hnext (by simp [hnone])) h
    · rename_i x hx
      split at h
      · split at h <;> simp at h
      · rename_i htold
        refine ih (hnext fun he => htold ?_) h
        rw [hx] at he
        rwa [Option.some.inj he]

/-! ## The node's own bits (R170, R172) -/

/-- R170: the node reads its own bits back. -/
theorem hear_own (bits : List Bool) {rest : List Bool} (hrest : rest ≠ []) (read : List Bool) :
    hear LineWatch.sample tells row bits (.attempting read (bits ++ rest)) = some (.attempting (read ++ bits) rest, none) := by
  induction bits generalizing read with
  | nil => simp [hear]
  | cons b bs ih =>
    have hbit : LineWatch.sample b (.attempting read (b :: bs ++ rest)) = (.attempting (read ++ [b]) (bs ++ rest), none) := by
      simp [LineWatch.sample, attemptBit, hrest]
    rw [hear_cons_none hbit, ih, List.append_assoc]
    rfl

theorem hear_own_take {sent : List Bool} {n : Nat} (h : n < sent.length) :
    hear LineWatch.sample tells row (sent.take n) (.attempting [] sent) =
      some (.attempting (sent.take n) (sent.drop n), none) := by
  have hrest : sent.drop n ≠ [] := by simpa using h
  simpa using hear_own (tells := tells) (row := row) (sent.take n) hrest []

/-- R170: after its own first bits, the node reads what comes from there on. -/
theorem hear_own_append {sent : List Bool} {n : Nat} (h : n < sent.length) (line : List Bool) :
    hear LineWatch.sample tells row (sent.take n ++ line) (.attempting [] sent) =
      hear LineWatch.sample tells row line (.attempting (sent.take n) (sent.drop n)) :=
  hear_append (hear_own_take h)

section
variable {sent : List Bool} {i : Nat} (htells : ∀ r, tells (.ended r) = true) (hrow : ∀ r, row (.ended r) = true)
include htells hrow

/-- R170: a recessive data bit of the key read dominant. -/
theorem hear_lostArbitration (hkey : keyDataBit i = true) (hi : sent[i]? = some false) (hlen : i + 3 < sent.length) :
    hear LineWatch.sample tells row (sent.take i ++ [true]) (.attempting [] sent) =
      some (receiveFrom (sent.take i ++ [true]), some (.ended .lostArbitration)) := by
  have hlt : i < sent.length := by omega
  have hdrop : sent.drop i = false :: sent.drop (i + 1) := by
    rw [List.drop_eq_getElem_cons hlt, (List.getElem?_eq_some_iff.mp hi).2]
  have htake : (sent.take i).length = i := by simp; omega
  have hrest : 3 ≤ sent.length - (i + 1) := by omega
  have hnotEmpty : sent.drop (i + 1) ≠ [] := List.ne_nil_of_length_pos (by rw [List.length_drop]; omega)
  have hle : ¬ 19 ≤ i := fun h => by simp only [keyDataBit, decide_eq_true_eq] at hkey; omega
  rw [hear_own_append hlt, hdrop]
  refine hear_last ?_ (htells _) (hrow _)
  simp [LineWatch.sample, attemptBit, htake, hkey, hle, hnotEmpty, hrest]

/-- R170, R172: a bit after the key read other than sent. -/
theorem hear_bitError {x : Bool} (hkey : 19 ≤ i) (hi : sent[i]? = some x) (hlen : i + 3 < sent.length) :
    hear LineWatch.sample tells row (sent.take i ++ [!x]) (.attempting [] sent) =
      some (lineAfter (sent.take i ++ [!x]), some (.ended .bitError)) := by
  have hlt : i < sent.length := by omega
  have hdrop : sent.drop i = x :: sent.drop (i + 1) := by
    rw [List.drop_eq_getElem_cons hlt, (List.getElem?_eq_some_iff.mp hi).2]
  have htake : (sent.take i).length = i := by simp; omega
  have hrest : 3 ≤ sent.length - (i + 1) := by omega
  have hnotEmpty : sent.drop (i + 1) ≠ [] := List.ne_nil_of_length_pos (by rw [List.length_drop]; omega)
  rw [hear_own_append hlt, hdrop]
  refine hear_last ?_ (htells _) (hrow _)
  simp [LineWatch.sample, attemptBit, htake, hkey, hnotEmpty, hrest]

/-- R172: the confirm slot, in which nothing is compared, ends the attempt. -/
theorem hear_confirmSlot (body : List Bool) (c first second : Bool) :
    hear LineWatch.sample tells row (body ++ [c, first, second]) (.attempting [] (body ++ [false, false, false])) =
      some (lineAfter (body ++ [c, first, second]), some (.ended (.confirmSlot c (first || second)))) := by
  rw [hear_append (hear_own body (by simp) []), List.nil_append]
  rw [hear_cons_none (g := .attempting (body ++ [c]) [false, false]) (by simp [LineWatch.sample, attemptBit]),
    hear_cons_none (g := .attempting (body ++ [c, first]) [false]) (by simp [LineWatch.sample, attemptBit])]
  refine hear_last ?_ (htells _) (hrow _)
  simp [LineWatch.sample, attemptBit, slotEnd]

end

end

/-! ## The lower key wins (R167, R170) -/

/-- R167: at the first data bit in which two bytes differ, the lower one is dominant. -/
theorem frameByte_lower {x y : Byte} (h : x.toNat < y.toNat) :
    ∃ j, 1 ≤ j ∧ j ≤ 8 ∧ (frameByte x).take j = (frameByte y).take j
      ∧ (frameByte x)[j]? = some true ∧ (frameByte y)[j]? = some false := by
  obtain ⟨k, hk, hagree⟩ := Nat.exists_most_significant_bit (n := x.toNat ^^^ y.toNat) (by
    rw [Ne, Nat.xor_eq_zero_iff]; omega)
  simp only [Nat.testBit_xor] at hk hagree
  have hsame : ∀ j, k < j → x.toNat.testBit j = y.toNat.testBit j := fun j hj => by simpa using hagree j hj
  have hx : x.toNat.testBit k = false := by
    by_contra hx
    simp only [Bool.not_eq_false] at hx
    have hy : y.toNat.testBit k = false := by simpa [hx] using hk
    exact absurd (Nat.lt_of_testBit k hy hx fun j hj => (hsame j hj).symm) (by omega)
  have hy : y.toNat.testBit k = true := by simpa [hx] using hk
  have hk8 : k < 8 := by
    by_contra hge
    have hpow : 2 ^ 8 ≤ 2 ^ k := Nat.pow_le_pow_right (by decide) (by omega)
    rw [Nat.testBit_lt_two_pow (by omega)] at hy
    cases hy
  simp only [BitVec.testBit_toNat] at hsame hx hy
  refine ⟨8 - k, by omega, by omega, ?_⟩
  have hbits : ∀ b : Byte, frameByte b = true :: (!b.getLsbD 7) :: (!b.getLsbD 6) :: (!b.getLsbD 5) :: (!b.getLsbD 4)
      :: (!b.getLsbD 3) :: (!b.getLsbD 2) :: (!b.getLsbD 1) :: (!b.getLsbD 0) :: [false] := fun _ => rfl
  rw [hbits x, hbits y]
  interval_cases k <;> simp [-BitVec.getLsbD_eq_getElem, hx, hy, hsame]

/-- R168: no class is less urgent than this. -/
theorem Body.urgency_le (b : Body) : b.urgency ≤ 7 := by
  unfold Body.urgency
  split <;> decide

/-- R170: the key, an urgency and an address, decides at its first differing data bit. -/
theorem Telegram.levels_lower {t v : Telegram} {a b : Nat} (ha : a < 64) (hb : b < 64)
    (h : 64 * t.body.urgency + a < 64 * v.body.urgency + b) :
    ∃ i, keyDataBit i = true ∧ (t.levels a).take i = (v.levels b).take i
      ∧ (t.levels a)[i]? = some true ∧ (v.levels b)[i]? = some false := by
  have hu := t.body.urgency_le
  have hv := v.body.urgency_le
  have hlevels : ∀ (t : Telegram) (a : Nat), ∃ rest, t.levels a =
      frameByte (BitVec.ofNat 8 t.body.urgency) ++ (frameByte (BitVec.ofNat 8 a) ++ rest) := fun t a =>
    ⟨_, by simp only [Telegram.levels, Telegram.bytes, List.flatMap_cons, List.append_assoc]; rfl⟩
  obtain ⟨rest, ht⟩ := hlevels t a
  obtain ⟨rest', hv'⟩ := hlevels v b
  rw [ht, hv']
  have hframe : ∀ b : Byte, (frameByte b).length = 10 := fun _ => rfl
  rcases Nat.lt_or_eq_of_le (show t.body.urgency ≤ v.body.urgency by omega) with hlt | heq
  · obtain ⟨j, h1, h8, htake, hj, hj'⟩ := frameByte_lower (x := BitVec.ofNat 8 t.body.urgency)
      (y := BitVec.ofNat 8 v.body.urgency) (by simp only [BitVec.toNat_ofNat]; omega)
    refine ⟨j, decide_eq_true (Or.inl ⟨h1, h8⟩), ?_, ?_, ?_⟩
    · rw [List.take_append_of_le_length (by rw [hframe]; omega), List.take_append_of_le_length (by rw [hframe]; omega), htake]
    · rw [List.getElem?_append_left (by rw [hframe]; omega), hj]
    · rw [List.getElem?_append_left (by rw [hframe]; omega), hj']
  · obtain ⟨j, h1, h8, htake, hj, hj'⟩ := frameByte_lower (x := BitVec.ofNat 8 a) (y := BitVec.ofNat 8 b)
      (by simp only [BitVec.toNat_ofNat]; omega)
    rw [heq]
    refine ⟨10 + j, decide_eq_true (Or.inr ⟨by omega, by omega⟩), ?_, ?_, ?_⟩
    · rw [← hframe (BitVec.ofNat 8 v.body.urgency), List.take_length_add_append, List.take_length_add_append,
        List.take_append_of_le_length (by rw [hframe]; omega), List.take_append_of_le_length (by rw [hframe]; omega), htake]
    · rw [List.getElem?_append_right (by rw [hframe]; omega), List.getElem?_append_left (by rw [hframe, hframe]; omega), hframe,
        Nat.add_sub_cancel_left, hj]
    · rw [List.getElem?_append_right (by rw [hframe]; omega), List.getElem?_append_left (by rw [hframe, hframe]; omega), hframe,
        Nat.add_sub_cancel_left, hj']

/-- R170: two stations drive the line, which is dominant where one of them is. -/
theorem zipWith_or_take {xs ys : List Bool} {i : Nat} (htake : xs.take i = ys.take i) (hx : xs[i]? = some true)
    (hy : ys[i]? = some false) : (List.zipWith (fun p q => p || q) xs ys).take (i + 1) = xs.take i ++ [true] := by
  rw [List.take_zipWith, List.take_add_one, List.take_add_one, hx, hy, ← htake]
  simp [List.zipWith_append, List.zipWith_self]

/-- R170: what has been read of a telegram when arbitration is lost is kept in full. -/
theorem receiveFrom_eq (read : List Bool) :
    ∃ bytes bits, receiveFrom read = .receiving bytes bits ∧ 10 * bytes.length + bits.length = read.length := by
  unfold receiveFrom
  split
  · exact ⟨_, _, rfl, by simp⟩
  · exact ⟨_, _, rfl, by rw [List.length_drop, List.length_singleton]; omega⟩

theorem flatMap_frameByte_length (bytes : List Byte) : (bytes.flatMap frameByte).length = 10 * bytes.length := by
  induction bytes with
  | nil => rfl
  | cons b bs ih => rw [List.flatMap_cons, List.length_append, ih, List.length_cons, Nat.mul_succ, Nat.add_comm]; rfl

/-- R167: a telegram goes on past its key. -/
theorem Telegram.levels_length (t : Telegram) (a : Nat) : 73 ≤ (t.levels a).length := by
  rw [Telegram.levels, List.length_append, flatMap_frameByte_length]
  simp only [Telegram.bytes, checkedBytes, bytes2, confirmSlot, List.length_cons, List.length_append, List.length_nil]
  omega

/-! ## The start of an attempt (R169, R175, R179) -/

theorem LineState.drives_eq_true {l : LineState} : l.drives = true ↔ l = .active ∨ l = .caution := by
  cases l <;> simp [LineState.drives]

section
variable {s : State} {line : List Bool} {w : LineWatch}

theorem State.maySend_of {e : SendEntry} {rest : List SendEntry} (hruns : s.running = true) (hqueue : s.hlc.queue = e :: rest)
    (hline : s.hlc.line = .active ∨ s.hlc.line = .caution) (hnone : ∀ x ∈ s.hlc.queue, x.onLine = false) :
    s.maySend = true := by
  simp [State.maySend, hruns, LineState.drives_eq_true.mpr hline, HallLine.not_attempting_iff.mpr hnone, hqueue]

theorem State.not_maySend_of (h : s.hlc.queue = [] ∨ s.hlc.line = .mute ∨ s.hlc.line = .detached
    ∨ ∃ x ∈ s.hlc.queue, x.onLine = true) : s.maySend = false := by
  unfold State.maySend
  rcases h with hempty | hmute | hdetached | ⟨x, hx, hon⟩
  · simp [hempty]
  · simp [hmute, LineState.drives]
  · simp [hdetached, LineState.drives]
  · have hgoing : s.hlc.attempting = true := List.any_eq_true.mpr ⟨x, hx, hon⟩
    simp [hgoing]

theorem State.readsLine_of (hruns : s.running = true) : s.readsLine = true := by
  simp [State.readsLine, hruns]

/-- R175: at a chance to start no bits come. -/
theorem State.hearHall_of_chance {row : HallEvent → Bool} (h : s.chance = true) (hline : line ≠ []) :
    s.hearHall row line = none := by
  simp [State.hearHall, h, hline]

theorem State.hearHall_of_not_chance {row : HallEvent → Bool} (h : s.chance = false) :
    s.hearHall row line = hear LineWatch.sample s.tellsHall row line s.hlc.watch := by
  simp [State.hearHall, h]

theorem State.exec_attemptStart_of_some {e : Option HallEvent} (hruns : s.running = true)
    (h : s.hearHall (fun e => e.isIdleGap && s.maySend) line = some (w, e)) :
    exec (.attemptStart line) s = .next (State.putWatch w s).startAttempt := by
  show Host.Outcome.next (if s.readsLine then _ else s) = _
  rw [if_pos (State.readsLine_of hruns), h]

theorem State.exec_attemptStart_of_none (hruns : s.running = true)
    (h : s.hearHall (fun e => e.isIdleGap && s.maySend) line = none) : exec (.attemptStart line) s = .next s := by
  show Host.Outcome.next (if s.readsLine then _ else s) = _
  rw [if_pos (State.readsLine_of hruns), h]

/-- R175: what has been read changes neither the queue nor the line state. -/
theorem State.chance_putWatch (s : State) (w : LineWatch) : (State.putWatch w s).chance = (s.maySend && w.idle) := rfl

/-- R175: an attempt starts where the node may send and the line is idle. -/
theorem State.startAttempt_putWatch {e : SendEntry} {rest : List SendEntry} (hmay : s.maySend = true)
    (hqueue : s.hlc.queue = e :: rest) (hw : w.idle = true) :
    (State.putWatch w s).startAttempt = { s with hlc := { s.hlc with
      queue := { e with onLine := true } :: rest
      drive := .telegram (e.telegram.levels s.config.address)
      watch := .attempting [] (e.telegram.levels s.config.address) } } := by
  unfold State.startAttempt
  rw [State.chance_putWatch, hmay, hw]
  simp only [Bool.and_self, if_true, State.onHlc, State.putWatch, HallLine.startAttempt, hqueue]

theorem State.startAttempt_of_not_chance (h : s.chance = false) : s.startAttempt = s := by
  rw [State.startAttempt, h]
  rfl

theorem State.startAttempt_putWatch_of_not (h : (s.maySend && w.idle) = false) :
    (State.putWatch w s).startAttempt = State.putWatch w s :=
  State.startAttempt_of_not_chance h

/-- R169, R175: at a chance to start no other command's bits come. -/
theorem State.exec_of_chance {c : Instr} (hruns : s.running = true) (h : s.chance = true) (hline : line ≠ [])
    (hc : c ∈ [Instr.attemptStart line, .attemptEnd line, .receiveError line, .detachment line, .rejoin line,
      .idleGap line]) : exec c s = .next s := by
  have hnone : ∀ row, s.hearHall row line = none := fun row => State.hearHall_of_chance h hline
  have hheard : ∀ (p : Bool) (row : HallEvent → Bool) (act : HallEvent → State → State),
      (Host.Outcome.next (if p then s.heard (s.hearHall row line) State.putWatch act else s) :
        Host.Outcome State Fault Refusal) = .next s := fun p row act => by
    rw [hnone, State.heard_none, ite_self]
  simp only [List.mem_cons, List.not_mem_nil, or_false] at hc
  rcases hc with rfl | rfl | rfl | rfl | rfl | rfl
  · exact State.exec_attemptStart_of_none hruns (hnone _)
  all_goals exact hheard _ _ _

end

/-! ## The end of an attempt (R172, R175, R176, R178, R180) -/

section
variable {h : HallLine} {before after : List SendEntry} {e : SendEntry} (hqueue : h.queue = before ++ e :: after)
  (hon : e.onLine = true) (hwait : ∀ x ∈ before ++ after, x.onLine = false)
include hqueue hon hwait

theorem HallLine.dropOnLine_queue : h.dropOnLine.queue = before ++ after := by
  have hkept : ∀ {q : List SendEntry}, (∀ x ∈ q, x.onLine = false) → q.filter (fun x => !x.onLine) = q := fun hq =>
    List.filter_eq_self.mpr fun x hx => by simp [hq x hx]
  have hsplit := List.forall_mem_append.mp hwait
  simp only [HallLine.dropOnLine, hqueue, List.filter_append, hkept hsplit.1]
  rw [List.filter_cons_of_neg (by simp [hon]), hkept hsplit.2]

theorem newerWaiting_eq_true :
    newerWaiting e h.queue = true ↔ ∃ x ∈ before ++ after, x.telegram.body.supersedes e.telegram.body = true := by
  simp only [newerWaiting, hqueue, List.any_eq_true, Bool.and_eq_true, Bool.not_eq_true']
  constructor
  · rintro ⟨x, hx, hwaits, hnewer⟩
    refine ⟨x, ?_, hnewer⟩
    rcases List.mem_append.mp hx with hx | hx
    · exact List.mem_append_left _ hx
    · rcases List.mem_cons.mp hx with rfl | hx
      · rw [hon] at hwaits; cases hwaits
      · exact List.mem_append_right _ hx
  · rintro ⟨x, hx, hnewer⟩
    refine ⟨x, ?_, hwait x hx, hnewer⟩
    rcases List.mem_append.mp hx with hx | hx
    · exact List.mem_append_left _ hx
    · exact List.mem_append_right _ (List.mem_cons_of_mem _ hx)

/-- R176: a newer one waits. -/
theorem HallLine.keepOnLine_of_newer (attempts : Nat)
    (hnewer : ∃ x ∈ before ++ after, x.telegram.body.supersedes e.telegram.body = true) :
    h.keepOnLine attempts e = { h with
      queue := before ++ after
      counters := { h.counters with superseded := h.counters.superseded + 1 } } := by
  rw [HallLine.keepOnLine, if_pos ((newerWaiting_eq_true hqueue hon hwait).mpr hnewer),
    ← HallLine.dropOnLine_queue hqueue hon hwait]
  rfl

/-- R175: the entry waits at its place. -/
theorem HallLine.keepOnLine_of_none (attempts : Nat)
    (hnone : ∀ x ∈ before ++ after, x.telegram.body.supersedes e.telegram.body = false) :
    h.keepOnLine attempts e = { h with queue := before ++ { e with attempts := attempts, onLine := false } :: after } := by
  have hkept : ∀ {q : List SendEntry}, (∀ x ∈ q, x.onLine = false) →
      (q.map fun x => if x.onLine then { x with attempts := attempts, onLine := false } else x) = q := fun hq =>
    (List.map_congr_left fun x hx => by simp [hq x hx]).trans (List.map_id _)
  have hnot : ¬ newerWaiting e h.queue = true := fun hx => by
    obtain ⟨x, hx, hnewer⟩ := (newerWaiting_eq_true hqueue hon hwait).mp hx
    rw [hnone x hx] at hnewer
    cases hnewer
  have hsplit := List.forall_mem_append.mp hwait
  rw [HallLine.keepOnLine, if_neg hnot]
  congr 1
  rw [hqueue, List.map_append, List.map_cons, hkept hsplit.1, hkept hsplit.2, if_pos hon]

/-- R175, R178: the entry's telegram is confirmed. -/
theorem HallLine.endAttempt_confirmed (hline : h.line ≠ .detached) :
    h.endAttempt e (.confirmSlot true false) = { h with
      drive := .quiet
      queue := before ++ after
      score := h.score - 1
      line := lineStateOf (h.score - 1)
      counters := { h.counters with sent := h.counters.sent + 1 } } := by
  have hdrop := HallLine.dropOnLine_queue (h := { h with drive := .quiet }) hqueue hon hwait
  have hrescore := HallLine.rescore_of_ne (h := { h with drive := .quiet }.dropOnLine) hline (scoreDown 1)
  simp only [HallLine.endAttempt, attemptEndOf, HallLine.driveAfter, hrescore, hdrop]
  rfl

end

/-- R170, R175: arbitration lost, nothing but the entry's place and the counts change. -/
theorem HallLine.endAttempt_lost (h : HallLine) (e : SendEntry) :
    h.endAttempt e .lostArbitration = (({ h with drive := .quiet } : HallLine).keepOnLine e.attempts e).tally
      fun c => { c with arbitrationLost := c.arbitrationLost + 1 } := rfl

section
variable {h : HallLine} {e : SendEntry} {result : AttemptResult}

theorem HallLine.endAttempt_detaches (hfailed : attemptEndOf result = .failed) (hscore : h.score = 255) :
    h.endAttempt e result = ({ h with drive := h.driveAfter result } : HallLine).detach := by
  simp only [HallLine.endAttempt, hfailed]
  exact if_pos hscore

theorem HallLine.endAttempt_fails (hfailed : attemptEndOf result = .failed) (hscore : h.score ≠ 255) :
    h.endAttempt e result = ({ h with drive := h.driveAfter result } : HallLine).failAttempt e := by
  simp only [HallLine.endAttempt, hfailed]
  exact if_neg hscore

/-- R175: the eighth attempt failed. -/
theorem HallLine.failAttempt_last (hlast : 7 ≤ e.attempts) (hline : h.line ≠ .detached) :
    h.failAttempt e = { h with
      queue := h.dropOnLine.queue
      score := min 255 (h.score + 8)
      line := lineStateOf (min 255 (h.score + 8))
      counters := { h.counters with givenUp := h.counters.givenUp + 1, transmitErrors := h.counters.transmitErrors + 1 } } := by
  have hover : Config.maxAttempts ≤ e.attempts + 1 := Nat.succ_le_succ hlast
  rw [HallLine.failAttempt, if_pos hover, HallLine.rescore_of_ne (by exact hline)]
  rfl

/-- R175, R176: an attempt failed that is not the last. -/
theorem HallLine.failAttempt_more (hmore : e.attempts < 7) (hline : h.line ≠ .detached) :
    h.failAttempt e = { h.keepOnLine (e.attempts + 1) e with
      score := min 255 (h.score + 8)
      line := lineStateOf (min 255 (h.score + 8))
      counters := { (h.keepOnLine (e.attempts + 1) e).counters with
        transmitErrors := (h.keepOnLine (e.attempts + 1) e).counters.transmitErrors + 1 } } := by
  obtain ⟨hkeptLine, hkeptScore, -⟩ := HallLine.keepOnLine_rest (e.attempts + 1) e h
  have hfew : ¬ Config.maxAttempts ≤ e.attempts + 1 := Nat.not_le.mpr (Nat.succ_lt_succ hmore)
  rw [HallLine.failAttempt, if_neg hfew, HallLine.rescore_of_ne (by rwa [hkeptLine]),
    hkeptScore]
  rfl

theorem HallLine.keepOnLine_counters (attempts : Nat) (e : SendEntry) (h : HallLine) :
    ∃ n, (h.keepOnLine attempts e).counters = { h.counters with superseded := n } := by
  unfold HallLine.keepOnLine
  split <;> exact ⟨_, rfl⟩

theorem HallLine.rescore_counters (f : Nat → Nat) (h : HallLine) : (h.rescore f).counters = h.counters := by
  unfold HallLine.rescore; split <;> rfl

/-- R178: every failed attempt counts as a transmit error. -/
theorem HallLine.endAttempt_transmitErrors (hfailed : attemptEndOf result = .failed) :
    (h.endAttempt e result).counters.transmitErrors = h.counters.transmitErrors + 1 := by
  by_cases hscore : h.score = 255
  · rw [HallLine.endAttempt_detaches hfailed hscore]
    rfl
  · rw [HallLine.endAttempt_fails hfailed hscore, HallLine.failAttempt, HallLine.tally_counters, HallLine.rescore_counters]
    split
    · rfl
    · obtain ⟨n, hn⟩ := HallLine.keepOnLine_counters (e.attempts + 1) e { h with drive := h.driveAfter result }
      rw [hn]

theorem HallLine.rescore_drive (f : Nat → Nat) (h : HallLine) : (h.rescore f).drive = h.drive := by
  unfold HallLine.rescore; split <;> rfl

theorem HallLine.failAttempt_drive (e : SendEntry) (h : HallLine) : (h.failAttempt e).drive = h.drive := by
  unfold HallLine.failAttempt
  rw [HallLine.tally_drive, HallLine.rescore_drive]
  split
  · rfl
  · exact (HallLine.keepOnLine_rest _ e h).2.2.2.2

theorem HallLine.endAttempt_drive (e : SendEntry) (result : AttemptResult) (h : HallLine) :
    (h.endAttempt e result).drive = h.driveAfter result := by
  unfold HallLine.endAttempt
  dsimp only
  repeat' split
  · rw [HallLine.tally_drive, HallLine.rescore_drive]; rfl
  · rw [HallLine.tally_drive, (HallLine.keepOnLine_rest _ e _).2.2.2.2]
  · rfl
  · rw [HallLine.failAttempt_drive]

/-- R170, R179: an error mark answers a bit read back other than sent. -/
theorem HallLine.driveAfter_eq (result : AttemptResult) (h : HallLine) :
    h.driveAfter result =
      if result = .bitError ∧ (h.line = .active ∨ h.line = .caution) then .errorMark else .quiet := by
  cases result with
  | bitError => simp only [HallLine.driveAfter, LineState.drives_eq_true, true_and]
  | lostArbitration => simp [HallLine.driveAfter]
  | confirmSlot c d => simp [HallLine.driveAfter]

theorem attemptEndOf_eq_failed
    (hresult : result = .bitError ∨ ∃ c d, result = .confirmSlot c d ∧ (c = false ∨ d = true)) :
    attemptEndOf result = .failed := by
  rcases hresult with rfl | ⟨c, d, rfl, hslot⟩
  · rfl
  · rcases hslot with rfl | rfl
    · cases d <;> rfl
    · rfl

end

theorem State.exec_attemptEnd {s : State} (hruns : s.running = true) (line : List Bool) :
    exec (.attemptEnd line) s = .next (s.heard (s.hearHall HallEvent.isEnd line) State.putWatch State.endAttempt) :=
  congrArg Host.Outcome.next (if_pos hruns)

/-- R170: the bits of an attempt that has just begun. -/
theorem State.hearHall_of_attempting {s : State} {sent : List Bool} (h : s.hlc.watch = .attempting [] sent)
    {row : HallEvent → Bool} (line : List Bool) :
    s.hearHall row line = hear LineWatch.sample s.tellsHall row line (.attempting [] sent) := by
  rw [State.hearHall_of_not_idle (by rw [h]; rfl), h]

/-- R175: the attempt of the entry on the line ends at the last of the bits. -/
theorem State.exec_attemptEnd_of_ended {s : State} {line : List Bool} {w : LineWatch} {result : AttemptResult}
    {before after : List SendEntry} {e : SendEntry} (hruns : s.running = true) (hqueue : s.hlc.queue = before ++ e :: after)
    (hon : e.onLine = true) (hwait : ∀ x ∈ before, x.onLine = false)
    (h : s.hearHall HallEvent.isEnd line = some (w, some (.ended result))) :
    exec (.attemptEnd line) s =
      .next (s.onHlc fun h => HallLine.endAttempt e result { h with watch := w }).standbyTest := by
  have hfind : s.hlc.queue.find? SendEntry.onLine = some e := by
    rw [hqueue, List.find?_append, List.find?_eq_none.mpr fun x hx => by simp [hwait x hx], List.find?_cons_of_pos hon]
    rfl
  rw [State.exec_attemptEnd hruns, h, State.heard_event]
  simp only [State.endAttempt, State.putWatch, State.onHlc_hlc, hfind]
  rfl

end Sys2Proof.Machine

open Sys2Proof.Machine

/-- Settles O55: the bits of an attempt are read one by one; the lower key is the dominant one at the first data bit in which two
keys differ; and each end of an attempt is computed on a queue split at the entry on the line. -/
theorem attemptsMade : Obligations.AttemptsMade := by
  unfold Obligations.AttemptsMade
  refine ⟨?starts, ?unsent, ?heard, ?compared, ?arbitrated, ?ends⟩
  case starts =>
    intro s e rest u hruns hqueue hline hnone hu
    have hmay := State.maySend_of hruns hqueue hline hnone
    have hstart : ∀ {w : LineWatch}, w.idle = true → (State.putWatch w s).startAttempt = { s with hlc := u } := fun hw =>
      hu ▸ State.startAttempt_putWatch hmay hqueue hw
    have hchance : s.chance = s.hlc.watch.idle := by rw [State.chance, hmay, Bool.true_and]
    have htells : s.tellsHall .idleGap = true := by simp [State.tellsHall, hmay]
    have hrow : (fun e : HallEvent => e.isIdleGap && s.maySend) = HallEvent.isIdleGap := by simp [hmay]
    refine ⟨fun hidle => ⟨?_, fun line c hne hc => State.exec_of_chance hruns (hchance.trans hidle) hne hc⟩,
      fun run hwatch hlt => ?_, fun line w hidle h => ?_⟩
    · rw [State.exec_attemptStart_of_some (w := s.hlc.watch) (e := none) hruns (by simp [State.hearHall, hear]), hstart hidle]
    · have hidle : s.hlc.watch.idle = false := by rw [hwatch]; rfl
      have hgap : s.hearHall HallEvent.isIdleGap (List.replicate (12 - run) false) = some (.between true 0, some .idleGap) := by
        rw [State.hearHall_of_not_idle hidle, hwatch, hear_idleGap hlt, if_pos htells]
        rfl
      rw [State.exec_attemptStart_of_some hruns (hrow ▸ hgap), hstart rfl]
    · have hstays : w.idle = false := hear_idle htells hidle (State.hearHall_of_not_idle hidle ▸ h)
      rw [State.exec_attemptStart_of_some hruns (hrow ▸ h), State.startAttempt_putWatch_of_not (by rw [hstays, Bool.and_false])]
      rfl
  case unsent =>
    intro s line hruns hnot
    have hmay := State.not_maySend_of hnot
    have hrow : (fun e : HallEvent => e.isIdleGap && s.maySend) = fun _ => false := by simp [hmay]
    refine ⟨fun w h => ?_, fun h => State.exec_attemptStart_of_none hruns (hrow ▸ h)⟩
    rw [State.exec_attemptStart_of_some hruns (hrow ▸ h), State.startAttempt_putWatch_of_not (by rw [hmay, Bool.false_and])]
    rfl
  case heard =>
    intro s line hruns
    refine ⟨fun w h => ?_, fun h => ?_⟩ <;> rw [State.exec_attemptEnd hruns, h] <;> rfl
  case compared =>
    intro s sent hwatch
    simp only [State.hearHall_of_attempting hwatch]
    refine ⟨fun n => hear_own_take, fun i hi hbit hlen => ?_, fun i x hi hbit hlen => ?_, fun body c first second hsent => ?_⟩
    · obtain ⟨bytes, bits, hfrom, hlength⟩ := receiveFrom_eq (sent.take i ++ [true])
      refine ⟨bytes, bits, ?_, hlength.trans (by simp; omega)⟩
      rw [hear_lostArbitration (fun _ => rfl) (fun _ => rfl) (decide_eq_true hi) hbit hlen, hfrom]
    · exact hear_bitError (fun _ => rfl) (fun _ => rfl) hi hbit hlen
    · rw [hsent]
      exact hear_confirmSlot (fun _ => rfl) (fun _ => rfl) body c first second
  case arbitrated =>
    intro s r t v a b ha hb hlower hs hr
    obtain ⟨i, hkey, htake, hwins, hloses⟩ := Telegram.levels_lower ha hb hlower
    have hi : i < 19 := by simp only [keyDataBit, decide_eq_true_eq] at hkey; omega
    have hlength := t.levels_length a
    have hlength' := v.levels_length b
    have hwon : (t.levels a).take i ++ [true] = (t.levels a).take (i + 1) := by rw [List.take_add_one, hwins]; rfl
    have hline := zipWith_or_take htake hwins hloses
    refine ⟨i, .attempting ((t.levels a).take (i + 1)) ((t.levels a).drop (i + 1)),
      receiveFrom ((v.levels b).take i ++ [true]), hi, ?_, ?_⟩
    · rw [hline, State.hearHall_of_attempting hs, hwon]
      exact hear_own_take (by omega)
    · rw [hline, State.hearHall_of_attempting hr, htake]
      exact hear_lostArbitration (fun _ => rfl) (fun _ => rfl) hkey hloses (by omega)
  case ends =>
    intro s before after e line w result hruns hqueue hon hwait hline h
    have hq : ({ s.hlc with watch := w } : HallLine).queue = before ++ e :: after := hqueue
    have hl : ({ s.hlc with watch := w } : HallLine).line ≠ .detached := hline
    refine ⟨_, State.exec_attemptEnd_of_ended hruns hqueue hon (List.forall_mem_append.mp hwait).1 h, ?_⟩
    simp only [State.standbyTest_hlc, State.onHlc_hlc]
    refine ⟨HallLine.endAttempt_watch e result _, ?_, by simp, by simp, by simp, by simp, by simp, by simp, fun hnc => ?_,
      ?_, ?_, fun hresult => ?_⟩
    · rw [HallLine.endAttempt_drive]
      exact HallLine.driveAfter_eq result _
    · rw [State.standbyTest_of_ne (by exact hnc)]
      exact ⟨rfl, rfl, rfl⟩
    · rintro rfl
      rw [HallLine.endAttempt_confirmed hq hon hwait hl]
      exact ⟨rfl, rfl, rfl, rfl⟩
    · rintro rfl
      rw [HallLine.endAttempt_lost]
      have hq' : ({ s.hlc with watch := w, drive := .quiet } : HallLine).queue = before ++ e :: after := hqueue
      obtain ⟨n, hcounters⟩ := HallLine.keepOnLine_counters e.attempts e { s.hlc with watch := w, drive := .quiet }
      obtain ⟨hkeptLine, hkeptScore, -⟩ := HallLine.keepOnLine_rest e.attempts e { s.hlc with watch := w, drive := .quiet }
      refine ⟨hkeptScore, hkeptLine, by rw [HallLine.tally_counters, hcounters], fun hnone => ?_, fun hnewer => ?_⟩
      · rw [HallLine.keepOnLine_of_none hq' hon hwait _ hnone]
        exact ⟨rfl, rfl⟩
      · rw [HallLine.keepOnLine_of_newer hq' hon hwait _ hnewer]
        exact ⟨rfl, rfl⟩
    · have hfailed := attemptEndOf_eq_failed hresult
      refine ⟨HallLine.endAttempt_transmitErrors hfailed, fun hscore => ?_, fun hscore => ?_⟩
      · rw [HallLine.endAttempt_detaches (h := { s.hlc with watch := w }) hfailed hscore]
        exact ⟨rfl, rfl, rfl, hscore, rfl, rfl⟩
      · rw [HallLine.endAttempt_fails (h := { s.hlc with watch := w }) hfailed hscore.ne]
        generalize HallLine.driveAfter result _ = drive
        have hq' : ({ s.hlc with watch := w, drive := drive } : HallLine).queue = before ++ e :: after := hqueue
        have hl' : ({ s.hlc with watch := w, drive := drive } : HallLine).line ≠ .detached := hline
        rcases Nat.lt_or_ge e.attempts 7 with hmore | hlast
        · rw [HallLine.failAttempt_more hmore hl']
          refine ⟨rfl, rfl, fun hlast => absurd hlast (by omega), fun _ => ⟨fun hnone => ?_, fun hnewer => ?_⟩⟩
          · rw [HallLine.keepOnLine_of_none hq' hon hwait _ hnone]
            exact ⟨rfl, rfl⟩
          · rw [HallLine.keepOnLine_of_newer hq' hon hwait _ hnewer]
            exact ⟨rfl, rfl⟩
        · rw [HallLine.failAttempt_last hlast hl']
          exact ⟨rfl, rfl, fun _ => ⟨HallLine.dropOnLine_queue hq' hon hwait, rfl⟩, fun hmore => absurd hmore (by omega)⟩

end

section
/-! SUPPORT. Receipts (R169, R171 to R173, R178, R180 to R184): the bits of a telegram of another station, idle gaps and faults,
and what becomes of a telegram taken. -/

open Sys2Proof

namespace Sys2Proof.Machine

/-! ## Recessive bits (R169) -/

theorem recessiveRun_replicate (n : Nat) : recessiveRun (List.replicate n false) = n := by
  simp [recessiveRun]

theorem recessiveRun_dominant_replicate (read : List Bool) (n : Nat) :
    recessiveRun (read ++ true :: List.replicate n false) = n := by
  rw [recessiveRun_append_dominant]
  simp [recessiveRun]

theorem lineAfter_dominant_replicate (read : List Bool) (n : Nat) :
    lineAfter (read ++ true :: List.replicate n false) = .between false (min 11 n) := by
  rw [lineAfter, recessiveRun_dominant_replicate]
  rfl

theorem lineAfter_replicate (n : Nat) : lineAfter (List.replicate n false) = .between false (min 11 n) := by
  rw [lineAfter, recessiveRun_replicate]
  rfl

/-! ## A telegram of another station, bit by bit (R167, R171, R173) -/

section
variable {bytes : List Byte} {bits : List Bool}

theorem wholeTelegram_eq_true : wholeTelegram bytes = true ↔ bytes.length = 7 + (bytes.getD 4 0).toNat := decide_eq_true_iff

theorem LineWatch.sample_byteBit (h : bytes.length ≠ 7 + (bytes.getD 4 0).toNat) (b : Bool) :
    LineWatch.sample b (.receiving bytes bits) = byteBit b bytes bits :=
  if_neg fun hw => h (wholeTelegram_eq_true.mp hw)

theorem LineWatch.sample_slotBit (h : bytes.length = 7 + (bytes.getD 4 0).toNat) (b : Bool) :
    LineWatch.sample b (.receiving bytes bits) = slotBit b bytes bits :=
  if_pos (wholeTelegram_eq_true.mpr h)

theorem faultAt_dominant (f : ReceiveFault) (bits : List Bool) :
    faultAt f (readSoFar bytes (bits ++ [true])) = (.between false 0, some (.fault f)) := by
  rw [faultAt, readSoFar, ← List.append_assoc, lineAfter_append_dominant]

theorem readSoFar_nil (bytes : List Byte) : readSoFar bytes [] = bytes.flatMap frameByte := List.append_nil _

/-- R171: the stop bit of a byte. -/
theorem byteBit_stop (hbits : bits.length = 9) (b : Bool) :
    byteBit b bytes bits = if b then faultAt .framing (readSoFar bytes (bits ++ [b]))
      else byteEnd (bytes ++ [dataByte (bits.drop 1)]) := by
  have hne : bits.isEmpty = false := List.isEmpty_eq_false_iff.mpr (List.ne_nil_of_length_pos (by omega))
  simp [byteBit, hne, hbits]

section
variable {d : Byte}

/-- R171: a payload length above 32. -/
theorem byteEnd_tooLong (hlen : bytes.length = 4) (hd : 32 < d.toNat) :
    byteEnd (bytes ++ [d]) = (lineAfter ((bytes ++ [d]).flatMap frameByte), some (.fault .framing)) := by
  have hget : (bytes ++ [d]).getD 4 0 = d := by simp [List.getD_eq_getElem?_getD, hlen]
  have hlong : (bytes ++ [d]).length = 5 ∧ Config.maxPayload < ((bytes ++ [d]).getD 4 0).toNat :=
    ⟨by simp [hlen], by rwa [hget]⟩
  rw [byteEnd, if_pos hlong, readSoFar_nil]
  rfl

/-- R171, R205: the check value read at a telegram's last byte. -/
theorem checkMatches_append {n : Nat} (hlen : bytes.length = 6 + n) :
    checkMatches (bytes ++ [d]) =
      (checkValue ((bytes.drop 2).take (3 + n)) == carriedCheck (bytes.getD (5 + n) 0) d) := by
  have hlength : (bytes ++ [d]).length = 7 + n := by rw [List.length_append, hlen, List.length_singleton]; omega
  have hbody : ((bytes ++ [d]).drop 2).take (7 + n - 4) = (bytes.drop 2).take (3 + n) := by
    rw [List.drop_append_of_le_length (by omega), List.take_append_of_le_length (by rw [List.length_drop]; omega),
      show 7 + n - 4 = 3 + n by omega]
  have hhi : (bytes ++ [d]).getD (7 + n - 2) 0 = bytes.getD (5 + n) 0 := by
    rw [List.getD_eq_getElem?_getD, List.getElem?_append_left (by omega), ← List.getD_eq_getElem?_getD,
      show 7 + n - 2 = 5 + n by omega]
  have hlo : (bytes ++ [d]).getD (7 + n - 1) 0 = d := by
    rw [List.getD_eq_getElem?_getD, List.getElem?_append_right (by omega), show 7 + n - 1 - bytes.length = 0 by omega]
    rfl
  rw [checkMatches, hlength, hbody, hhi, hlo]

/-- R171: a telegram's last byte, of which the payload length was one that a telegram may have. -/
theorem byteEnd_last {n : Nat} (hn : n = (bytes.getD 4 0).toNat) (hlen : bytes.length = 6 + n) :
    byteEnd (bytes ++ [d]) =
      if checkValue ((bytes.drop 2).take (3 + n)) = bytes.getD (5 + n) 0 ++ d then (.receiving (bytes ++ [d]) [], none)
      else (lineAfter ((bytes ++ [d]).flatMap frameByte), some (.fault .checkMismatch)) := by
  have hlength : (bytes ++ [d]).length = 7 + n := by rw [List.length_append, hlen, List.length_singleton]; omega
  have hget : (bytes ++ [d]).getD 4 0 = bytes.getD 4 0 := by
    rw [List.getD_eq_getElem?_getD, List.getElem?_append_left (by omega), ← List.getD_eq_getElem?_getD]
  have hwhole : wholeTelegram (bytes ++ [d]) = true := wholeTelegram_eq_true.mpr (by rw [hlength, hget, hn])
  have hshort : ¬ ((bytes ++ [d]).length = 5 ∧ Config.maxPayload < ((bytes ++ [d]).getD 4 0).toNat) := fun hx => by
    have := hx.1
    omega
  rw [byteEnd, if_neg hshort, hwhole, checkMatches_append hlen, readSoFar_nil]
  simp only [true_and, beq_eq_false_iff_ne, ne_eq, ite_not]
  rfl

end

end

/-! ## The commands of the line (R169 to R171) -/

section
variable {s : State} {line : List Bool} {w : LineWatch}

theorem State.exec_receiveError (hruns : s.running = true) (line : List Bool) :
    exec (.receiveError line) s =
      .next (s.heard (s.hearHall HallEvent.isFault line) State.putWatch fun _ t => t.takeFault) :=
  congrArg Host.Outcome.next (if_pos (State.readsLine_of hruns))

theorem State.exec_idleGap (hruns : s.running = true) (line : List Bool) :
    exec (.idleGap line) s =
      .next (s.heard (s.hearHall HallEvent.isIdleGap line) State.putWatch fun _ t => t.takeIdleGap) :=
  congrArg Host.Outcome.next (if_pos (State.readsLine_of hruns))

/-- An idle gap at which something more happens is one of the idle gaps. -/
theorem State.hearHall_fewer (p : Bool) (line : List Bool) (s : State) :
    s.hearHall (fun e => e.isIdleGap && p) line =
      (s.hearHall HallEvent.isIdleGap line).filter fun x => x.2.all fun e => e.isIdleGap && p := by
  unfold State.hearHall
  split
  · rfl
  · exact hear_fewer (fun e he => Bool.and_elim_left he) line _

theorem State.exec_detachment (hruns : s.running = true) (line : List Bool) :
    exec (.detachment line) s = .next (s.heard (s.hearHall (fun e => e.isIdleGap && s.hlc.detaches) line) State.putWatch
      fun _ t => t.takeIdleGap) :=
  congrArg Host.Outcome.next (if_pos (State.readsLine_of hruns))

theorem State.exec_rejoin (hruns : s.running = true) (line : List Bool) :
    exec (.rejoin line) s = .next (s.heard (s.hearHall (fun e => e.isIdleGap && s.hlc.rejoinsNext) line) State.putWatch
      fun _ t => t.takeIdleGap) :=
  congrArg Host.Outcome.next (if_pos (State.readsLine_of hruns))

/-- R171, R178, R179: a receive error scored. -/
theorem HallLine.receiveError_eq (h : HallLine) :
    h.receiveError = { h with
      drive := if h.line = .active ∨ h.line = .caution then .errorMark else .quiet
      score := if h.line = .detached then h.score else min 255 (h.score + 1)
      line := if h.line = .detached then .detached else lineStateOf (min 255 (h.score + 1))
      counters := { h.counters with receiveErrors := h.counters.receiveErrors + 1 } } := by
  unfold HallLine.receiveError
  simp only [← LineState.drives_eq_true]
  by_cases hline : h.line = .detached
  · rw [HallLine.rescore_of_detached (by exact hline), if_pos hline, if_pos hline, ← hline]
    rfl
  · rw [HallLine.rescore_of_ne (by exact hline), if_neg hline, if_neg hline]
    rfl

/-! ## Idle gaps (R169, R180, R181) -/

theorem State.takeIdleGap_detaches (hruns : s.running = true) (h : s.hlc.detaches = true) : s.takeIdleGap = s.detach := by
  rw [State.takeIdleGap, if_pos hruns, if_pos h]

theorem State.takeIdleGap_rejoins (hruns : s.running = true) (hdetached : s.hlc.line = .detached)
    (hnext : 95 ≤ s.hlc.idleGaps) :
    s.hlc.rejoinsNext = true ∧ s.takeIdleGap = s.rejoin := by
  have hgaps : Config.rejoinGaps ≤ s.hlc.idleGaps + 1 := Nat.succ_le_succ hnext
  have hrejoins : s.hlc.rejoinsNext = true := by simp [HallLine.rejoinsNext, hdetached, hgaps]
  refine ⟨hrejoins, ?_⟩
  rw [State.takeIdleGap, if_pos hruns, if_neg (by simp [HallLine.detaches, hdetached]), if_pos hrejoins]

theorem State.takeIdleGap_counts (hruns : s.running = true) (hdetached : s.hlc.line = .detached) (hfew : s.hlc.idleGaps < 95) :
    s.hlc.rejoinsNext = false ∧ s.takeIdleGap = s.onHlc fun h => { h with idleGaps := h.idleGaps + 1 } := by
  have hgaps : ¬ Config.rejoinGaps ≤ s.hlc.idleGaps + 1 := Nat.not_le.mpr (Nat.succ_lt_succ hfew)
  have hrejoins : s.hlc.rejoinsNext = false := by simp [HallLine.rejoinsNext, hgaps]
  refine ⟨hrejoins, ?_⟩
  rw [State.takeIdleGap, if_pos hruns, if_neg (by simp [HallLine.detaches, hdetached]), hrejoins, if_neg (by decide),
    if_pos hdetached]

theorem State.takeIdleGap_drives (hline : s.hlc.line = .active ∨ s.hlc.line = .caution) : s.takeIdleGap = s := by
  unfold State.takeIdleGap
  rcases hline with hline | hline <;> simp [HallLine.detaches, HallLine.rejoinsNext, hline]

/-- R181, R133: the node back on the line. -/
theorem State.rejoin_eq (hruns : s.running = true) {u : State}
    (hu : u = { s with hlc := HallLine.enqueue (s.helloIn s.nc.state) { s.hlc with
      line := .active, score := 0, idleGaps := 0
      counters := { s.hlc.counters with rejoins := s.hlc.counters.rejoins + 1 } } }) :
    s.rejoin = if s.nc.state = .standby then u else u.roundQueued := by
  have hreports : s.nc.state.reportsOutlets = !decide (s.nc.state = .standby) := by
    obtain ⟨hstart, hfault⟩ := s.running_iff.mp hruns
    cases h : s.nc.state <;> simp_all [NodeState.reportsOutlets]
  have hjoined : (s.onHlc HallLine.rejoin).queueHello = u := hu ▸ rfl
  simp only [State.rejoin, hreports, hjoined, State.queueOutletStates_eq]
  by_cases hstandby : s.nc.state = .standby <;> simp [hstandby]

end

/-! ## Acceptance (R182, R183) -/

section
variable {c : NodeConfig} {cls : Byte} {rx : Rx} {p : List Byte} {n : Nat}

theorem judgeTelegram_broadcast (h : rx.destination = 0) :
    judgeTelegram c cls rx p =
      if acceptedBySlots c.slots cls (subjectWord cls rx p) then judgeContent cls p else .filtered := by
  rw [judgeTelegram, broadcast, h]
  rfl

theorem judgeTelegram_addressed (h : rx.destination ≠ 0) :
    judgeTelegram c cls rx p = if rx.destination.toNat = c.address then judgeContent cls p else .elsewhere := by
  rw [judgeTelegram, broadcast, beq_eq_false_iff_ne.mpr h]
  simp [addressedTo]

theorem AcceptanceSlot.matchesWord_iff (x : AcceptanceSlot) (cls : Byte) (subject : BitVec 16) :
    x.matchesWord cls subject = true ↔ cls &&& x.classMask = x.classValue
      ∧ subject &&& x.subjectMask.setWidth 16 = x.subjectValue.setWidth 16 := by
  simp [AcceptanceSlot.matchesWord]

theorem judgeContent_of_known {ok : Bool} (h : lengthAllowed cls p.length = some ok) :
    judgeContent cls p =
      if ok = true then (if cls = classReply then .unknownClass else .deliver) else .malformed := by
  rw [judgeContent, h]
  cases ok <;> rfl

theorem judgeContent_of_unknown (h : lengthAllowed cls p.length = none) : judgeContent cls p = .unknownClass := by
  rw [judgeContent, h]

/-- 11.1: the classes and the payload lengths of each. -/
def classLengths : List (Byte × List Nat) :=
  [(0x01, [1]), (0x02, [1]), (0x03, [0]), (0x04, [0]), (0x05, [0]), (0x06, [0]), (0x07, [1]), (0x10, [9]),
    (0x11, [5]), (0x12, [6]), (0x20, [19]), (0x21, [3, 8, 13]), (0x22, [9]), (0x23, [10]), (0x30, [3]),
    (0x40, [2, 7, 12]), (0x41, [11]), (0x50, [6]), (0x51, (List.range 31).map (· + 2)), (0x60, [9])]

theorem lengthAllowed_of_mem {ls : List Nat} (h : (cls, ls) ∈ classLengths) :
    ∃ ok, lengthAllowed cls n = some ok ∧ (ok = true ↔ n ∈ ls) := by
  have hreply : (2 ≤ n ∧ n ≤ 32) ↔ ∃ m < 31, m + 2 = n :=
    ⟨fun hn => ⟨n - 2, by omega, by omega⟩, fun ⟨m, hm, he⟩ => by omega⟩
  have hall : ∀ x ∈ classLengths, ∃ ok, lengthAllowed x.1 n = some ok ∧ (ok = true ↔ n ∈ x.2) := by
    simp only [classLengths, List.forall_mem_cons, List.not_mem_nil, IsEmpty.forall_iff, implies_true, and_true]
    and_intros
    all_goals exact ⟨_, rfl, by simp [hreply, or_assoc]⟩
  exact hall _ h

theorem lengthAllowed_of_not_mem (h : ∀ x ∈ classLengths, x.1 ≠ cls) : lengthAllowed cls n = none := by
  have hne : ∀ x ∈ classLengths, ¬ cls = x.1 := fun x hx he => h x hx he.symm
  simp [classLengths] at hne
  simp [lengthAllowed, classDeckClose, classDeckOpen, classPurge, classReset, classStandby, classWake,
    classOutletRestore, classManifest, classManifestWithdraw, classDeckMap, classHandoff, classLost, classMisplaced,
    classDelivered, classOutletState, classStrayCall, classClaim, classQuery, classReply, classHello, hne]

/-! ### The subject word -/

theorem subjectWord_byte {i : Nat} (h : (cls, i) ∈ [((0x01 : Byte), 0), (0x02, 0), (0x30, 0), (0x23, 7), (0x12, 4)]) :
    subjectWord cls rx p = subjectByte cls p i := by
  simp only [List.mem_cons, Prod.mk.injEq, List.not_mem_nil, or_false] at h
  rcases h with ⟨rfl, rfl⟩ | ⟨rfl, rfl⟩ | ⟨rfl, rfl⟩ | ⟨rfl, rfl⟩ | ⟨rfl, rfl⟩
  all_goals rfl

theorem subjectWord_manifest :
    subjectWord 0x10 rx p = match p[5]?, p[6]? with
      | some hi, some lo => BitVec.ofNat 16 ((256 * hi.toNat + lo.toNat) / 128)
      | _, _ => Config.shortSubject 0x10 p := by
  show (if p.length < 7 then Config.shortSubject 0x10 p else BitVec.ofNat 16 (wordAt p 5 / 128)) = _
  split
  · rename_i hshort
    rw [List.getElem?_eq_none (i := 6) (by omega)]
    split
    · rename_i hlo
      cases hlo
    · rfl
  · rename_i hlong
    rw [List.getElem?_eq_getElem (i := 5) (by omega), List.getElem?_eq_getElem (i := 6) (by omega)]
    have hword : wordAt p 5 = 256 * (p[5]'(by omega)).toNat + (p[6]'(by omega)).toNat := by
      simp [wordAt, byteAt, List.getD_eq_getElem?_getD, List.getElem?_eq_getElem (l := p) (i := 5) (by omega),
        List.getElem?_eq_getElem (l := p) (i := 6) (by omega), Nat.mul_comm]
    rw [hword]

theorem subjectWord_destination (h : cls ∈ [(0x04 : Byte), 0x05, 0x06, 0x07, 0x20, 0x41, 0x50, 0x51]) :
    subjectWord cls rx p = rx.destination.setWidth 16 := by
  simp only [List.mem_cons, List.not_mem_nil, or_false] at h
  rcases h with rfl | rfl | rfl | rfl | rfl | rfl | rfl | rfl
  all_goals rfl

theorem subjectWord_none
    (h : cls ∉ [(0x01 : Byte), 0x02, 0x30, 0x23, 0x12, 0x10, 0x04, 0x05, 0x06, 0x07, 0x20, 0x41, 0x50, 0x51]) :
    subjectWord cls rx p = 0 := by
  simp at h
  simp [subjectWord, classDeckClose, classDeckOpen, classOutletState, classDelivered, classDeckMap, classManifest,
    classReset, classStandby, classWake, classOutletRestore, classHandoff, classClaim, classQuery, classReply, h]

end

/-! ## A telegram taken (R172, R173, R178, R183) -/

section
variable {s : State} {cls : Byte} {rx : Rx} {p : List Byte} {j : Judgement}

theorem State.takeDiscarded_of_judged (hruns : s.running = true) (hj : judgeTelegram s.config cls rx p = j)
    (hne : j ≠ .deliver) :
    exec (.telegramDiscarded cls rx p) s = .next ((s.takeTelegram rx).discard j) := by
  obtain ⟨hstart, hfault⟩ := s.running_iff.mp hruns
  show Host.Outcome.next (s.takeDiscarded cls rx p) = _
  unfold State.takeDiscarded
  split
  · exact absurd ‹_› hstart
  · exact absurd ‹_› hfault
  · rw [hj]
    cases j with
    | deliver => exact absurd rfl hne
    | elsewhere => rfl
    | filtered => rfl
    | malformed => rfl
    | unknownClass => rfl

theorem State.confirms_iff : s.confirms rx = true ↔
    (rx.destination.toNat = s.config.address ∨ rx.destination = 0) ∧ (s.hlc.line = .active ∨ s.hlc.line = .caution) := by
  simp [State.confirms, LineState.drives_eq_true, broadcast, addressedTo, or_comm]

theorem State.takeTelegram_drive_iff : (s.takeTelegram rx).hlc.drive = .confirm ↔ s.confirms rx = true := by
  have hdrive : (s.takeTelegram rx).hlc.drive = s.confirmDrive rx := HallLine.rescore_drive _ _
  rw [hdrive, State.confirmDrive]
  split <;> simp [*]

/-- R169, R173: the line after a telegram that no attempt of this node met. -/
theorem State.takeTelegram_watch_of_not (hnot : ∀ read left, s.hlc.watch ≠ .attempting read left) :
    (s.takeTelegram rx).hlc.watch = lineAfter (telegramEnd rx.check (rx.confirmed || s.confirms rx)) := by
  have hwatch : (s.takeTelegram rx).hlc.watch = s.hlc.watch.afterTelegram rx.check (rx.confirmed || s.confirms rx) :=
    HallLine.rescore_watch _ _
  rw [hwatch]
  cases h : s.hlc.watch with
  | between idle run => rfl
  | receiving bytes bits => rfl
  | attempting read left => exact absurd h (hnot read left)

theorem HallLine.rescore_score (f : Nat → Nat) (h : HallLine) :
    (h.rescore f).score = if h.line = .detached then h.score else f h.score := by
  unfold HallLine.rescore
  split <;> rfl

theorem State.takeTelegram_score :
    (s.takeTelegram rx).hlc.score = if s.hlc.line = .detached then s.hlc.score else s.hlc.score - 1 :=
  HallLine.rescore_score _ _

/-- R169: the line after a telegram, of which the low byte of the check value, as one bits, ends in this many recessive levels. -/
theorem lineAfter_telegramEnd (check : BitVec 16) (confirmed : Bool) {k : Nat} (hk : k ≤ 8)
    (hones : ∀ i, i < k → check.getLsbD i = true) (hzero : k < 8 → check.getLsbD k = false) :
    lineAfter (telegramEnd check confirmed) = .between false (if confirmed = true then 2 else min 11 (4 + k)) := by
  cases confirmed with
  | true => exact lineAfter_dominant_replicate (frameByte (check.setWidth 8)) 2
  | false =>
    have hbits : telegramEnd check false = true :: (!check.getLsbD 7) :: (!check.getLsbD 6) :: (!check.getLsbD 5)
        :: (!check.getLsbD 4) :: (!check.getLsbD 3) :: (!check.getLsbD 2) :: (!check.getLsbD 1) :: (!check.getLsbD 0)
        :: [false, false, false, false] := by
      simp [-BitVec.getLsbD_eq_getElem, telegramEnd, frameByte]
    have hrun : telegramEnd check false =
        (telegramEnd check false).take (8 - k) ++ true :: List.replicate (4 + k) false := by
      rw [hbits]
      interval_cases k <;> simp [-BitVec.getLsbD_eq_getElem, hones, hzero]
    rw [hrun]
    exact lineAfter_dominant_replicate _ _

end

end Sys2Proof.Machine

open Sys2Proof.Machine

/-- Settles O56: a bit is read by one of three small functions, of which each case is stated; an idle gap that means more is found
by hearing the same bits for fewer events; and a telegram is judged by the table of lengths and the first slot that matches. -/
theorem receiptsScored : Obligations.ReceiptsScored := by
  unfold Obligations.ReceiptsScored
  refine ⟨?between, fun read n => ⟨lineAfter_dominant_replicate read n, lineAfter_replicate n⟩, ?received, ?heard, ?gap,
    ?fault, ?idle, ?judged, ?taken⟩
  case between =>
    intro idle run
    exact ⟨rfl, if_congr (show run + 1 < 11 + 1 ↔ run < 11 from Nat.succ_lt_succ_iff) rfl rfl⟩
  case received =>
    intro bytes bits n hn
    subst hn
    refine ⟨fun hmore => ⟨?_, fun hbits => ?_, fun hbits hlen hlong => ?_, fun hbits hlen h5 => ?_⟩, fun hwhole c d => ?_⟩
    · rw [LineWatch.sample_byteBit hmore]
      rfl
    · rw [LineWatch.sample_byteBit hmore, byteBit_stop hbits, if_pos rfl, faultAt_dominant]
    · rw [LineWatch.sample_byteBit hmore, byteBit_stop hbits, if_neg (by decide), byteEnd_tooLong hlen hlong]
    · rw [LineWatch.sample_byteBit hmore, byteBit_stop hbits, if_neg (by decide), byteEnd_last rfl hlen]
    · simp only [LineWatch.sample_slotBit hwhole]
      exact ⟨rfl, faultAt_dominant .errorMark [c], faultAt_dominant .errorMark [c, d], rfl, rfl⟩
  case heard =>
    intro s line c row hc hruns
    obtain ⟨act, hexec⟩ : ∃ act, exec c s = .next (s.heard (s.hearHall row line) State.putWatch act) := by
      simp only [List.mem_cons, Prod.mk.injEq, List.not_mem_nil, or_false] at hc
      rcases hc with ⟨rfl, rfl⟩ | ⟨rfl, rfl⟩ | ⟨rfl, rfl⟩ | ⟨rfl, rfl⟩
      · exact ⟨_, State.exec_receiveError hruns line⟩
      · exact ⟨_, State.exec_idleGap hruns line⟩
      · exact ⟨_, State.exec_detachment hruns line⟩
      · exact ⟨_, State.exec_rejoin hruns line⟩
    rw [hexec]
    exact ⟨fun w h => by rw [h]; rfl, fun h => by rw [h]; rfl⟩
  case gap =>
    intro s idle run hwatch hrun hchance
    rw [State.hearHall_of_not_chance hchance, hwatch, hear_idleGap hrun]
    cases s.tellsHall .idleGap <;> rfl
  case fault =>
    intro s line w f hruns h
    have hfault : (State.putWatch w s).takeFault = (State.putWatch w s).onHlc HallLine.receiveError := by
      rw [State.takeFault, if_pos (by exact hruns)]
    rw [State.exec_receiveError hruns, h, State.heard_event, hfault]
    simp only [State.onHlc, HallLine.receiveError_eq]
    rfl
  case idle =>
    intro s line w hruns h
    have hruns' : (State.putWatch w s).running = true := hruns
    have hgap : exec (.idleGap line) s = .next (State.putWatch w s).takeIdleGap := by
      rw [State.exec_idleGap hruns, h, State.heard_event]
    refine ⟨fun hmute hscore hqueue hnone => ?_, fun hline => ?_, fun hdetached hfew => ?_, fun u hdetached hnext hu => ?_⟩
    · have hdetaches : s.hlc.detaches = true := by
        simp [HallLine.detaches, hmute, hscore, Config.maxScore, hqueue, HallLine.not_attempting_iff.mpr hnone]
      have hdetach := State.takeIdleGap_detaches hruns' (by exact hdetaches)
      refine ⟨(State.putWatch w s).detach, ?_, by rw [hgap, hdetach], ?_, ?_⟩
      · rw [State.exec_detachment hruns, State.hearHall_fewer, h, hdetaches, ← hdetach]
        rfl
      · rw [State.detach, State.standbyTest_hlc]
        rfl
      · rw [State.detach]
        refine ⟨by simp, by simp, by simp, by simp, by simp, by simp, fun hnc => ?_⟩
        rw [State.standbyTest_of_ne (by exact hnc)]
        exact ⟨rfl, rfl, rfl⟩
    · rw [hgap, State.takeIdleGap_drives (by exact hline)]
      rfl
    · obtain ⟨hnot, hcounts⟩ := State.takeIdleGap_counts hruns' (by exact hdetached) (by exact hfew)
      refine ⟨?_, by rw [hgap, hcounts]; rfl⟩
      rw [State.exec_rejoin hruns, State.hearHall_fewer, h, show s.hlc.rejoinsNext = false from hnot]
      rfl
    · obtain ⟨hrejoins, hrejoin⟩ := State.takeIdleGap_rejoins hruns' (by exact hdetached) (by exact hnext)
      have hcommand : exec (.rejoin line) s = .next (State.putWatch w s).takeIdleGap := by
        rw [State.exec_rejoin hruns, State.hearHall_fewer, h, show s.hlc.rejoinsNext = true from hrejoins]
        rfl
      refine ⟨?_, hgap.trans hcommand.symm⟩
      rw [hcommand, hrejoin, State.rejoin_eq hruns' (u := u) (hu.trans rfl)]
      rfl
  case judged =>
    intro c cls rx p subject hit lengths hsubject hhit hlengths
    obtain rfl : lengths = classLengths := hlengths
    subst hsubject
    have hmatches : ∀ x : AcceptanceSlot, x.matchesWord cls (subjectWord cls rx p) = true ↔ hit x := fun x =>
      (x.matchesWord_iff cls _).trans (hhit x).symm
    refine ⟨fun hone hother => ?_, fun hone hthis => ?_,
      fun hall => ⟨fun hnone => ?_, fun before after x hslots hbefore hx => ?_⟩,
      fun ls hls => ?_, fun hunknown => ?_, fun i hi => subjectWord_byte hi, ?_, subjectWord_destination, subjectWord_none⟩
    · rw [judgeTelegram_addressed hone, if_neg hother]
    · rw [judgeTelegram_addressed hone, if_pos hthis]
    · rw [judgeTelegram_broadcast hall, acceptedBySlots,
        List.find?_eq_none.mpr fun x hx hm => hnone x hx ((hmatches x).mp hm)]
      rfl
    · have hfind : c.slots.find? (fun a => a.matchesWord cls (subjectWord cls rx p)) = some x := by
        rw [hslots, List.find?_append, List.find?_eq_none.mpr fun y hy hm => hbefore y hy ((hmatches y).mp hm),
          List.find?_cons_of_pos (p := fun a : AcceptanceSlot => a.matchesWord cls _) ((hmatches x).mpr hx)]
        rfl
      rw [judgeTelegram_broadcast hall, acceptedBySlots, hfind]
    · obtain ⟨ok, hok, hmem⟩ := lengthAllowed_of_mem (n := p.length) hls
      rw [judgeContent_of_known hok]
      exact if_congr hmem rfl rfl
    · exact judgeContent_of_unknown (lengthAllowed_of_not_mem hunknown)
    · rintro rfl
      exact subjectWord_manifest
  case taken =>
    intro s u cls rx p hruns hu
    subst hu
    have hdiscards : ∀ j, judgeTelegram s.config cls rx p = j → j ≠ .deliver →
        exec (.telegramDiscarded cls rx p) s = .next ((s.takeTelegram rx).discard j) := fun j hj hne =>
      State.takeDiscarded_of_judged hruns hj hne
    refine ⟨State.takeTelegram_score, ?_, HallLine.rescore_queue _ _, rfl, rfl, fun hnot k hk hones hzero => ?_,
      State.takeTelegram_drive_iff.trans State.confirms_iff, fun hj => hdiscards _ hj (by decide),
      fun hj => hdiscards _ hj (by decide), fun hj => hdiscards _ hj (by decide), fun hj => hdiscards _ hj (by decide)⟩
    · exact congrArg (fun c : HlcCounters => { c with taken := c.taken + 1 }) (HallLine.rescore_counters _ _)
    · have hconfirmed : (rx.confirmed || s.confirms rx) = true ↔
          rx.confirmed = true ∨ (s.takeTelegram rx).hlc.drive = .confirm := by
        rw [Bool.or_eq_true, State.takeTelegram_drive_iff]
      rw [State.takeTelegram_watch_of_not hnot, lineAfter_telegramEnd _ _ hk hones hzero]
      exact congrArg (LineWatch.between false) (if_congr hconfirmed rfl rfl)

end

section
/-! SUPPORT. A telegram on the line read as its command (11.1, R167, R171, R173, R205): its bytes one after another, the check value
at its last stop bit, and the confirm slot. -/

open Sys2Proof

namespace Sys2Proof.Machine

/-! ## The bytes of a telegram on the line (R167) -/

/-- R167: the bytes of a telegram on the line, its check value in two bytes. -/
def lineBytes (urgency sender cls destination : Byte) (p : List Byte) (hi lo : Byte) : List Byte :=
  urgency :: sender :: (checkedBytes cls destination p ++ [hi, lo])

/-- 11.1: two bytes carry a check value. -/
theorem carriedCheck_bytes2 (check : BitVec 16) : BitVec.ofNat 8 (check.toNat / 256) ++ BitVec.ofNat 8 check.toNat = check := by
  refine BitVec.eq_of_toNat_eq ?_
  rw [BitVec.toNat_append, ← Nat.shiftLeft_add_eq_or_of_lt (BitVec.isLt _), Nat.shiftLeft_eq, BitVec.toNat_ofNat,
    BitVec.toNat_ofNat]
  omega

theorem checkedBytes_length (cls destination : Byte) (p : List Byte) :
    (checkedBytes cls destination p).length = 3 + p.length := by
  simp only [checkedBytes, List.length_cons]
  omega

section
variable {bytes : List Byte} {urgency sender cls destination hi lo : Byte} {p : List Byte}
  (hbytes : bytes = lineBytes urgency sender cls destination p hi lo)
include hbytes

theorem lineBytes_length : bytes.length = 7 + p.length := by
  simp only [hbytes, lineBytes, List.length_cons, List.length_append, checkedBytes_length, List.length_nil]
  omega

theorem lineBytes_take_length {k : Nat} (hk : k ≤ 7 + p.length) : (bytes.take k).length = k := by
  rw [List.length_take, lineBytes_length hbytes, Nat.min_eq_left hk]

theorem lineBytes_split : bytes = bytes.take (6 + p.length) ++ [lo] := by
  have happend : bytes = (urgency :: sender :: (checkedBytes cls destination p ++ [hi])) ++ [lo] := by simp [hbytes, lineBytes]
  have hlength : (urgency :: sender :: (checkedBytes cls destination p ++ [hi])).length = 6 + p.length := by
    simp only [List.length_cons, List.length_append, checkedBytes_length, List.length_nil]
    omega
  rw [happend, List.take_left' hlength]

/-- 11.1: the same telegram with another check value. -/
theorem lineBytes_take_checked (hi' lo' : Byte) :
    bytes.take (bytes.length - 2) ++ [hi', lo'] = lineBytes urgency sender cls destination p hi' lo' := by
  have hbody : (urgency :: sender :: checkedBytes cls destination p).length = bytes.length - 2 := by
    rw [lineBytes_length hbytes, List.length_cons, List.length_cons, checkedBytes_length]
    omega
  have hsplit : bytes = (urgency :: sender :: checkedBytes cls destination p) ++ [hi, lo] := hbytes
  conv_lhs => rw [← hbody, hsplit, List.take_left]
  rfl

/-- R205: the check value is the one that the last two bytes carry. -/
theorem checkMatches_lineBytes : checkMatches bytes = (checkValue (checkedBytes cls destination p) == hi ++ lo) := by
  have hlength := checkedBytes_length cls destination p
  have hchecked : (bytes.drop 2).take (7 + p.length - 4) = checkedBytes cls destination p := by
    rw [hbytes]
    show (checkedBytes cls destination p ++ [hi, lo]).take _ = _
    rw [show 7 + p.length - 4 = (checkedBytes cls destination p).length by omega, List.take_left]
  have hat : ∀ i, bytes.getD (i + (3 + p.length) + 2) 0 = [hi, lo].getD i 0 := fun i => by
    rw [hbytes]
    show (checkedBytes cls destination p ++ [hi, lo]).getD _ 0 = _
    rw [List.getD_append_right _ _ _ _ (by omega), hlength, Nat.add_sub_cancel]
  have hhi := hat 0
  have hlo := hat 1
  rw [show 0 + (3 + p.length) + 2 = 7 + p.length - 2 by omega] at hhi
  rw [show 1 + (3 + p.length) + 2 = 7 + p.length - 1 by omega] at hlo
  rw [checkMatches, lineBytes_length hbytes, hchecked, hhi, hlo]
  rfl

variable (hp : p.length ≤ 32)
include hp

/-- 11.1: the payload length, at its place once it has been read. -/
theorem lineBytes_take_getD {k : Nat} (hk : 4 < k) : ((bytes.take k).getD 4 0).toNat = p.length := by
  obtain ⟨k, rfl⟩ : ∃ m, k = m + 5 := ⟨k - 5, by omega⟩
  rw [hbytes]
  exact toNat_byte_ofNat (by omega)

theorem wholeTelegram_take {k : Nat} (hk : k < 7 + p.length) : wholeTelegram (bytes.take k) = false := by
  refine Bool.eq_false_iff.mpr fun hwhole => ?_
  have hlength := wholeTelegram_eq_true.mp hwhole
  rw [lineBytes_take_length hbytes hk.le] at hlength
  rcases Nat.lt_or_ge 4 k with hlong | hshort
  · rw [lineBytes_take_getD hbytes hp hlong] at hlength
    omega
  · omega

theorem wholeTelegram_lineBytes : wholeTelegram bytes = true := by
  have hget := lineBytes_take_getD hbytes hp (k := bytes.length) (by rw [lineBytes_length hbytes]; omega)
  rw [List.take_length] at hget
  rw [wholeTelegram_eq_true, lineBytes_length hbytes, hget]

/-- R171: the end of a byte that is not the last. -/
theorem byteEnd_take {k : Nat} (hk : k < 7 + p.length) : byteEnd (bytes.take k) = (.receiving (bytes.take k) [], none) := by
  have hshort : ¬ ((bytes.take k).length = 5 ∧ Config.maxPayload < ((bytes.take k).getD 4 0).toNat) := by
    rintro ⟨h5, hlong⟩
    rw [lineBytes_take_length hbytes hk.le] at h5
    rw [lineBytes_take_getD hbytes hp (by omega)] at hlong
    exact absurd hlong (Nat.not_lt.mpr hp)
  rw [byteEnd, if_neg hshort, wholeTelegram_take hbytes hp hk]
  rfl

/-- R171, R205: the end of the last byte. -/
theorem byteEnd_lineBytes :
    byteEnd bytes = if checkValue (checkedBytes cls destination p) = hi ++ lo then (.receiving bytes [], none)
      else faultAt .checkMismatch (readSoFar bytes []) := by
  have hshort : ¬ (bytes.length = 5 ∧ Config.maxPayload < (bytes.getD 4 0).toNat) := fun ⟨h5, _⟩ => by
    rw [lineBytes_length hbytes] at h5
    omega
  rw [byteEnd, if_neg hshort, wholeTelegram_lineBytes hbytes hp, checkMatches_lineBytes hbytes]
  simp only [true_and, beq_eq_false_iff_ne, ne_eq, ite_not]

end

/-! ## The bits of a telegram (R167, R171, R173) -/

section
variable {tells row : HallEvent → Bool}

/-- R167, R171: a framed byte whose stop bit ends the telegram. -/
theorem hear_frameByte_event {bytes : List Byte} {b : Byte} {w : LineWatch} {e : HallEvent} (h : wholeTelegram bytes = false)
    (hb : byteEnd (bytes ++ [b]) = (w, some e)) (htells : tells e = true) (hrow : row e = true) :
    hear LineWatch.sample tells row (frameByte b) (.receiving bytes []) = some (w, some e) := by
  have hd := dataByte_bits b
  simp only [List.map_cons, List.map_nil] at hd
  simp only [frameByte, List.map_cons, List.map_nil, List.cons_append, List.nil_append, hear, LineWatch.sample, h, byteBit,
    List.isEmpty_nil, List.isEmpty_cons, List.length_cons, List.length_nil, List.drop_succ_cons, List.drop_zero, if_true,
    Bool.false_eq_true, if_false, Nat.reduceAdd, Nat.reduceLT, hd, hb, htells, hrow, Bool.and_self]

/-- R169: on an idle line the start bit of a telegram is read as that of its first byte. -/
theorem hear_idle_start (line : List Bool) :
    hear LineWatch.sample tells row (true :: line) (.between true 0) =
      hear LineWatch.sample tells row (true :: line) (.receiving [] []) := rfl

variable {bytes : List Byte} {urgency sender cls destination hi lo : Byte} {p : List Byte}
  (hbytes : bytes = lineBytes urgency sender cls destination p hi lo) (hp : p.length ≤ 32)
include hbytes hp

theorem hear_lineBytes_take {k : Nat} (hk : k < 7 + p.length) (rest : List Bool) :
    hear LineWatch.sample tells row ((bytes.take k).flatMap frameByte ++ rest) (.receiving [] []) =
      hear LineWatch.sample tells row rest (.receiving (bytes.take k) []) := by
  induction k generalizing rest with
  | zero => rfl
  | succ k ih =>
    have hnext := List.take_succ_eq_append_getElem (show k < bytes.length by rw [lineBytes_length hbytes]; omega)
    have hbyte := byteEnd_take hbytes hp hk
    rw [hnext] at hbyte
    rw [hnext, List.flatMap_append, List.append_assoc, ih (by omega), List.flatMap_singleton,
      hear_frameByte (wholeTelegram_take hbytes hp (by omega)) hbyte]

/-- R167, R171: a telegram up to its last byte. -/
theorem hear_lineBytes (rest : List Bool) :
    hear LineWatch.sample tells row (bytes.flatMap frameByte ++ rest) (.between true 0) =
      hear LineWatch.sample tells row (frameByte lo ++ rest) (.receiving (bytes.take (6 + p.length)) []) := by
  have hbits : bytes.flatMap frameByte ++ rest = (bytes.take (6 + p.length)).flatMap frameByte ++ (frameByte lo ++ rest) := by
    conv_lhs => rw [lineBytes_split hbytes, List.flatMap_append, List.flatMap_singleton, List.append_assoc]
  rw [← hear_lineBytes_take hbytes hp (by omega), ← hbits, hbytes]
  exact hear_idle_start _

/-- R171, R205: a telegram whose check value is the one computed. -/
theorem hear_lineBytes_of_eq (hcheck : checkValue (checkedBytes cls destination p) = hi ++ lo) (rest : List Bool) :
    hear LineWatch.sample tells row (bytes.flatMap frameByte ++ rest) (.between true 0) =
      hear LineWatch.sample tells row rest (.receiving bytes []) := by
  have hlast := byteEnd_lineBytes hbytes hp
  rw [if_pos hcheck, lineBytes_split hbytes] at hlast
  rw [hear_lineBytes hbytes hp, hear_frameByte (wholeTelegram_take hbytes hp (by omega)) hlast, ← lineBytes_split hbytes]

/-- R171, R205: a telegram with another check value. -/
theorem hear_lineBytes_of_ne (hcheck : checkValue (checkedBytes cls destination p) ≠ hi ++ lo) (htells : ∀ e, tells e = true)
    (hrow : ∀ e, row e = true) :
    hear LineWatch.sample tells row (bytes.flatMap frameByte) (.between true 0) =
      some (lineAfter (readSoFar bytes []), some (.fault .checkMismatch)) := by
  have hlast := byteEnd_lineBytes hbytes hp
  rw [if_neg hcheck] at hlast
  have hbits := hear_lineBytes (tells := tells) (row := row) hbytes hp []
  rw [List.append_nil, List.append_nil] at hbits
  rw [hbits]
  exact hear_frameByte_event (wholeTelegram_take hbytes hp (by omega)) (lineBytes_split hbytes ▸ hlast) (htells _) (hrow _)

end

/-! ## The command of a telegram (11.1, R171, R173) -/

section
variable {bytes : List Byte} {urgency sender cls destination hi lo : Byte} {p : List Byte}
  (hbytes : bytes = lineBytes urgency sender cls destination p hi lo) (hp : p.length ≤ 32)
include hbytes hp

/-- 11.1: the parts of a telegram. -/
theorem decodeTelegram_lineBytes (time : Nat) (c : Bool) :
    decodeTelegram time c bytes = some (decodeClass cls
      { urgency := urgency.setWidth 3, sender := sender.setWidth 6, destination := destination, time := time,
        check := hi ++ lo, confirmed := c } p) := by
  have hlength : (BitVec.ofNat 8 p.length).toNat = p.length := toNat_byte_ofNat (by omega)
  have hhi : (p ++ [hi, lo]).getD p.length 0 = hi := by rw [List.getD_append_right _ _ _ _ le_rfl, Nat.sub_self]; rfl
  have hlo : (p ++ [hi, lo]).getD (p.length + 1) 0 = lo := by
    rw [List.getD_append_right _ _ _ _ (by omega), Nat.add_sub_cancel_left]
    rfl
  rw [hbytes]
  simp only [lineBytes, checkedBytes, List.cons_append, decodeTelegram, hlength, hhi, hlo, List.take_left, carriedCheck]

/-- R173: the confirm slot of a telegram received without error. -/
theorem decodeLine_lineBytes (hcheck : checkValue (checkedBytes cls destination p) = hi ++ lo) (time : Nat) (c : Bool) :
    decodeLine time (bytes.flatMap frameByte ++ [c, false, false]) = some (decodeClass cls
      { urgency := urgency.setWidth 3, sender := sender.setWidth 6, destination := destination, time := time,
        check := hi ++ lo, confirmed := c } p) := by
  have hslot : hear LineWatch.sample (fun _ => true) (fun _ => true) [c, false, false] (.receiving bytes []) =
      some (lineAfter (readSoFar bytes [c, false, false]), some (.received bytes c)) := by
    simp [hear, LineWatch.sample, wholeTelegram_lineBytes hbytes hp, slotBit]
  rw [decodeLine, hear_lineBytes_of_eq hbytes hp hcheck, hslot]
  exact decodeTelegram_lineBytes hbytes hp time c

/-- R171: a dominant delimiter. -/
theorem decodeLine_lineBytes_marked (hcheck : checkValue (checkedBytes cls destination p) = hi ++ lo) (time : Nat) {c : Bool}
    {slot : List Bool} (hslot : slot = [c, true] ∨ slot = [c, false, true]) :
    decodeLine time (bytes.flatMap frameByte ++ slot) = some (.receiveError (bytes.flatMap frameByte ++ slot)) := by
  have hmark : hear LineWatch.sample (fun _ => true) (fun _ => true) slot (.receiving bytes []) =
      some (lineAfter (readSoFar bytes slot), some (.fault .errorMark)) := by
    rcases hslot with rfl | rfl <;> simp [hear, LineWatch.sample, wholeTelegram_lineBytes hbytes hp, slotBit, faultAt]
  rw [decodeLine, hear_lineBytes_of_eq hbytes hp hcheck, hmark]

/-- R171, R205: a check value other than the one computed. -/
theorem decodeLine_lineBytes_mismatch (hcheck : checkValue (checkedBytes cls destination p) ≠ hi ++ lo) (time : Nat) :
    decodeLine time (bytes.flatMap frameByte) = some (.receiveError (bytes.flatMap frameByte)) := by
  rw [decodeLine, hear_lineBytes_of_ne hbytes hp hcheck (fun _ => rfl) (fun _ => rfl)]

end

/-! ## The telegrams this node sends (R168) -/

section
variable {t : Telegram} {address : Nat}

/-- R168, R205: the bytes of a telegram, and its check value. -/
theorem Telegram.bytes_eq (address : Nat) (t : Telegram) :
    ∃ hi lo, t.bytes address = lineBytes (BitVec.ofNat 8 t.body.urgency) (BitVec.ofNat 8 address) t.body.classCode
        (BitVec.ofNat 8 t.destination) t.body.payload hi lo
      ∧ hi ++ lo = checkValue (checkedBytes t.body.classCode (BitVec.ofNat 8 t.destination) t.body.payload) :=
  ⟨_, _, rfl, carriedCheck_bytes2 _⟩

theorem decodeLine_telegram (hp : t.body.payload.length ≤ 32) (time : Nat) (c : Bool) {rx : Rx}
    (hrx : rx = { urgency := BitVec.ofNat 3 t.body.urgency, sender := BitVec.ofNat 6 address,
                  destination := BitVec.ofNat 8 t.destination, time := time,
                  check := checkValue (checkedBytes t.body.classCode (BitVec.ofNat 8 t.destination) t.body.payload),
                  confirmed := c }) :
    decodeLine time ((t.bytes address).flatMap frameByte ++ [c, false, false]) =
      some (decodeClass t.body.classCode rx t.body.payload) := by
  obtain ⟨hi, lo, hbytes, hcheck⟩ := t.bytes_eq address
  rw [decodeLine_lineBytes hbytes hp hcheck.symm, hcheck, hrx, BitVec.setWidth_ofNat_of_le (by decide),
    BitVec.setWidth_ofNat_of_le (by decide)]

/-- R167: no class allows a payload longer than a telegram holds. -/
theorem lengthAllowed_le {cls : Byte} {n : Nat} (h : lengthAllowed cls n = some true) : n ≤ 32 := by
  have hlong : ∀ x ∈ classLengths, ∀ m ∈ x.2, m ≤ 32 := by decide
  by_cases hknown : ∀ x ∈ classLengths, x.1 ≠ cls
  · rw [lengthAllowed_of_not_mem hknown] at h
    cases h
  · simp only [not_forall, not_not] at hknown
    obtain ⟨x, hx, rfl⟩ := hknown
    obtain ⟨ok, hok, hmem⟩ := lengthAllowed_of_mem (n := n) (ls := x.2) hx
    exact hlong x hx n (hmem.mp (Option.some.inj (hok.symm.trans h)))

/-! ### The lengths of their payloads (11.2) -/

theorem lengthAllowed_lostPayload {f : LossReport} (h : f.tags.length ≤ 2) :
    lengthAllowed classLost (lostPayload f).length = some true := by
  have hlength : (lostPayload f).length = 3 + 5 * f.tags.length := by
    simp only [lostPayload, bytes1, List.length_append, List.length_singleton, flatMap_bytes5_length]
  rw [hlength, lengthAllowed_lost]
  interval_cases f.tags.length <;> rfl

theorem lengthAllowed_strayCallPayload (n : Count) {tags : List Nat} (h : tags.length ≤ 2) :
    lengthAllowed classStrayCall (strayCallPayload n tags).length = some true := by
  have hlength : (strayCallPayload n tags).length = 2 + 5 * tags.length := by
    simp only [strayCallPayload, bytes2, List.length_append, List.length_cons, List.length_nil, flatMap_bytes5_length]
  rw [hlength, lengthAllowed_strayCall]
  interval_cases tags.length <;> rfl

theorem lengthAllowed_reply {n : Nat} (h2 : 2 ≤ n) (h32 : n ≤ 32) : lengthAllowed classReply n = some true := by
  have hreply : lengthAllowed classReply n = some (decide (2 ≤ n) && decide (n ≤ 32)) := rfl
  simp [hreply, h2, h32]

end

/-! ## A QUERY (11.2) -/

theorem queryArgument_argumentBytes (kind : Byte) (a : BitVec 40) : queryArgument (kind :: argumentBytes a) = a := by
  have hbytes : fiveAt (kind :: argumentBytes a) 1 = a.toNat := by
    have hlt := a.isLt
    simp only [fiveAt, byteAt, argumentBytes, List.getD_cons_succ, List.getD_cons_zero, BitVec.extractLsb'_toNat,
      Nat.shiftRight_eq_div_pow]
    omega
  rw [queryArgument, hbytes, BitVec.ofNat_toNat, BitVec.setWidth_eq]

end Sys2Proof.Machine

open Sys2Proof.Machine

/-- Settles O60: every byte but the last is read as its byte, the check value decides at the last stop bit, and the confirm slot
gives the command of the class, whose payload has a length that the class allows. -/
theorem lineTelegramReadBack : Obligations.LineTelegramReadBack := by
  unfold Obligations.LineTelegramReadBack
  intro time address t rx c line haddress hdestination hrx hline
  have hsent : ∀ b, t.body = b → lengthAllowed b.classCode b.payload.length = some true →
      decodeLine time line = some (decodeClass b.classCode rx b.payload) := fun b hb hallowed => by
    subst hb
    rw [hline]
    exact decodeLine_telegram (lengthAllowed_le hallowed) time c hrx
  refine ⟨fun hc => by rw [hline, hc]; rfl, fun f hf _ => hsent _ hf rfl, fun f hf htags => ?lost, fun f hf => hsent _ hf rfl,
    fun n tags hf htags => ?strayCall, fun n f hf => hsent _ hf rfl, fun f hf => hsent _ hf rfl,
    fun d summary reading hf => hsent _ hf rfl, fun kind condition data hf hdata => ?reply, fun values hf h1 h8 => ?counters,
    fun f hf => hsent _ hf rfl, fun hi lo wrong hp hcheck hwrong => ?wrong, fun marked hp hmarked => ?marked,
    fun kind a urgency sender check bits hbits => ?query⟩
  case lost =>
    have hallowed := lengthAllowed_lostPayload htags
    exact (hsent _ hf hallowed).trans (congrArg some (if_neg (not_not_intro hallowed)))
  case strayCall =>
    have hallowed := lengthAllowed_strayCallPayload n htags
    exact (hsent _ hf hallowed).trans (congrArg some (if_neg (not_not_intro hallowed)))
  case reply =>
    have hallowed : lengthAllowed classReply (kind :: bytes1 (conditionCode condition) ++ data).length = some true :=
      lengthAllowed_reply (by simp [bytes1]) (by simp [bytes1]; omega)
    exact (hsent _ hf hallowed).trans (congrArg some (if_neg (not_not_intro hallowed)))
  case counters =>
    have hallowed : lengthAllowed classReply (values.flatMap bytes4).length = some true :=
      lengthAllowed_reply (by rw [flatMap_bytes4_length]; omega) (by rw [flatMap_bytes4_length]; omega)
    exact (hsent _ hf hallowed).trans (congrArg some (if_neg (not_not_intro hallowed)))
  case wrong =>
    obtain ⟨_, _, hbytes, -⟩ := t.bytes_eq address
    rw [hwrong]
    exact decodeLine_lineBytes_mismatch (lineBytes_take_checked hbytes hi lo) hp hcheck.symm time
  case marked =>
    obtain ⟨hi, lo, hbytes, hcheck⟩ := t.bytes_eq address
    rcases hmarked with rfl | rfl
    · exact decodeLine_lineBytes_marked hbytes hp hcheck.symm time (Or.inl rfl)
    · exact decodeLine_lineBytes_marked hbytes hp hcheck.symm time (Or.inr rfl)
  case query =>
    have hbytes : [urgency, sender, 0x50, BitVec.ofNat 8 t.destination, 6] ++ (kind :: argumentBytes a) ++ bytes2 check.toNat =
        lineBytes urgency sender 0x50 (BitVec.ofNat 8 t.destination) (kind :: argumentBytes a)
          (BitVec.ofNat 8 (check.toNat / 256)) (BitVec.ofNat 8 check.toNat) := rfl
    have hcarried := carriedCheck_bytes2 check
    have hp : (kind :: argumentBytes a).length ≤ 32 := show 6 ≤ 32 by decide
    rw [hbits, hbytes]
    refine ⟨fun hcheck => ?_, fun hcheck => ?_⟩
    · rw [decodeLine_lineBytes rfl hp (hcheck.symm.trans hcarried.symm), hcarried]
      exact congrArg (fun x => some (decodeQuery _ kind x)) (queryArgument_argumentBytes kind a)
    · exact decodeLine_lineBytes_mismatch rfl hp (fun h => hcheck (hcarried.symm.trans h.symm)) time

end

section
/-! SUPPORT. What keeps a node from STANDBY (R193): the work of its section, its pushers and its send queue, which operations leave
it alone, and where the standby test follows one that ends it. -/

open Sys2Proof

namespace Sys2Proof.Machine

/-! ## The work of a node -/

/-- The node state, and what the standby test asks of the Section Tracker and the pushers. The commitments are left out: where the
blocks are linked, each is that of a record. -/
structure Work where
  state        : NodeState
  numbers      : List Count
  expectations : List Expectation
  strokes      : PerOutlet (Option Nat)

def State.work (s : State) : Work :=
  ⟨s.nc.state, s.st.records.map BagRecord.number, s.st.expectations, s.dc.strokes⟩

/-- R193: a record, an expectation, a running stroke timer or a telegram that waits. -/
def State.Occupied (s : State) : Prop :=
  s.work.numbers ≠ [] ∨ s.work.expectations ≠ [] ∨ s.dc.strokesIdle = false ∨ s.hlc.queue ≠ []

section
variable {s t u : State}

theorem State.Occupied.not_quiet (h : s.Occupied) : s.quiet = false := by
  rw [← Bool.not_eq_true]
  intro hquiet
  simp only [State.quiet, Bool.and_eq_true, List.isEmpty_iff] at hquiet
  obtain ⟨⟨⟨⟨hrecords, hexpectations⟩, -⟩, hstrokes⟩, hqueue⟩ := hquiet
  rcases h with h | h | h | h
  · exact h (List.map_eq_nil_iff.mpr hrecords)
  · exact h hexpectations
  · exact Bool.false_ne_true (h.symm.trans hstrokes)
  · exact h hqueue

/-- R91: a node whose commitments are those of records has a record where it has a commitment. -/
theorem State.occupied_of_not_quiet (hlinked : s.linked) (h : s.quiet = false) : s.Occupied := by
  obtain ⟨-, -, -, -, hheld, -⟩ := hlinked
  by_contra hidle
  simp only [State.Occupied, State.work, ne_eq, not_or, not_not, Bool.not_eq_false, List.map_eq_nil_iff] at hidle
  obtain ⟨hrecords, hexpectations, hstrokes, hqueue⟩ := hidle
  have hcommitments : s.dc.commitments = [] :=
    List.eq_nil_iff_forall_not_mem.mpr fun c hc => by simpa [hrecords] using hheld c hc
  simp [State.quiet, hrecords, hexpectations, hcommitments, hstrokes, hqueue] at h

theorem State.occupied_of_mem {r : BagRecord} (h : r ∈ s.st.records) : s.Occupied :=
  .inl (List.ne_nil_of_mem (List.mem_map_of_mem h))

/-! ## Steps that leave work where there was work -/

/-- From `s` to `t` no node enters STANDBY-PENDING, and one that is in it has work where it had. -/
structure State.Retains (s t : State) : Prop where
  pending : t.nc.state = .standbyPending → s.nc.state = .standbyPending
  work    : t.nc.state = .standbyPending → s.Occupied → t.Occupied

theorem State.Retains.refl (s : State) : s.Retains s := ⟨id, fun _ => id⟩

theorem State.Retains.trans (h : s.Retains u) (h' : u.Retains t) : s.Retains t :=
  ⟨h.pending ∘ h'.pending, fun ht hs => h'.work ht (h.work (h'.pending ht) hs)⟩

/-- R193: a node that is not in STANDBY-PENDING. -/
theorem State.Retains.of_state (h : t.nc.state ≠ .standbyPending) : s.Retains t :=
  ⟨fun ht => absurd ht h, fun ht => absurd ht h⟩

/-- Work of its own. -/
theorem State.Retains.of_occupied (hstate : t.nc.state = s.nc.state) (h : t.Occupied) : s.Retains t :=
  ⟨hstate.symm.trans, fun _ _ => h⟩

theorem State.Retains.of_work (hwork : t.work = s.work) (hqueue : s.hlc.queue ≠ [] → t.hlc.queue ≠ []) : s.Retains t := by
  have hstate : t.nc.state = s.nc.state := congrArg Work.state hwork
  have hstrokes : t.dc.strokesIdle = s.dc.strokesIdle := by
    unfold DivertController.strokesIdle
    rw [show t.dc.strokes = s.dc.strokes from congrArg Work.strokes hwork]
  refine ⟨hstate.symm.trans, fun _ h => ?_⟩
  unfold State.Occupied at h ⊢
  rw [hwork, hstrokes]
  exact h.imp_right (.imp_right (.imp_right hqueue))

/-- A queue that is not empty takes a telegram in, or takes it for another. -/
theorem HallLine.enqueue_queue_ne_nil {h : HallLine} (hq : h.queue ≠ []) (t : Telegram) : (h.enqueue t).queue ≠ [] := by
  have hinsert : ∀ q, insertByUrgency (SendEntry.fresh t) q ≠ [] := fun q =>
    List.ne_nil_of_length_pos (by rw [insertByUrgency_length]; exact Nat.succ_pos _)
  unfold HallLine.enqueue
  repeat' split
  · exact hq
  · rename_i q hreplaced
    refine List.ne_nil_of_length_pos ?_
    rw [HallLine.tally_queue, replaceWaiting_length hreplaced]
    exact List.length_pos_of_ne_nil hq
  · exact hinsert _
  · exact hinsert _
  · exact hq

theorem State.Sends.queue_ne_nil (h : s.Sends t) (hq : s.hlc.queue ≠ []) : t.hlc.queue ≠ [] := by
  obtain ⟨ts, ht⟩ := h
  rw [ht]
  clear ht
  generalize s.hlc = h at hq ⊢
  induction ts generalizing h with
  | nil => exact hq
  | cons x ts ih => exact ih _ (HallLine.enqueue_queue_ne_nil hq x)

theorem State.Retains.of_sends (hsends : s.Sends t) (hwork : t.work = s.work) : s.Retains t :=
  .of_work hwork hsends.queue_ne_nil

theorem State.Retains.of_eq (hwork : t.work = s.work) (hqueue : t.hlc.queue = s.hlc.queue) : s.Retains t :=
  .of_work hwork fun h => by rwa [hqueue]

/-- R193: `t` comes from `s` with the standby test made, or with work left where there was work. -/
inductive State.Watches (s t : State) : Prop
  | tested (h : t.nc.state = .standbyPending → t.quiet = false)
  | retains (h : s.Retains t)

theorem State.Watches.refl (s : State) : s.Watches s := .retains (.refl s)

theorem State.Watches.of_eq (hwork : t.work = s.work) (hqueue : t.hlc.queue = s.hlc.queue) : s.Watches t :=
  .retains (.of_eq hwork hqueue)

theorem State.Watches.of_occupied (h : t.Occupied) : s.Watches t := .tested fun _ => h.not_quiet

theorem State.Watches.after (h' : u.Watches t) (h : s.Retains u) : s.Watches t := by
  cases h' with
  | tested htested => exact .tested htested
  | retains hretains => exact .retains (h.trans hretains)

theorem State.Watches.ite {p : Prop} [Decidable p] (h : p → s.Watches t) : s.Watches (if p then t else s) := by
  split
  · exact h ‹_›
  · exact .refl s

/-- R193: after the standby test no quiet node is in STANDBY-PENDING. -/
theorem State.Watches.standbyTest (s t : State) : s.Watches t.standbyTest := by
  refine .tested fun ht => ?_
  unfold State.standbyTest at ht ⊢
  split at ht
  · cases ht
  · rename_i hnot
    rw [if_neg hnot]
    exact Bool.eq_false_iff.mpr fun hquiet => hnot ⟨ht, hquiet⟩

/-- R193: no quiet node is in STANDBY-PENDING. -/
def State.Wary (s : State) : Prop := s.nc.state = .standbyPending → s.quiet = false

theorem State.Watches.wary (h : s.Watches t) (hlinked : s.linked) (hs : s.Wary) : t.Wary := by
  cases h with
  | tested htested => exact htested
  | retains hretains =>
    exact fun ht => (hretains.work ht (State.occupied_of_not_quiet hlinked (hs (hretains.pending ht)))).not_quiet

theorem State.Tracks.linked (h : s.Tracks t) (hlinked : s.linked) : t.linked := by
  rw [State.linked_iff] at hlinked ⊢
  exact h.keeps (fun _ _ => Tracking.linked_change) hlinked

end

/-! ## Operations that leave the work alone -/

section
variable (s : State)

@[simp] theorem State.onTrp_work (f) : (s.onTrp f).work = s.work := rfl
@[simp] theorem State.onMs_work (f) : (s.onMs f).work = s.work := rfl
@[simp] theorem State.onOm_work (f) : (s.onOm f).work = s.work := rfl
@[simp] theorem State.onSu_work (f) : (s.onSu f).work = s.work := rfl
@[simp] theorem State.onHlc_work (f) : (s.onHlc f).work = s.work := rfl
@[simp] theorem State.send_work (d b) : (s.send d b).work = s.work := rfl
@[simp] theorem State.markLog_work : s.markLog.work = s.work := rfl
@[simp] theorem State.markMap_work : s.markMap.work = s.work := rfl

/-- R38: a notice, to whichever record, takes none out of the list. -/
theorem State.notice_work (n : Count) {f : BagRecord → BagRecord} (hf : ∀ r, (f r).number = r.number) :
    (s.onSt (SectionTracker.notice n f)).work = s.work := by
  obtain ⟨k, hk⟩ := s.st.notice_eq n f
  simp only [State.work, State.onSt, hk, numbers_map (number_ite hf)]

theorem State.modify_work (n : Count) {f : BagRecord → BagRecord} (hf : ∀ r, (f r).number = r.number) :
    (s.onSt (SectionTracker.modify n f)).work = s.work := by
  simp only [State.work, State.onSt, SectionTracker.modify, numbers_map (number_ite hf)]

@[simp] theorem State.closeWindow_work (n x) : (s.closeWindow n x).work = s.work :=
  State.notice_work _ n fun _ => rfl

@[simp] theorem State.closeWindowByTags_work (n) : (s.closeWindowByTags n).work = s.work := State.closeWindow_work ..

@[simp] theorem State.discard_work (j) : (s.discard j).work = s.work := by
  cases j <;> rfl

@[simp] theorem State.reportLost_work (r) : (s.reportLost r).work = s.work := by
  rw [State.reportLost_eq]; rfl

@[simp] theorem State.reportMisplaced_work (r) : (s.reportMisplaced r).work = s.work := by
  rw [State.reportMisplaced_eq]; rfl

@[simp] theorem State.clearLog_work : s.clearLog.work = s.work := by
  unfold State.clearLog; split <;> rfl

@[simp] theorem State.queueOutletStates_work : s.queueOutletStates.work = s.work := by
  rw [State.queueOutletStates_eq]; rfl

/-! ### The Outlet Monitor -/

/-- R106: the records of the commitments dropped stay. -/
@[simp] theorem State.dropArmed_work (k) : (s.dropArmed k).work = s.work :=
  (foldl_keeps (g := State.work) (fun u (c : Commitment) =>
    u.notice_work c.record (f := BagRecord.uncommit) fun _ => rfl) _ _).trans rfl

@[simp] theorem State.summarise_work (k first) : (s.summarise k first).work = s.work := by
  rw [State.summarise_eq]; split <;> rfl

@[simp] theorem State.rederive_work (k first) : (s.rederive k first).work = s.work := by
  simp only [State.rederive, State.summarise_work]
  repeat' split
  all_goals simp

@[simp] theorem State.rederiveDecks_work (ds) : (s.rederiveDecks ds).work = s.work := by
  refine foldl_keeps (g := State.work) (fun u k => ?_) _ s
  repeat' split
  all_goals simp

@[simp] theorem State.takeConversions_work (k codes) : (s.takeConversions k codes).work = s.work := State.rederive_work ..

@[simp] theorem State.followFault_work (k a) : (s.followFault k a).work = s.work := State.rederive_work ..

@[simp] theorem State.takeRestore_work (rx n) : (s.takeRestore rx n).work = s.work := by
  unfold State.takeRestore
  split
  · rfl
  · exact State.rederive_work ..

@[simp] theorem State.takeDeckClose_work (d) : (s.takeDeckClose d).work = s.work := by
  unfold State.takeDeckClose
  split
  · exact State.rederiveDecks_work ..
  · rfl

@[simp] theorem State.takeDeckOpen_work (d) : (s.takeDeckOpen d).work = s.work := by
  unfold State.takeDeckOpen
  split
  · exact State.rederiveDecks_work ..
  · rfl

/-! ### The Manifest Store and the Stray Unit -/

@[simp] theorem State.commitStores_work (x) : (s.commitStores x).work = s.work :=
  (foldl_keeps State.reportMisplaced_work _ _).trans rfl

@[simp] theorem State.applyHeld_work (t) : (s.applyHeld t).work = s.work := by
  cases t with
  | manifest f => exact State.commitStores_work ..
  | withdraw tag => exact State.commitStores_work ..
  | deckMap f =>
    change (s.applyDeckMap f).work = s.work
    unfold State.applyDeckMap; repeat' split
    all_goals rfl

@[simp] theorem State.takeManifestTelegram_work (t) : (s.takeManifestTelegram t).work = s.work := by
  unfold State.takeManifestTelegram; split <;> simp

@[simp] theorem State.examineNext_work (n) : (s.examineNext n).work = s.work := by
  unfold State.examineNext; split <;> simp

@[simp] theorem State.takePurge_work : s.takePurge.work = s.work := by
  simp [State.takePurge, State.clearClosedDecks]

@[simp] theorem State.completePurge_work : s.completePurge.work = s.work :=
  (foldl_keeps State.applyHeld_work _ _).trans rfl

@[simp] theorem State.takeLost_work (r) : (s.takeLost r).work = s.work := by
  unfold State.takeLost; repeat' split
  all_goals rfl

@[simp] theorem State.takeMisplaced_work (n r) : (s.takeMisplaced n r).work = s.work := by
  unfold State.takeMisplaced; repeat' split
  all_goals rfl

@[simp] theorem State.takeCall_work (n q ts) : (s.takeCall n q ts).work = s.work := by
  unfold State.takeCall
  split
  · rfl
  · refine (foldl_keeps (g := State.work) (fun u tag => ?_) _ _).trans rfl
    unfold State.answerCall
    split <;> rfl

@[simp] theorem State.takeClaim_work (rx q f) : (s.takeClaim rx q f).work = s.work := by
  unfold State.takeClaim; dsimp only; split <;> rfl

/-! ### The Section Tracker and the reader port -/

@[simp] theorem State.takeClosePoint_work (n) : (s.takeClosePoint n).work = s.work := by
  unfold State.takeClosePoint; repeat' split
  all_goals simp

@[simp] theorem State.registerClosePoint_work (n x l) : (s.registerClosePoint n x l).work = s.work :=
  State.takeClosePoint_work ..

@[simp] theorem State.takeSpanPoint_work (n) : (s.takeSpanPoint n).work = s.work := by
  unfold State.takeSpanPoint
  repeat' split
  · exact s.modify_work n fun r => (r.spanned_keeps).1
  · rfl
  · rfl

/-- R56: a tag read changes tags, a reason or a count. -/
@[simp] theorem State.tagRead_work (n tag) : (s.onSt (SectionTracker.tagRead n tag)).work = s.work := by
  unfold State.onSt SectionTracker.tagRead
  repeat' split
  · rfl
  · rfl
  · exact s.modify_work n fun _ => rfl
  · exact s.modify_work n fun r => (r.giveReason_keeps _).1

@[simp] theorem State.bindRead_work (tag) : (s.bindRead tag).work = s.work := by
  unfold State.bindRead
  split <;> simp

@[simp] theorem State.judgeReport_work (cs) : (s.judgeReport cs).work = s.work := by
  unfold State.judgeReport; dsimp only; split <;> simp

@[simp] theorem State.assemble_work (ch) : (s.assemble ch).work = s.work := by
  unfold State.assemble
  repeat' split
  all_goals simp

@[simp] theorem State.takeCharacter_work (e) : (State.takeCharacter e s).work = s.work := by
  unfold State.takeCharacter State.receiveCharacter
  repeat' split
  all_goals simp

@[simp] theorem State.takeBreak_work : s.takeBreak.work = s.work := by
  unfold State.takeBreak State.bindBreak
  repeat' split
  all_goals simp

@[simp] theorem State.takeRate_work (e) : (State.takeRate e s).work = s.work := by
  cases e <;> rfl

end

/-! ## Operations that end work, or wake the node -/

section
variable {s t u : State}

/-- R194: a woken node sorts. -/
theorem State.Retains.wakeUp (s : State) : s.Retains s.wakeUp := by
  rw [State.wakeUp_eq]
  split
  · exact .of_state fun h => NodeState.noConfusion h
  · exact .refl s

theorem State.Retains.wakeIfAddressed (s : State) (rx : Rx) : s.Retains (s.wakeIfAddressed rx) := by
  unfold State.wakeIfAddressed
  split
  · exact .refl s
  · exact .wakeUp s

theorem State.Retains.takeQuery (s : State) (rx : Rx) (kind : Byte) (build : State → Answer) :
    s.Retains (s.takeQuery rx kind build) := by
  unfold State.takeQuery
  split
  · exact .of_eq rfl rfl
  · exact .trans (.wakeUp s) (.of_work rfl fun h => HallLine.enqueue_queue_ne_nil h _)

theorem State.Retains.takeLogQuery (s : State) (rx : Rx) (cursor part : Nat) : s.Retains (s.takeLogQuery rx cursor part) := by
  unfold State.takeLogQuery
  dsimp only
  split <;> exact .trans (.takeQuery s ..) (.of_eq rfl rfl)

theorem State.Retains.takeMapQuery (s : State) (rx : Rx) (cursor : Nat) : s.Retains (s.takeMapQuery rx cursor) := by
  unfold State.takeMapQuery
  dsimp only
  split <;> exact .trans (.takeQuery s ..) (.of_eq rfl rfl)

theorem State.Watches.takeStandby (s : State) : s.Watches s.takeStandby := by
  unfold State.takeStandby
  split
  · exact .standbyTest s _
  · exact .of_eq rfl rfl

theorem State.Retains.takeWake (s : State) : s.Retains s.takeWake := by
  unfold State.takeWake
  split
  · exact .of_state fun h => NodeState.noConfusion h
  · exact .wakeUp s
  · exact .of_eq rfl rfl

/-- R195: a node joins. -/
theorem State.Retains.takeReset (s : State) : s.Retains s.takeReset := by
  have hjoins : s.resetBlocks.rejoinHall.nc.state = .joining := by
    rw [State.rejoinHall, State.queueOutletStates_eq]
    rfl
  refine .of_state fun h => ?_
  have hstate : s.takeReset.nc.state = s.resetBlocks.rejoinHall.nc.state := by
    unfold State.takeReset
    dsimp only
    split <;> rfl
  cases (hstate.trans hjoins).symm.trans h

/-! ### The Section Tracker (chapter 2) -/

/-- R19: an arrival is a record in the list. -/
theorem State.Watches.inductionBlocked (s : State) : s.Watches s.inductionBlocked := by
  unfold State.inductionBlocked
  dsimp only
  split
  · exact .of_occupied (State.occupied_of_mem (List.mem_append_right _ (List.mem_singleton_self _)))
  · exact .retains (.trans (.wakeUp s) (.of_eq rfl rfl))

/-- R26: a binding takes no record out of the list. -/
theorem State.bindAtTrailing_numbers (s : State) (n : Count) (l : Nat) :
    (s.bindAtTrailing n l).work.numbers = s.work.numbers := by
  have hbind : ∀ (t : SectionTracker) (e : Expectation),
      (t.modify n (BagRecord.bind s.config e)).records.map BagRecord.number = t.records.map BagRecord.number :=
    fun t e => numbers_map (number_ite fun r => (r.bind_keeps _ _).1)
  unfold State.bindAtTrailing
  repeat' split
  · rfl
  · exact hbind ..
  · rfl
  · rfl
  · rw [State.reportLost_eq]
    exact hbind ..
  · rfl

/-- R26: an expectation that leaves the list is bound to a record. -/
theorem State.Watches.bindIfAwaiting (s : State) (n : Count) (l : Nat) : s.Watches (s.bindIfAwaiting n l) := by
  unfold State.bindIfAwaiting
  split
  · rename_i r hr
    refine .ite fun _ => .of_occupied (.inl ?_)
    rw [State.bindAtTrailing_numbers]
    exact List.ne_nil_of_mem (SectionTracker.number_mem hr)
  · exact .refl s

theorem State.Watches.trailingEdge (s : State) (n leading : Count) : s.Watches (s.trailingEdge n leading) := by
  unfold State.trailingEdge
  dsimp only
  generalize (s.st.encoderCount - leading).toNat = l
  have hwork := s.modify_work n (f := fun r => { r with length := some l }) fun _ => rfl
  repeat' split
  · exact .standbyTest ..
  · refine .after (.bindIfAwaiting ..) (.of_eq ?_ ?_)
    · rw [State.modify_work _ n fun r => (r.giveReason_keeps _).1, State.registerClosePoint_work, hwork]
    · simp [State.registerClosePoint]
  · refine .after (.bindIfAwaiting ..) (.of_eq ?_ ?_)
    · rw [State.registerClosePoint_work, hwork]
    · simp [State.registerClosePoint]

theorem State.Watches.inductionCleared (s : State) : s.Watches s.inductionCleared := by
  unfold State.inductionCleared
  dsimp only
  repeat' split
  · exact .of_eq rfl rfl
  · exact .of_eq rfl rfl
  · exact .of_eq rfl rfl
  · exact .after (.trailingEdge ..) (.of_eq rfl rfl)

theorem State.Watches.handoffBlocked (s : State) : s.Watches s.handoffBlocked := by
  unfold State.handoffBlocked State.handOff
  repeat' split
  · exact .standbyTest ..
  · exact .of_eq rfl rfl
  · exact .of_eq rfl rfl

theorem State.Watches.takeWindowEnd (s : State) (n : Count) : s.Watches (s.takeWindowEnd n) := by
  unfold State.takeWindowEnd
  split
  · exact .ite fun _ => .standbyTest ..
  · exact .refl s

theorem State.Watches.takeExpiry (s : State) (node : Nat) (bag : Count) : s.Watches (s.takeExpiry node bag) := by
  unfold State.takeExpiry
  split
  · exact .ite fun _ => .standbyTest ..
  · exact .refl s

/-- R23, R24, R27: a HANDOFF is refused, bound to a record, or expected. -/
theorem State.Watches.takeHandoff (s : State) (c : NodeConfig) (rx : Rx) (h : ReceivedHandoff) :
    s.Watches (s.onSt (SectionTracker.takeHandoff c rx h)) := by
  unfold State.onSt SectionTracker.takeHandoff
  repeat' split
  · exact .of_eq rfl rfl
  · exact .of_eq (s.modify_work _ fun r => (r.bind_keeps _ _).1) rfl
  · refine .of_occupied (.inr (.inl ?_))
    unfold SectionTracker.expect
    split <;> exact List.append_ne_nil_of_right_ne_nil _ (List.cons_ne_nil _ _)

/-! ### The Divert Controller (chapter 5) -/

theorem State.Watches.takeDeadline (s : State) (n : Count) : s.Watches (s.takeDeadline n) := by
  unfold State.takeDeadline
  split
  · exact .ite fun _ => .standbyTest ..
  · exact .refl s

/-- R103: a pusher that fires is running. -/
theorem DivertController.strokesIdle_set (d : DivertController) (k : OutletNo) (x : Nat) :
    { d with strokes := d.strokes.set k (some x) }.strokesIdle = false := by
  cases k <;> simp [DivertController.strokesIdle, OutletNo.all, PerOutlet.set, PerOutlet.get]

theorem State.Watches.firePusher (s : State) (c : Commitment) : s.Watches (s.firePusher c) :=
  .after (.takeDeadline _ c.record) (.of_occupied rfl (.inr (.inr (.inl (DivertController.strokesIdle_set ..)))))

theorem State.Watches.takeFirePoint (s : State) (n : Count) : s.Watches (s.takeFirePoint n) := by
  unfold State.takeFirePoint
  split
  · refine .ite fun _ => ?_
    split
    · exact .firePusher s _
    · exact .standbyTest ..
  · exact .refl s

/-- R100: the record of a commitment stays in the list. -/
theorem State.Watches.commit (s : State) (k : OutletNo) (r : BagRecord) (kind : CommitmentKind) :
    s.Watches (s.commit k r kind) :=
  .after (.takeFirePoint _ r.number) (.of_eq
    ((State.notice_work _ r.number (f := (commitmentFor s k r kind).onRecord) fun _ => rfl).trans rfl) rfl)

theorem State.Watches.evaluate (s : State) (k : OutletNo) (r : BagRecord) : s.Watches (s.evaluate k r) := by
  unfold State.evaluate
  cases decideRoute s k r with
  | pass => exact .of_eq rfl rfl
  | passNoLength => exact .of_eq rfl rfl
  | markStray reason => exact .of_eq (State.notice_work _ r.number fun r => (r.giveReason_keeps reason).1) rfl
  | deferBag => exact .of_eq (State.notice_work _ r.number fun _ => rfl) rfl
  | commitStray => exact .after (.commit _ k r _) (.of_eq rfl rfl)
  | commitDeck tag cabin deck => exact .after (.commit _ k r _) (.of_eq rfl rfl)

theorem State.Watches.takeArmPoint (s : State) (n : Count) (k : OutletNo) : s.Watches (s.takeArmPoint n k) := by
  unfold State.takeArmPoint
  dsimp only
  repeat' split
  · exact .of_eq rfl rfl
  · exact .after (.evaluate ..) (.of_eq rfl rfl)
  · exact .of_eq rfl rfl
  · exact .refl s
  · exact .refl s

theorem State.Watches.exitBlocked (s : State) (k : OutletNo) : s.Watches (s.exitBlocked k) := by
  unfold State.exitBlocked
  split
  · exact .standbyTest ..
  · exact .of_eq rfl rfl

/-! ### The belt (chapter 1) -/

theorem State.Watches.takePoint (s : State) (p : Point) : s.Watches (s.takePoint p) := by
  cases p with
  | span n => exact .of_eq (s.takeSpanPoint_work n) (congrArg HallLine.queue (s.takeSpanPoint_hlc n))
  | windowEnd n => exact .takeWindowEnd s n
  | expiry node bag => exact .takeExpiry s node bag
  | close n => exact .of_eq (s.takeClosePoint_work n) (congrArg HallLine.queue (s.takeClosePoint_hlc n))
  | arm n k => exact .takeArmPoint s n k
  | fire n => exact .takeFirePoint s n
  | deadline n => exact .takeDeadline s n

/-- R7: every point of a pulse is taken with the blocks linked. -/
theorem State.foldl_takePoint_wary (ps : List Point) (hlinked : s.linked) (hs : s.Wary) :
    (ps.foldl State.takePoint s).Wary := by
  induction ps generalizing s with
  | nil => exact hs
  | cons p ps ih => exact ih ((State.Tracks.takePoint s p).linked hlinked) ((State.Watches.takePoint s p).wary hlinked hs)

/-! ### The Hall Line Controller (chapter 8) -/

/-- R175: an entry goes on the line and stays in the queue. -/
theorem State.Watches.startAttempt (s : State) : s.Watches s.startAttempt := by
  unfold State.startAttempt
  refine .ite fun _ => .retains (.of_work rfl fun hqueue => ?_)
  simp only [State.onHlc_hlc, HallLine.startAttempt]
  split
  · exact hqueue
  · exact List.cons_ne_nil _ _

theorem State.Watches.endAttempt (e : HallEvent) (s : State) : s.Watches (State.endAttempt e s) := by
  unfold State.endAttempt
  split
  · exact .standbyTest ..
  · exact .refl s

theorem State.Retains.takeFault (s : State) : s.Retains s.takeFault := by
  refine .of_eq rfl ?_
  unfold State.takeFault
  split
  · exact HallLine.rescore_queue (scoreUp 1) _
  · rfl

theorem State.Retains.rejoin (s : State) : s.Retains s.rejoin := by
  have hhello : s.Retains (s.onHlc HallLine.rejoin).queueHello :=
    .of_work rfl fun hqueue => HallLine.enqueue_queue_ne_nil (h := s.hlc.rejoin) hqueue _
  unfold State.rejoin
  dsimp only
  split
  · exact hhello.trans (.of_sends (.queueOutletStates _) (State.queueOutletStates_work _))
  · exact hhello

theorem State.Watches.takeIdleGap (s : State) : s.Watches s.takeIdleGap := by
  unfold State.takeIdleGap
  refine .ite fun _ => ?_
  repeat' split
  · exact .standbyTest ..
  · exact .retains (.rejoin s)
  · exact .of_eq rfl rfl
  · exact .refl s

/-- R173: a telegram taken, or one in CONFIG-FAULT, leaves the queue as it is. -/
theorem State.Retains.takeTelegram (s : State) (rx : Rx) : s.Retains (s.takeTelegram rx) :=
  .of_eq rfl (HallLine.rescore_queue (scoreDown 1) _)

theorem State.Retains.discard (s : State) (j : Judgement) : s.Retains (s.discard j) :=
  .of_eq (s.discard_work j) (by cases j <;> rfl)

theorem State.Retains.takeDiscarded (s : State) (cls : Byte) (rx : Rx) (p : List Byte) :
    s.Retains (s.takeDiscarded cls rx p) := by
  unfold State.takeDiscarded
  repeat' split
  · exact .refl s
  · exact .of_eq rfl rfl
  · exact .refl s
  · exact .trans (.takeTelegram s rx) (.discard _ _)

theorem State.Watches.receive {owner : State → State} (h : ∀ u : State, u.Watches (owner u)) (s : State) (cls : Byte)
    (rx : Rx) (p : List Byte) : s.Watches (s.receive cls rx p owner) := by
  unfold State.receive
  split
  · exact .refl s
  · exact .of_eq rfl rfl
  · split
    · exact .after (h _) (.takeTelegram s rx)
    · exact .retains (.trans (.takeTelegram s rx) (.discard _ _))

end

/-! ## The commands -/

section
variable {s : State}

/-- The outcome of a command that leaves no quiet node in STANDBY-PENDING. -/
def outcomeWary (s : State) (o : Host.Outcome State Fault Refusal) : Prop :=
  ∃ t, o = .next t ∧ (s.linked → s.Wary → t.Wary)

theorem wary_watches {t : State} (h : s.Watches t) : outcomeWary s (.next t) := ⟨t, rfl, h.wary⟩

theorem wary_ite {t : State} {p : Prop} [Decidable p] (h : p → s.Watches t) : outcomeWary s (.next (if p then t else s)) :=
  wary_watches (.ite h)

/-- A command that leaves the work alone and at most queues telegrams. -/
theorem wary_sends {t : State} {p : Prop} [Decidable p] (hsends : s.Sends t) (hwork : t.work = s.work) :
    outcomeWary s (.next (if p then t else s)) := wary_ite fun _ => .retains (.of_sends hsends hwork)

/-- The samples of a command, and the effect of their event. -/
theorem wary_sampled {σ ε : Type} {r : Option (σ × Option ε)} {store : σ → State → State} {act : ε → State → State}
    {p : Prop} [Decidable p] (hwork : ∀ f, (store f s).work = s.work) (hqueue : ∀ f, (store f s).hlc.queue = s.hlc.queue)
    (hact : ∀ e (u : State), u.Watches (act e u)) : outcomeWary s (.next (if p then s.heard r store act else s)) := by
  refine wary_ite fun _ => ?_
  rcases s.heard_cases r store act with ⟨-, he⟩ | ⟨f, -, he⟩ | ⟨f, e, -, he⟩ <;> rw [he]
  · exact .refl s
  · exact .of_eq (hwork f) (hqueue f)
  · exact .after (hact e _) (.of_eq (hwork f) (hqueue f))

theorem wary_receive {owner : State → State} {cls : Byte} {rx : Rx} {p : List Byte} (h : ∀ u : State, u.Watches (owner u)) :
    outcomeWary s (.next (s.receive cls rx p owner)) := wary_watches (.receive h s cls rx p)

/-- The owner of a telegram that leaves the work alone and at most queues telegrams. -/
theorem wary_owner {owner : State → State} {cls : Byte} {rx : Rx} {p : List Byte} (hsends : ∀ u : State, u.Sends (owner u))
    (hwork : ∀ u : State, (owner u).work = u.work) : outcomeWary s (.next (s.receive cls rx p owner)) :=
  wary_receive fun u => .retains (.of_sends (hsends u) (hwork u))

/-- R87, R88, R165, R188: power comes, START ends, and power goes, outside STANDBY-PENDING. -/
theorem wary_powerOn (s : State) : outcomeWary s (exec .powerOn s) := by
  refine wary_watches ?_
  split
  · exact .refl s
  · refine .retains (.of_state fun h => ?_)
    unfold State.finishPendingPurge at h
    split at h <;> cases h

theorem wary_startComplete (s : State) (straps : BitVec 6) (image : List Byte) :
    outcomeWary s (exec (.startComplete straps image) s) := by
  refine wary_ite fun _ => .retains (.of_state ?_)
  split <;> exact fun h => NodeState.noConfusion h

theorem exec_wary (c : Instr) (s : State) : outcomeWary s (exec c s) := by
  cases c with
  | powerOn => exact wary_powerOn s
  | startComplete straps image => exact wary_startComplete s straps image
  | powerLoss => exact wary_ite fun _ => .retains (.of_state fun h => NodeState.noConfusion h)
  | retentionLow =>
    refine wary_watches ?_
    split <;> exact .of_eq rfl rfl
  | encoderPulse =>
    refine ⟨_, rfl, fun hlinked hs => ?_⟩
    split
    · exact State.foldl_takePoint_wary (s := s.onSt SectionTracker.advance) _ hlinked hs
    · exact hs
  | speedWindowEnd => exact wary_ite fun _ => .of_eq rfl rfl
  | inductionBlockedEdge samples => exact wary_sampled (fun _ => rfl) (fun _ => rfl) fun _ => .inductionBlocked
  | inductionClearedEdge samples => exact wary_sampled (fun _ => rfl) (fun _ => rfl) fun _ => .inductionCleared
  | handoffEyeBlockedEdge samples => exact wary_sampled (fun _ => rfl) (fun _ => rfl) fun _ => .handoffBlocked
  | exitEyeBlockedEdge k samples => exact wary_sampled (fun _ => rfl) (fun _ => rfl) fun _ u => .exitBlocked u k
  | actuatorFaultChange k samples =>
    exact wary_sampled (fun _ => rfl) (fun _ => rfl) fun e u =>
      .retains (.of_sends (.after (.rederive _ k false) rfl) (u.followFault_work k e.level))
  | framingError line => exact wary_sampled (fun _ => rfl) (fun _ => rfl) fun _ _ => .of_eq rfl rfl
  | readerBreak line =>
    exact wary_sampled (fun _ => rfl) (fun _ => rfl) fun _ u => .of_eq u.takeBreak_work (congrArg HallLine.queue u.takeBreak_hlc)
  | report line =>
    exact wary_sampled (fun _ => rfl) (fun _ => rfl) fun e u =>
      .of_eq (u.takeCharacter_work e) (congrArg HallLine.queue (u.takeCharacter_hlc e))
  | characterReceived line =>
    exact wary_sampled (fun _ => rfl) (fun _ => rfl) fun e u =>
      .of_eq (u.takeCharacter_work e) (congrArg HallLine.queue (u.takeCharacter_hlc e))
  | rateMeasurement line =>
    exact wary_sampled (fun _ => rfl) (fun _ => rfl) fun e u =>
      .of_eq (u.takeRate_work e) (congrArg HallLine.queue (u.takeRate_hlc e))
  | rateOverflow line =>
    exact wary_sampled (fun _ => rfl) (fun _ => rfl) fun e u =>
      .of_eq (u.takeRate_work e) (congrArg HallLine.queue (u.takeRate_hlc e))
  | spanPoint n => exact wary_ite fun _ => .takePoint s (.span n)
  | windowEndPoint n => exact wary_ite fun _ => .takePoint s (.windowEnd n)
  | expiryPoint node bag => exact wary_ite fun _ => .takePoint s (.expiry node bag)
  | closePoint n => exact wary_ite fun _ => .takePoint s (.close n)
  | armPoint n k => exact wary_ite fun _ => .takePoint s (.arm n k)
  | firePoint n => exact wary_ite fun _ => .takePoint s (.fire n)
  | deadlinePoint n => exact wary_ite fun _ => .takePoint s (.deadline n)
  | strokeTimerExpiry k => exact wary_ite fun _ => .standbyTest ..
  | gaugeConversionEnd codes =>
    refine wary_watches ?_
    split
    · exact .ite fun _ => .retains (.of_sends (.after (.rederive _ _ _) rfl) (s.takeConversions_work _ codes))
    · exact .refl s
  | gaugePassStart => exact wary_ite fun _ => .of_eq rfl rfl
  | refreshTimerExpiry => exact wary_sends (.queueOutletStates s) s.queueOutletStates_work
  | viewExpiry peer deck time => exact wary_ite fun _ => .of_eq rfl rfl
  | claimWindowEnd sequence =>
    refine wary_ite fun _ => ?_
    dsimp only
    split <;> exact .of_eq rfl rfl
  | joinTimerExpiry => exact wary_ite fun _ => .retains (.of_state fun h => NodeState.noConfusion h)
  | sweepExamination =>
    refine wary_watches ?_
    split
    · exact .ite fun _ => .retains (.of_sends (.examineNext s _) (s.examineNext_work _))
    · exact .refl s
  | purgeComplete => exact wary_sends (.completePurge s) s.completePurge_work
  | attemptStart line =>
    refine wary_ite fun _ => ?_
    split
    · exact .refl s
    · exact .after (.startAttempt _) (.of_eq rfl rfl)
  | attemptEnd line => exact wary_sampled (fun _ => rfl) (fun _ => rfl) .endAttempt
  | receiveError line => exact wary_sampled (fun _ => rfl) (fun _ => rfl) fun _ u => .retains (.takeFault u)
  | detachment line => exact wary_sampled (fun _ => rfl) (fun _ => rfl) fun _ => .takeIdleGap
  | rejoin line => exact wary_sampled (fun _ => rfl) (fun _ => rfl) fun _ => .takeIdleGap
  | idleGap line => exact wary_sampled (fun _ => rfl) (fun _ => rfl) fun _ => .takeIdleGap
  | telegramDiscarded cls rx p => exact wary_watches (.retains (.takeDiscarded s cls rx p))
  | handoff rx p => exact wary_receive fun u => .after (.takeHandoff ..) (.wakeIfAddressed u rx)
  | manifest rx p => exact wary_owner (fun u => .takeManifestTelegram u _) fun u => u.takeManifestTelegram_work _
  | manifestWithdraw rx p => exact wary_owner (fun u => .takeManifestTelegram u _) fun u => u.takeManifestTelegram_work _
  | deckMap rx p => exact wary_owner (fun u => .takeManifestTelegram u _) fun u => u.takeManifestTelegram_work _
  | delivered rx p => exact wary_receive fun _ => .of_eq rfl rfl
  | purge rx p => exact wary_owner .takePurge State.takePurge_work
  | outletState rx p => exact wary_receive fun _ => .of_eq rfl rfl
  | deckClose rx p => exact wary_owner (fun u => .takeDeckClose u _) fun u => u.takeDeckClose_work _
  | deckOpen rx p => exact wary_owner (fun u => .takeDeckOpen u _) fun u => u.takeDeckOpen_work _
  | outletRestore rx p =>
    exact wary_receive fun u =>
      .retains (.trans (.wakeIfAddressed u rx) (.of_sends (.takeRestore _ rx _) (State.takeRestore_work ..)))
  | strayCall rx p => exact wary_owner (fun u => .takeCall u ..) fun u => u.takeCall_work ..
  | claim rx p =>
    exact wary_receive fun u => .after (.of_eq (State.takeClaim_work ..) (congrArg HallLine.queue (State.takeClaim_hlc ..)))
      (.wakeIfAddressed u rx)
  | lost rx p => exact wary_owner (fun u => .of_eq (u.takeLost_hlc _)) fun u => u.takeLost_work _
  | misplaced rx p => exact wary_owner (fun u => .of_eq (u.takeMisplaced_hlc ..)) fun u => u.takeMisplaced_work ..
  | reset rx p => exact wary_receive fun u => .retains (.takeReset u)
  | standby rx p => exact wary_receive .takeStandby
  | wake rx p => exact wary_receive fun u => .retains (.takeWake u)
  | hello rx p => exact wary_receive fun _ => .of_eq rfl rfl
  | identity rx a => exact wary_receive fun u => .retains (.takeQuery u ..)
  | outlet rx a => exact wary_receive fun u => .retains (.takeQuery u ..)
  | tag rx a => exact wary_receive fun u => .retains (.takeQuery u ..)
  | cabin rx a => exact wary_receive fun u => .retains (.takeQuery u ..)
  | counters rx a => exact wary_receive fun u => .retains (.takeQuery u ..)
  | strayLog rx a => exact wary_receive fun u => .retains (.takeLogQuery u ..)
  | map rx a => exact wary_receive fun u => .retains (.takeMapQuery u ..)
  | queryKindUnknown rx kind a =>
    refine wary_watches ?_
    unfold State.takeUnknownKind
    split
    · exact .refl s
    · exact .receive (fun u => .retains (.takeQuery u ..)) ..

end

end Sys2Proof.Machine

open Sys2Proof.Machine

/-- Settles O20: an operation that ends a record, an expectation, a commitment, a stroke or a telegram makes the standby test, but for
the dropping of ARMED commitments, whose records stay; every other operation leaves the work that there was. -/
theorem standbyEnteredWhenQuiet : Obligations.StandbyEnteredWhenQuiet := by
  unfold Obligations.StandbyEnteredWhenQuiet
  exact fun s t _ hlinked hs hstep =>
    step_of_exec (P := fun s t => s.linked → s.Wary → t.Wary) (fun _ _ => id)
      (fun c cs s => exec_wary c { s with pending := cs }) hstep hlinked hs

end

section
/-! SUPPORT. START (R188): a powered node in START does not run and does not read the line, so that only the end of START and the
loss of main power find anything to do. -/

open Sys2Proof

namespace Sys2Proof.Machine

section
variable {s : State}

/-- A command behind a guard that a node which does not run never passes. -/
theorem next_unguarded {t : State} {p : Prop} [Decidable p] (hidle : s.running = false) (hp : p → s.running = true) :
    (.next (if p then t else s) : Host.Outcome State Fault Refusal) = .next s := by
  rw [if_neg fun h => Bool.false_ne_true (hidle.symm.trans (hp h))]

/-- R184: in START the line is not read. -/
theorem State.readsLine_start (hstart : s.nc.state = .start) : s.readsLine = false := by
  unfold State.readsLine State.running
  rw [hstart]
  rfl

theorem next_unread {t : State} (hstart : s.nc.state = .start) :
    (.next (if s.readsLine = true then t else s) : Host.Outcome State Fault Refusal) = .next s := by
  rw [if_neg (by rw [State.readsLine_start hstart]; exact Bool.false_ne_true)]

/-- R188: in START no telegram is taken. -/
theorem next_receive_start (hstart : s.nc.state = .start) (cls : Byte) (rx : Rx) (p : List Byte) (owner : State → State) :
    (.next (s.receive cls rx p owner) : Host.Outcome State Fault Refusal) = .next s := by
  unfold State.receive
  rw [hstart]

theorem exec_start (c : Instr) (hpower : s.nc.powered = true) (hstart : s.nc.state = .start)
    (hend : ∀ straps image, c ≠ .startComplete straps image) (hloss : c ≠ .powerLoss) : exec c s = .next s := by
  have hidle : s.running = false := by rw [State.running, hstart]; rfl
  have hunguarded := fun {p : Prop} [Decidable p] {t : State} => next_unguarded (t := t) (p := p) hidle
  have hunread := fun {t : State} => next_unread (t := t) hstart
  have huntaken := next_receive_start hstart
  cases c with
  | powerOn => exact congrArg Host.Outcome.next (if_pos hpower)
  | startComplete straps image => exact absurd rfl (hend straps image)
  | powerLoss => exact absurd rfl hloss
  | retentionLow => exact congrArg Host.Outcome.next (if_pos hpower)
  | encoderPulse | speedWindowEnd | inductionBlockedEdge | inductionClearedEdge | handoffEyeBlockedEdge | spanPoint
  | windowEndPoint | expiryPoint | closePoint | armPoint | firePoint | deadlinePoint | attemptEnd => exact hunguarded id
  | exitEyeBlockedEdge | actuatorFaultChange | strokeTimerExpiry | refreshTimerExpiry | viewExpiry | claimWindowEnd
  | purgeComplete => exact hunguarded Bool.and_elim_left
  | framingError | readerBreak | report | characterReceived => exact hunguarded s.running_of_readerRuns
  | rateMeasurement | rateOverflow => exact hunguarded s.running_of_readerMeasures
  | gaugeConversionEnd codes =>
    change execGaugeConversionEnd codes s = .next s
    unfold execGaugeConversionEnd
    split
    · exact hunguarded Bool.and_elim_left
    · rfl
  | gaugePassStart => exact hunguarded fun h => Bool.and_elim_left (Bool.and_elim_left h)
  | joinTimerExpiry => exact hunguarded fun ⟨hjoining, _⟩ => congrArg NodeState.running hjoining
  | sweepExamination =>
    change execSweepExamination s = .next s
    unfold execSweepExamination
    split
    · exact hunguarded id
    · rfl
  | attemptStart | receiveError | detachment | rejoin | idleGap => exact hunread
  | telegramDiscarded cls rx p =>
    change Host.Outcome.next (s.takeDiscarded cls rx p) = .next s
    unfold State.takeDiscarded
    rw [hstart]
  | handoff | manifest | manifestWithdraw | deckMap | delivered | purge | outletState | deckClose | deckOpen
  | outletRestore | strayCall | claim | lost | misplaced | reset | standby | wake | hello | identity | outlet | tag
  | cabin | counters | strayLog | map => exact huntaken ..
  | queryKindUnknown rx kind a =>
    change Host.Outcome.next (s.takeUnknownKind rx kind a) = .next s
    unfold State.takeUnknownKind
    split
    · rfl
    · exact huntaken ..

end

end Sys2Proof.Machine

open Sys2Proof.Machine

/-- Settles O4: every command but the two excepted waits for a running node, for a node that reads the line, or for main power. -/
theorem startTakesNothing : Obligations.StartTakesNothing := by
  unfold Obligations.StartTakesNothing
  exact fun c s hpower hstart hend hloss => exec_start c hpower hstart hend hloss

end

section
/-! SUPPORT. The join timer (R190) and RESET (R195): the records that end at once with their windows, the node once its blocks have
acted, and the queue of the node that joins anew. -/

open Sys2Proof

namespace Sys2Proof.Machine

/-! ## Records that end together (R39, R43) -/

section
variable {s : State}

/-- R38, R39, R113: the node with these orphaned notices, windows, arm points and commitments. -/
def State.leftWith (s : State) (notices : Counter) (ws : List ScanWindow) (ps : List ArmPoint) (cs : List Commitment) : State :=
  { s with
    st := { s.st with counters := { s.st.counters with orphanedNotices := notices } }
    trp := { s.trp with windows := ws }
    dc := { s.dc with commitments := cs, armPoints := ps } }

/-- R39: the ending of a record that has left the list. -/
theorem State.endRecord_eq {n : Count} (h : s.st.record n = none) :
    s.endRecord n = s.leftWith
      (if (s.trp.window n).isSome then s.st.counters.orphanedNotices + 1 else s.st.counters.orphanedNotices)
      (s.trp.windows.filter fun w => w.record != n) (s.dc.forget n).armPoints (s.dc.forget n).commitments := by
  obtain ⟨hms, hom, hsu, hhlc, hnc, hconfig, hinputs, hpending⟩ := s.endRecord_frame n
  exact (State.mk.injEq ..).mpr ⟨hpending, hconfig, hinputs, State.endRecord_st h, s.endRecord_trp n, hms, s.endRecord_dc n, hom,
    hsu, hhlc, hnc⟩

/-- R38: the orphaned notices once every open window has closed without its record. -/
def State.noticesDue (s : State) : Counter := s.st.counters.orphanedNotices + BitVec.ofNat 32 s.trp.windows.length

/-- R54: where no two windows are of one record, a list loses one by a record that has one. -/
theorem TagReadPort.length_windows {t : TagReadPort} (hnodup : (t.windows.map ScanWindow.record).Nodup) (n : Count) :
    t.windows.length = (t.windows.filter fun w => w.record != n).length + if (t.window n).isSome then 1 else 0 := by
  have hfilter : (t.windows.filter fun w => w.record != n).length = ((t.windows.map ScanWindow.record).erase n).length := by
    rw [hnodup.erase_eq_filter, List.filter_map, List.length_map]
    rfl
  have hmem : (t.window n).isSome = true ↔ n ∈ t.windows.map ScanWindow.record := by
    simp [TagReadPort.window, List.find?_isSome]
  rw [hfilter, List.length_erase, List.length_map]
  by_cases h : n ∈ t.windows.map ScanWindow.record
  · have hpos := List.length_pos_of_mem h
    rw [List.length_map] at hpos
    rw [if_pos h, if_pos (hmem.mpr h)]
    omega
  · rw [if_neg h, if_neg (mt hmem.mp h), Nat.add_zero]

/-- R38, R39: a window that closes is one notice more and one window fewer. -/
theorem State.endRecord_noticesDue {n : Count} (h : s.st.record n = none) (hnodup : (s.trp.windows.map ScanWindow.record).Nodup) :
    (s.endRecord n).noticesDue = s.noticesDue := by
  simp only [State.noticesDue, State.endRecord_eq h, State.leftWith]
  rw [TagReadPort.length_windows hnodup n]
  cases (s.trp.window n).isSome
  · rfl
  · simp only [if_true]
    rw [BitVec.ofNat_add, add_assoc, add_comm (1 : Counter)]
    rfl

/-- R39, R43: records end one after another, all having left the list of the ST. -/
theorem foldl_endRecord_eq (l : List BagRecord) (hempty : s.st.records = []) (hnodup : (s.trp.windows.map ScanWindow.record).Nodup) :
    ∃ k ws ps cs, l.foldl (fun s r => s.endRecord r.number) s = s.leftWith k ws ps cs
      ∧ (s.leftWith k ws ps cs).noticesDue = s.noticesDue := by
  induction l generalizing s with
  | nil => exact ⟨_, _, _, _, rfl, rfl⟩
  | cons r l ih =>
    have hnone : s.st.record r.number = none := by simp [SectionTracker.record, hempty]
    have hdue := State.endRecord_noticesDue hnone hnodup
    have hend := State.endRecord_eq hnone
    obtain ⟨k, ws, ps, cs, heq, hrest⟩ := ih (s := s.endRecord r.number) (by rw [hend]; exact hempty)
      (by rw [hend]; exact hnodup.sublist (List.filter_sublist.map _))
    have hsame : (s.endRecord r.number).leftWith k ws ps cs = s.leftWith k ws ps cs := by rw [hend]; rfl
    exact ⟨k, ws, ps, cs, heq.trans hsame, hsame ▸ hrest.trans hdue⟩

/-! ## RESET, block by block (R11, R43, R61, R115, R185) -/

/-- R195: the node once its blocks have acted on a RESET. -/
def State.blocksReset (s : State) : State :=
  { s with
    st := { s.st with
      records := [], expectations := [], passage := .none, feedHold := false, windowCount := 0, speed := 0
      overrange := false
      counters := { s.st.counters with
        abandoned := s.st.counters.abandoned + BitVec.ofNat 32 s.st.records.length
        orphanedNotices := s.st.counters.orphanedNotices + BitVec.ofNat 32 s.trp.windows.length } }
    trp := { s.trp with windows := [] }
    dc := { s.dc with commitments := [], armPoints := [], strokes := ⟨none, none, none, none⟩ }
    om := { s.om with view := [] }
    hlc := s.hlc.clearAtReset }

/-- R54: where the blocks are linked, every window closes with its record. -/
theorem State.abandon_windows (hlinked : s.linked) : s.abandon.trp.windows = [] := by
  obtain ⟨-, -, hheld, -⟩ := hlinked
  have htracking : s.abandon.tracking.windows = _ :=
    congrArg Tracking.windows (foldl_endRecord_tracking s.st.records (u := s.onSt SectionTracker.abandonAll) rfl)
  refine List.map_eq_nil_iff.mp (htracking.trans (List.filter_eq_nil_iff.mpr fun n hn => ?_))
  obtain ⟨w, hw, rfl⟩ := List.mem_map.mp hn
  simpa using hheld w hw

theorem State.resetBlocks_eq (hlinked : s.linked) : s.resetBlocks = s.blocksReset := by
  have hwindows := State.abandon_windows hlinked
  obtain ⟨hnodup, -⟩ := hlinked
  obtain ⟨k, ws, ps, cs, heq, hdue⟩ := foldl_endRecord_eq (s := s.onSt SectionTracker.abandonAll) s.st.records rfl hnodup
  have habandon : s.abandon = (s.onSt SectionTracker.abandonAll).leftWith k ws ps cs := heq
  rw [habandon] at hwindows
  obtain rfl : ws = [] := hwindows
  obtain rfl : k = s.st.counters.orphanedNotices + BitVec.ofNat 32 s.trp.windows.length :=
    (BitVec.add_zero k).symm.trans hdue
  rw [State.resetBlocks, habandon]
  rfl

/-! ## The node that joins anew (R195) -/

/-- R190, R195: the node once it has rejoined the hall, with its HELLO and its round. -/
def State.rejoined (s : State) : State :=
  State.roundQueued { s.blocksReset with
    nc := { s.nc with
      state := .joining, joinTimer := some (s.config.joinSec * 1000)
      counters := { s.nc.counters with resets := s.nc.counters.resets + 1 } }
    hlc := s.hlc.clearAtReset.enqueue (s.helloIn .joining) }

theorem State.takeReset_eq (hlinked : s.linked) :
    s.takeReset = if s.nc.state = .standby then s.rejoined.startPass else s.rejoined := by
  have hjoined : s.blocksReset.rejoinHall = s.rejoined := by
    rw [State.rejoinHall, State.queueOutletStates_eq]
    rfl
  simp only [State.takeReset, State.resetBlocks_eq hlinked, hjoined]

/-- R185: a telegram taken on a line without an attempt of this node is over where the RESET finds it. -/
theorem LineWatch.withoutAttempt_afterTelegram {w : LineWatch} (h : ∀ read left, w ≠ .attempting read left)
    (check : BitVec 16) (confirmed : Bool) :
    (w.afterTelegram check confirmed).withoutAttempt = w.afterTelegram check confirmed := by
  cases w with
  | between idle run => rfl
  | receiving bytes bits => rfl
  | attempting read left => exact absurd rfl (h read left)

/-! ## The queue of a node that joins anew (R135, R174, R176) -/

theorem insertByUrgency_before_last {q : List SendEntry} {e x : SendEntry} (hq : ∀ y ∈ q, y.urgency ≤ e.urgency)
    (hx : e.urgency < x.urgency) : insertByUrgency e (q ++ [x]) = q ++ [e, x] := by
  induction q with
  | nil => exact if_pos hx
  | cons y ys ih =>
    rw [List.forall_mem_cons] at hq
    rw [List.cons_append, insertByUrgency, if_neg (Nat.not_lt.mpr hq.1), ih hq.2]
    rfl

/-- A list of OUTLET-STATEs, no two for one deck. -/
def distinctStates (ts : List Telegram) : Prop :=
  (∀ t ∈ ts, t.body.urgency = 4) ∧ ts.Pairwise fun a b => b.body.supersedes a.body = false

/-- R174, R176: OUTLET-STATEs for different decks take their places one behind another and ahead of a HELLO. -/
theorem HallLine.foldl_enqueue_states {h : HallLine} {f : HelloFields} {n : Nat} {done ts : List Telegram} (hline : h.line ≠ .detached)
    (hstates : distinctStates (done ++ ts)) (hroom : (done ++ ts).length < 8)
    (hq : h.queue = done.map SendEntry.fresh ++ [SendEntry.fresh ⟨n, .hello f⟩]) :
    (ts.foldl (fun h t => h.enqueue t) h).queue =
      (done ++ ts).map SendEntry.fresh ++ [SendEntry.fresh ⟨n, .hello f⟩] := by
  induction ts generalizing h done with
  | nil => rw [List.append_nil]; exact hq
  | cons t ts ih =>
    obtain ⟨hurgency, hpairs⟩ := hstates
    have ht : t.body.urgency = 4 := hurgency t (by simp)
    have hnone : replaceWaiting t h.queue = none := replaceWaiting_of_none fun y hy => by
      rw [hq, List.mem_append, List.mem_map, List.mem_singleton] at hy
      rw [SendEntry.not_yieldsTo_iff]
      rcases hy with ⟨a, ha, rfl⟩ | rfl
      · exact .inr (List.pairwise_append.mp hpairs |>.2.2 a ha t (List.mem_cons_self ..))
      · refine .inr (Bool.eq_false_iff.mpr fun hs => ?_)
        cases (Body.urgency_of_supersedes hs).trans ht
    have hlength : h.queue.length < 8 := by
      rw [hq]
      simp only [List.length_append, List.length_map, List.length_cons, List.length_nil] at hroom ⊢
      omega
    have hjoined := HallLine.enqueue_joining hline hnone hlength
    have hplace : (h.enqueue t).queue = (done ++ [t]).map SendEntry.fresh ++ [SendEntry.fresh ⟨n, .hello f⟩] := by
      rw [hjoined, hq, insertByUrgency_before_last]
      · simp
      · intro y hy
        obtain ⟨a, ha, rfl⟩ := List.mem_map.mp hy
        exact ((hurgency a (List.mem_append_left _ ha)).trans ht.symm).le
      · exact ht.trans_lt (show 4 < 7 by decide)
    rw [List.foldl_cons, ih (done := done ++ [t]) (by rw [HallLine.enqueue_line]; exact hline)
      (by rw [List.append_assoc]; exact ⟨hurgency, hpairs⟩) (by rw [List.append_assoc]; exact hroom) hplace, List.append_assoc]
    rfl

/-- R134: the telegram of an outlet in a round. -/
theorem State.mem_outletRound {k : OutletNo} {t : Telegram}
    (h : t ∈ if (s.om.outlet k).firstPending then none
      else (s.config.outlet k).deckServed.map fun d =>
        (⟨0, .outletState d (s.om.outlet k).summary (s.om.outlet k).reading⟩ : Telegram)) :
    ∃ d, (s.config.outlet k).deckServed = some d
      ∧ t = ⟨0, .outletState d (s.om.outlet k).summary (s.om.outlet k).reading⟩ := by
  split at h
  · cases h
  · obtain ⟨d, hd, rfl⟩ := Option.map_eq_some_iff.mp h
    exact ⟨d, hd, rfl⟩

/-- R134, R176: the telegrams of a round are for different decks where the outlets serve different ones. -/
theorem State.outletRound_distinct (h : s.config.servedDecks.Nodup) : distinctStates s.outletRound := by
  refine ⟨fun t ht => ?_, ?_⟩
  · obtain ⟨k, -, hk⟩ := List.mem_filterMap.mp ht
    obtain ⟨d, -, rfl⟩ := State.mem_outletRound hk
    rfl
  · refine List.pairwise_filterMap.mpr ((List.pairwise_filterMap.mp h).imp fun {j k} hne a ha b hb => ?_)
    obtain ⟨d, hd, rfl⟩ := State.mem_outletRound ha
    obtain ⟨e, he, rfl⟩ := State.mem_outletRound hb
    exact beq_eq_false_iff_ne.mpr (hne d hd e he).symm

theorem State.outletRound_length (s : State) : s.outletRound.length ≤ 4 := List.length_filterMap_le ..

/-- R177: no telegram that joins is counted as cleared at a RESET. -/
@[simp] theorem HallLine.enqueue_clearedAtReset (t : Telegram) (h : HallLine) :
    (h.enqueue t).counters.clearedAtReset = h.counters.clearedAtReset := by
  unfold HallLine.enqueue
  repeat' split
  all_goals rfl

/-- R182: a telegram taken is counted as taken. -/
theorem State.takeTelegram_counters (s : State) (rx : Rx) :
    (s.takeTelegram rx).hlc.counters = { s.hlc.counters with taken := s.hlc.counters.taken + 1 } := by
  rw [State.takeTelegram, State.onHlc, HallLine.tally_counters, HallLine.rescore_counters]

/-- What every enqueueing leaves of the HLC, a round leaves. -/
theorem State.rejoined_hlc_keeps {β : Type} {g : HallLine → β} (hg : ∀ h t, g (HallLine.enqueue t h) = g h) (s : State) :
    g s.rejoined.hlc = g s.hlc.clearAtReset :=
  (foldl_keeps (f := fun h t => HallLine.enqueue t h) hg _ _).trans (hg s.hlc.clearAtReset (s.helloIn .joining))

/-- R135, R174, R191: the queue of a node that joins anew holds the round and, less urgent, the HELLO. -/
theorem State.rejoined_queue (h : s.config.servedDecks.Nodup) :
    s.rejoined.hlc.queue.map SendEntry.telegram = s.outletRound ++ [s.helloIn .joining] := by
  have hhello : (s.hlc.clearAtReset.enqueue (s.helloIn .joining)).queue = [SendEntry.fresh (s.helloIn .joining)] := rfl
  have hround := HallLine.foldl_enqueue_states (done := []) (ts := s.outletRound)
    (h := s.hlc.clearAtReset.enqueue (s.helloIn .joining)) (by simp [HallLine.clearAtReset])
    (State.outletRound_distinct h) (Nat.lt_of_le_of_lt s.outletRound_length (by decide)) hhello
  refine (congrArg (List.map SendEntry.telegram) hround).trans ?_
  simp [SendEntry.fresh, State.helloIn, Function.comp_def]

/-- R195: in STANDBY a RESET starts a pass too, which is all that it does beyond. -/
theorem State.takeReset_cases (hlinked : s.linked) :
    ∃ pass pace, s.takeReset = { s.rejoined with om := { s.rejoined.om with pass := pass, paceTimer := pace } }
      ∧ (s.nc.state ≠ .standby → pass = s.om.pass ∧ pace = s.om.paceTimer)
      ∧ (s.nc.state = .standby → pass = s.config.firstFitted) := by
  rw [State.takeReset_eq hlinked]
  split
  · exact ⟨_, _, rfl, fun h => absurd ‹_› h, fun _ => rfl⟩
  · exact ⟨_, _, rfl, fun _ => ⟨rfl, rfl⟩, fun h => absurd h ‹_›⟩

theorem exec_reset {rx : Rx} {p : List Byte} (h : s.delivers classReset rx p) :
    exec (.reset rx p) s = .next (s.takeTelegram rx).takeReset :=
  congrArg Host.Outcome.next (State.receive_of_delivers h _)

theorem exec_joinTimerExpiry {n : Nat} (hstate : s.nc.state = .joining) (htimer : s.nc.joinTimer = some n) :
    exec .joinTimerExpiry s = .next (s.onNc NodeControl.finishJoining) :=
  congrArg Host.Outcome.next (if_pos ⟨hstate, by rw [htimer]; rfl⟩)

theorem exec_joinTimerExpiry_idle (hstate : s.nc.state ≠ .joining) : exec .joinTimerExpiry s = .next s :=
  congrArg Host.Outcome.next (if_neg fun h => hstate h.1)

end

end Sys2Proof.Machine

open Sys2Proof.Machine

/-- Settles O47: the timer by its guard, and a RESET by the closed form of what each block does; taking the telegram of the RESET
changes none of what that form reads but the line, whose bits are over with the telegram. -/
theorem joinAndResetTaken : Obligations.JoinAndResetTaken := by
  unfold Obligations.JoinAndResetTaken
  refine ⟨fun s n => exec_joinTimerExpiry, fun s => exec_joinTimerExpiry_idle, fun s rx p hdelivers hlinked hdecks => ?_⟩
  obtain ⟨pass, pace, hreset, hother, hstandby⟩ := State.takeReset_cases (s := s.takeTelegram rx) hlinked
  have hwatch : (s.takeTelegram rx).rejoined.hlc.watch = (s.takeTelegram rx).hlc.watch.withoutAttempt :=
    State.rejoined_hlc_keeps (g := HallLine.watch) (fun h t => h.enqueue_watch t) _
  have htaken : (s.takeTelegram rx).hlc.watch = s.hlc.watch.afterTelegram rx.check (rx.confirmed || s.confirms rx) :=
    HallLine.rescore_watch _ _
  have hcleared : (s.takeTelegram rx).hlc.counters.clearedAtReset = s.hlc.counters.clearedAtReset :=
    (congrArg HlcCounters.clearedAtReset (s.takeTelegram_counters rx) :)
  have hqueue : (s.takeTelegram rx).hlc.queue = s.hlc.queue := HallLine.rescore_queue (scoreDown 1) _
  refine ⟨_, (exec_reset hdelivers).trans (congrArg Host.Outcome.next hreset), rfl, rfl, rfl, rfl, rfl, rfl, rfl, rfl, rfl, rfl, rfl,
    rfl, rfl, hother, hstandby, ?_, ?_, ?_, fun hnone => ?_, fun read left hattempt => ?_, ?_, ?_⟩
  · exact State.rejoined_hlc_keeps (g := HallLine.score) (fun h t => h.enqueue_score t) _
  · exact State.rejoined_hlc_keeps (g := HallLine.line) (fun h t => h.enqueue_line t) _
  · exact State.rejoined_hlc_keeps (g := HallLine.idleGaps) (fun h t => h.enqueue_idleGaps t) _
  · refine hwatch.trans ?_
    rw [htaken, LineWatch.withoutAttempt_afterTelegram hnone]
  · refine hwatch.trans ?_
    rw [htaken, hattempt]
    rfl
  · refine (State.rejoined_hlc_keeps (g := fun h => h.counters.clearedAtReset) (fun h t => h.enqueue_clearedAtReset t) _).trans ?_
    rw [← hcleared, ← hqueue]
    rfl
  · exact State.rejoined_queue (s := s.takeTelegram rx) hdecks

end

section
/-! SUPPORT. Queries (R194, R198 to R200): what the node does with a QUERY delivered to it, and what each query is answered. -/

open Sys2Proof

namespace Sys2Proof.Machine

section
variable {s u : State} {rx : Rx} {a : BitVec 40} {kind : Byte} {build : State → Answer} {c : Instr}

/-! ## A QUERY taken (R194, R198) -/

theorem State.takenAwake_of_broadcast (h : broadcast rx = true) : s.takenAwake rx = s.takeTelegram rx := by
  rw [← State.takenAwake_eq, State.wakeIfAddressed, if_pos h]

theorem State.takenAwake_of_addressed (h : broadcast rx = false) : s.takenAwake rx = (s.takeTelegram rx).wakeUp := by
  rw [← State.takenAwake_eq, State.wakeIfAddressed, if_neg (Bool.eq_false_iff.mp h)]

/-- R194: what the answers read and a waking leaves as it is. -/
theorem State.takenAwake_stores (s : State) (rx : Rx) :
    (s.takenAwake rx).config = s.config ∧ (s.takenAwake rx).ms = s.ms ∧ (s.takenAwake rx).su = s.su
      ∧ (s.takenAwake rx).nc.logMark = s.nc.logMark ∧ (s.takenAwake rx).nc.mapMark = s.nc.mapMark := by
  unfold State.takenAwake
  split <;> exact ⟨rfl, rfl, rfl, rfl, rfl⟩

/-- R198: a QUERY with destination 0 is counted and nothing more. -/
theorem State.takeQuery_of_broadcast (h : broadcast rx = true) :
    (s.takeTelegram rx).takeQuery rx kind build = { s.takenAwake rx with nc := { s.nc with
      counters := { s.nc.counters with queriesDiscarded := s.nc.counters.queriesDiscarded + 1 } } } := by
  rw [State.takeQuery, if_pos h, State.takenAwake_of_broadcast h]
  rfl

/-- R194, R198: an addressed QUERY is answered by the node once awake. -/
theorem State.takeQuery_of_addressed (h : broadcast rx = false) :
    (s.takeTelegram rx).takeQuery rx kind build = (s.takenAwake rx).replied rx ((build (s.takenAwake rx)).body kind)
      (decide (build (s.takenAwake rx) = .refused)) := by
  rw [State.takeQuery, if_neg (Bool.eq_false_iff.mp h), ← State.takenAwake_of_addressed h]
  simp [State.replied, State.reply, State.send, State.onHlc, State.onNc, NodeControl.countAnswer, NodeControl.tally]

/-- R198: the command brings this query, which Node Control takes and nothing else does. -/
def Instr.brings (c : Instr) (rx : Rx) (kind : Byte) (a : BitVec 40) (build : State → Answer) : Prop :=
  ∀ s, exec c s = .next (s.receive classQuery rx (kind :: argumentBytes a) fun s => s.takeQuery rx kind build)

theorem exec_query_of_broadcast (hc : Instr.brings c rx kind a build) (h : s.delivers classQuery rx (kind :: argumentBytes a))
    (hb : broadcast rx = true) : exec c s = .next { s.takenAwake rx with nc := { s.nc with
      counters := { s.nc.counters with queriesDiscarded := s.nc.counters.queriesDiscarded + 1 } } } := by
  rw [hc, State.receive_of_delivers h, State.takeQuery_of_broadcast hb]

theorem exec_query_of_addressed (hc : Instr.brings c rx kind a build) (h : s.delivers classQuery rx (kind :: argumentBytes a))
    (hb : broadcast rx = false) {answer : Answer} (hanswer : build (s.takenAwake rx) = answer) :
    exec c s = .next ((s.takenAwake rx).replied rx (answer.body kind) (decide (answer = .refused))) := by
  rw [hc, State.receive_of_delivers h, State.takeQuery_of_addressed hb, hanswer]

theorem identity_brings : Instr.brings (.identity rx a) rx 1 a fun s => .done (identityData s) := fun _ => rfl
theorem outlet_brings : Instr.brings (.outlet rx a) rx 3 a (outletAnswer (argumentLow a)) := fun _ => rfl
theorem tag_brings : Instr.brings (.tag rx a) rx 4 a (tagAnswer a.toNat) := fun _ => rfl
theorem cabin_brings : Instr.brings (.cabin rx a) rx 5 a (cabinAnswer (argumentCabin a)) := fun _ => rfl

theorem kindKnown_eq_false (h : 7 < kind.toNat ∨ kind = 0) : kindKnown kind = false := by
  rcases h with h | rfl
  · simp [kindKnown, inRange, h]
  · rfl

/-- R198: a QUERY of a kind outside the table. -/
theorem queryKindUnknown_brings (h : kindKnown kind = false) :
    Instr.brings (.queryKindUnknown rx kind a) rx kind a fun _ => .refused :=
  fun _ => congrArg Host.Outcome.next (if_neg (Bool.eq_false_iff.mp h))

/-! ## The argument (11.2) -/

theorem argumentLow_eq (a : BitVec 40) : argumentLow a = a.toNat % 256 := by
  simp [argumentLow, BitVec.extractLsb'_toNat]

theorem argumentHigh_eq (a : BitVec 40) : argumentHigh a = a.toNat / 256 % 256 := by
  simp [argumentHigh, BitVec.extractLsb'_toNat, Nat.shiftRight_eq_div_pow]

theorem argumentCabin_eq (a : BitVec 40) : argumentCabin a = a.toNat % 65536 := by
  simp [argumentCabin, BitVec.extractLsb'_toNat]

/-! ## The answers (R199, R200) -/

/-- R199: the bytes of an IDENTITY reply. -/
theorem identityData_eq (s : State) : identityData s =
    [0x47, 0xA1, 0x01, 0x54, 0x42, BitVec.ofNat 8 s.config.address, BitVec.ofNat 8 (nodeStateCode s.nc.state),
      BitVec.ofNat 8 (lineStateCode s.hlc.line), if s.ms.retentionLost then 1 else 0] ++ bytes2 s.config.digest.toNat := rfl

theorem outletAnswer_of_unfitted {n : Nat} (h : ∀ k : OutletNo, k.number = n → (s.config.outlet k).fitted = false) :
    outletAnswer n s = .refused := by
  have hnone : ((OutletNo.ofNat? n).filter fun k => (s.config.outlet k).fitted) = none :=
    Option.filter_eq_none_iff.mpr fun k hk => Bool.eq_false_iff.mp (h k (OutletNo.number_of_ofNat hk))
  simp [outletAnswer, hnone]

theorem outletAnswer_of_fitted {k : OutletNo} (h : (s.config.outlet k).fitted = true) :
    outletAnswer k.number s = .done (outletData s k) := by
  simp [outletAnswer, OutletNo.ofNat_number, Option.filter, h]

/-- R199, R204: the flags and the miss counter of an OUTLET reply. -/
def OutletRecord.flagBytes (o : OutletRecord) : List Byte :=
  [if o.firstPending then 1 else 0, if o.fullLatch then 1 else 0, if o.gaugeFault then 1 else 0,
    if o.actuatorFault then 1 else 0] ++ bytes4 (BitVec.ofNat 32 o.misses) ++ [if o.jam then 1 else 0]

/-- R199: the data for a STRAY outlet, without the counts of the view. -/
theorem outletData_of_stray {k : OutletNo} (h : (s.config.outlet k).role = .stray) : outletData s k =
    [0, BitVec.ofNat 8 (outletStateCode (s.om.outlet k).state), 0, BitVec.ofNat 8 (s.om.outlet k).reading]
      ++ (s.om.outlet k).flagBytes := by
  simp only [outletData, h]
  rfl

/-- R199: the data for a DECK outlet, with the counts of the view. -/
theorem outletData_of_deck {k : OutletNo} {d : Nat} (h : (s.config.outlet k).role = .deck d) : outletData s k =
    [BitVec.ofNat 8 d, BitVec.ofNat 8 (outletStateCode (s.om.outlet k).state),
        BitVec.ofNat 8 (summaryCode (s.om.outlet k).summary), BitVec.ofNat 8 (s.om.outlet k).reading]
      ++ (s.om.outlet k).flagBytes
      ++ [BitVec.ofNat 8 (s.om.view.filter fun e => e.deck == d).length,
        BitVec.ofNat 8 (s.om.view.filter fun e => e.deck == d && e.summary == .openLow && e.peer != s.config.address).length] := by
  simp only [outletData, viewCounts, h, List.countP_eq_length_filter]
  rfl

section
variable {n : Nat}

theorem tagAnswer_of_purge (h : s.ms.purgeRunning = true) : tagAnswer n s = .busy := if_pos h

theorem cabinAnswer_of_purge (h : s.ms.purgeRunning = true) : cabinAnswer n s = .busy := if_pos h

theorem tagAnswer_of_outside (h : s.ms.purgeRunning = false) (hn : n = 0 ∨ Config.maxTag < n) : tagAnswer n s = .refused := by
  rw [tagAnswer, if_neg (Bool.eq_false_iff.mp h), if_pos hn]

theorem cabinAnswer_of_outside (h : s.ms.purgeRunning = false) (hn : n = 0 ∨ Config.maxCabin < n) : cabinAnswer n s = .refused := by
  rw [cabinAnswer, if_neg (Bool.eq_false_iff.mp h), if_pos hn]

/-- R200: a tag in its range is looked up in the table. -/
theorem tagAnswer_eq (h : s.ms.purgeRunning = false) (hlow : 1 ≤ n) (hhigh : n ≤ 9999999999) :
    tagAnswer n s = ((s.ms.entry n).elim .notFound fun e => .done (tagData s.ms e)) := by
  have hrange : ¬(n = 0 ∨ Config.maxTag < n) := not_or.mpr ⟨Nat.ne_of_gt hlow, Nat.not_lt.mpr hhigh⟩
  rw [tagAnswer, if_neg (Bool.eq_false_iff.mp h), if_neg hrange]
  cases s.ms.entry n <;> rfl

/-- R200: a cabin in its range is looked up among the cabin records. -/
theorem cabinAnswer_eq (h : s.ms.purgeRunning = false) (hlow : 1 ≤ n) (hhigh : n ≤ 32767) :
    cabinAnswer n s = ((s.ms.cabin n).elim .notFound fun r => .done (cabinData s.ms r)) := by
  have hrange : ¬(n = 0 ∨ Config.maxCabin < n) := not_or.mpr ⟨Nat.ne_of_gt hlow, Nat.not_lt.mpr hhigh⟩
  rw [cabinAnswer, if_neg (Bool.eq_false_iff.mp h), if_neg hrange]
  cases s.ms.cabin n <;> rfl

end

/-- R200: the bytes of a TAG reply. -/
theorem tagData_eq (m : ManifestStore) (e : TagEntry) : tagData m e =
    bytes5 e.tag ++ bytes2 e.cabin ++ [BitVec.ofNat 8 e.pieces, if e.oversize then 1 else 0,
        if e.placement = .placed then 1 else 2] ++ markBytes e.mark
      ++ [if e.strayed then 1 else 0, BitVec.ofNat 8 (lookupCode (lookupCabin m.map e.cabin))] := by
  cases h : e.placement <;> simp [tagData, h, bytes1, bytesFlag, placementCode]

/-- R200: the bytes of a CABIN reply. -/
theorem cabinData_eq (m : ManifestStore) (r : CabinRecord) : cabinData m r =
    bytes2 r.cabin ++ [BitVec.ofNat 8 r.expected, BitVec.ofNat 8 r.delivered, if r.delivered = r.expected then 2 else 1,
      BitVec.ofNat 8 (m.entriesOf r.cabin).length, BitVec.ofNat 8 ((m.entriesOf r.cabin).filter fun e => e.strayed).length,
      BitVec.ofNat 8 (lookupCode (lookupCabin m.map r.cabin))] := by
  by_cases h : r.delivered = r.expected <;>
    simp [cabinData, h, bytes1, cabinStateCode, CabinRecord.complete, List.countP_eq_length_filter]

end

end Sys2Proof.Machine

open Sys2Proof.Machine

/-- Settles O57: each command brings its query to Node Control, which discards it or answers it once the node is awake; the answer is
then the value of the query's own function. -/
theorem queriesAnswered : Obligations.QueriesAnswered := by
  unfold Obligations.QueriesAnswered
  rintro s u rx a kind hkind hdelivers rfl
  obtain ⟨hconfig, hms, -, -, -⟩ := s.takenAwake_stores rx
  have hunknown := queryKindUnknown_brings (rx := rx) (a := a) (kindKnown_eq_false hkind)
  simp only [List.forall_mem_cons] at hdelivers
  obtain ⟨hidentity, houtlet, htag, hcabin, hother, -⟩ := hdelivers
  refine ⟨fun hb => ?_, fun hb => ⟨?_, ?_, fun hnone => ?_, ?_, fun hpurge => ⟨?_, ?_⟩, fun hpurge =>
    ⟨fun hout => ?_, fun hlow hhigh => ⟨fun hnone => ?_, fun e he => ?_⟩,
      fun hout => ?_, fun hlow hhigh => ⟨fun hnone => ?_, fun r hr => ?_⟩⟩⟩⟩
  · simp only [List.forall_mem_cons]
    exact ⟨exec_query_of_broadcast identity_brings hidentity hb, exec_query_of_broadcast outlet_brings houtlet hb,
      exec_query_of_broadcast tag_brings htag hb, exec_query_of_broadcast cabin_brings hcabin hb,
      exec_query_of_broadcast hunknown hother hb, fun c hc => absurd hc List.not_mem_nil⟩
  · refine (exec_query_of_addressed identity_brings hidentity hb rfl).trans ?_
    rw [identityData_eq, hconfig, hms]
    rfl
  · exact exec_query_of_addressed hunknown hother hb rfl
  · refine exec_query_of_addressed outlet_brings houtlet hb (answer := .refused) (outletAnswer_of_unfitted ?_)
    rwa [argumentLow_eq, hconfig]
  · rintro k o flags hk hfitted rfl rfl
    have hdone := exec_query_of_addressed outlet_brings houtlet hb (answer := .done (outletData (s.takenAwake rx) k)) <| by
      rw [argumentLow_eq, ← hk, outletAnswer_of_fitted (by rwa [hconfig])]
    refine ⟨fun hrole => hdone.trans ?_, fun d hrole => hdone.trans ?_⟩
    · rw [outletData_of_stray (by rwa [hconfig])]
      rfl
    · rw [outletData_of_deck (by rwa [hconfig]), hconfig]
      rfl
  · exact exec_query_of_addressed tag_brings htag hb (answer := .busy) (tagAnswer_of_purge (by rwa [hms]))
  · exact exec_query_of_addressed cabin_brings hcabin hb (answer := .busy) (cabinAnswer_of_purge (by rwa [hms]))
  · exact exec_query_of_addressed tag_brings htag hb (answer := .refused) (tagAnswer_of_outside (by rwa [hms]) hout)
  · refine exec_query_of_addressed tag_brings htag hb (answer := .notFound) ?_
    rw [tagAnswer_eq (by rwa [hms]) hlow hhigh, hms, hnone]
    rfl
  · rw [← tagData_eq]
    refine exec_query_of_addressed tag_brings htag hb (answer := .done (tagData s.ms e)) ?_
    rw [tagAnswer_eq (by rwa [hms]) hlow hhigh, hms, he]
    rfl
  · rw [← argumentCabin_eq] at hout
    exact exec_query_of_addressed cabin_brings hcabin hb (answer := .refused) (cabinAnswer_of_outside (by rwa [hms]) hout)
  · refine exec_query_of_addressed cabin_brings hcabin hb (answer := .notFound) ?_
    rw [argumentCabin_eq, cabinAnswer_eq (by rwa [hms]) hlow hhigh, hms, hnone]
    rfl
  · rw [← cabinData_eq]
    refine exec_query_of_addressed cabin_brings hcabin hb (answer := .done (cabinData s.ms r)) ?_
    rw [argumentCabin_eq, cabinAnswer_eq (by rwa [hms]) hlow hhigh, hms, hr]
    rfl

end

section
/-! SUPPORT. The COUNTERS, STRAY-LOG and MAP queries (R201, R202): the groups that count what a list holds, the bytes of an entry, and
the change marks. -/

open Sys2Proof

namespace Sys2Proof.Machine

/-! ## COUNTERS (R201) -/

theorem TagReadPort.group_one (t : TagReadPort) : t.group 1 =
    [t.counters.rateMeasurements, t.counters.rateOverflows, t.counters.remeasurements,
      if t.rateState = .measuring then 1 else 0, if t.rateState = .measuring then 0 else BitVec.ofNat 32 t.divider,
      if t.rateOverflow then 1 else 0, BitVec.ofNat 32 t.framingRun, BitVec.ofNat 32 t.windows.length] := by
  cases h : t.rateState <;> simp [TagReadPort.group, TagReadPort.dividerInUse, h, rateStateCode, value, flagValue]

theorem ManifestStore.group_two (m : ManifestStore) : m.group 2 =
    [m.counters.sweepRemovals, m.counters.purgesCompleted, m.counters.holdOverruns, m.counters.heldDiscarded,
      BitVec.ofNat 32 m.table.length, BitVec.ofNat 32 (m.table.filter fun e => e.placement == .unplaced).length,
      BitVec.ofNat 32 m.cabins.length, BitVec.ofNat 32 m.map.length] := by
  rw [ManifestStore.group, unplacedCount, List.countP_eq_length_filter]
  rfl

theorem DivertController.group_zero (d : DivertController) : d.group 0 =
    [d.counters.commitments, d.counters.fires, d.counters.pusherBusy, d.counters.dropped, d.counters.deliveries,
      d.counters.misses, BitVec.ofNat 32 (d.commitments.filter fun c => c.phase == .armed).length,
      BitVec.ofNat 32 (d.commitments.filter fun c => c.phase == .fired).length] := by
  rw [DivertController.group, List.countP_eq_length_filter, List.countP_eq_length_filter]
  rfl

theorem DivertController.strokesRunning_eq (d : DivertController) :
    d.strokesRunning = ([d.strokes.o1, d.strokes.o2, d.strokes.o3, d.strokes.o4].filter Option.isSome).length :=
  calc d.strokesRunning
    _ = (OutletNo.all.map d.strokes.get).countP Option.isSome := (List.countP_map (p := Option.isSome) (f := d.strokes.get)).symm
    _ = _ := List.countP_eq_length_filter

theorem DivertController.group_one (d : DivertController) : d.group 1 =
    [d.counters.evaluations, d.counters.strayDeliveries, d.counters.unsolicited, d.counters.noLengthAtArm,
      d.counters.deferrals, d.counters.leadClamped,
      BitVec.ofNat 32 ([d.strokes.o1, d.strokes.o2, d.strokes.o3, d.strokes.o4].filter Option.isSome).length, 0] := by
  rw [DivertController.group, DivertController.strokesRunning_eq]
  rfl

theorem StrayUnit.group_two (u : StrayUnit) : u.group 2 =
    [u.counters.endedUnclaimed, u.counters.reportsNotLogged, u.counters.callsTaken, u.counters.callsRefused,
      u.counters.claimsQueued, BitVec.ofNat 32 u.ring.length, BitVec.ofNat 32 u.nextSequence.toNat,
      BitVec.ofNat 32 (u.ring.filter fun e => e.window == .running).length] := by
  rw [StrayUnit.group, List.countP_eq_length_filter]
  rfl

section
variable {s : State} {rx : Rx} {a : BitVec 40}

/-- R201: there are eight blocks. -/
theorem State.group_of_outside {block : Nat} (h : 7 < block) (group : Nat) : s.group block group = none := by
  obtain ⟨k, rfl⟩ := Nat.exists_eq_add_of_le' h
  rfl

theorem countersAnswer_of_outside {block group : Nat} (h : 7 < block ∨ 3 < group) : countersAnswer block group s = .refused := by
  rcases h with hblock | hgroup
  · rw [countersAnswer, State.group_of_outside hblock]
    split <;> rfl
  · exact if_pos hgroup

theorem countersAnswer_of_group {block group : Nat} {values : List Counter} (h : group ≤ 3)
    (hvalues : s.group block group = some values) : countersAnswer block group s = .counters values := by
  rw [countersAnswer, if_neg (Nat.not_lt.mpr h), hvalues]

theorem counters_brings : Instr.brings (.counters rx a) rx 2 a (countersAnswer (argumentHigh a) (argumentLow a)) := fun _ => rfl

/-! ## Cursors and change marks (R202, R204) -/

theorem bytes1_nextCursor (cursor held : Nat) :
    bytes1 (nextCursor cursor held) = [if cursor + 1 < held then BitVec.ofNat 8 (cursor + 1) else 0xFF] := by
  unfold nextCursor
  split <;> rfl

section
variable {cursor part : Nat} {answer : Answer} {data : List Byte}

theorem exec_strayLog_of_broadcast (h : s.delivers classQuery rx (6 :: argumentBytes a)) (hb : broadcast rx = true) :
    exec (.strayLog rx a) s = .next { s.takenAwake rx with nc := { s.nc with
      counters := { s.nc.counters with queriesDiscarded := s.nc.counters.queriesDiscarded + 1 } } } := by
  refine congrArg Host.Outcome.next ((State.receive_of_delivers h _).trans ?_)
  rw [State.takeLogQuery, if_neg fun hall => Bool.false_ne_true (hall.1.symm.trans hb), State.takeQuery_of_broadcast hb]

theorem exec_map_of_broadcast (h : s.delivers classQuery rx (7 :: argumentBytes a)) (hb : broadcast rx = true) :
    exec (.map rx a) s = .next { s.takenAwake rx with nc := { s.nc with
      counters := { s.nc.counters with queriesDiscarded := s.nc.counters.queriesDiscarded + 1 } } } := by
  refine congrArg Host.Outcome.next ((State.receive_of_delivers h _).trans ?_)
  rw [State.takeMapQuery, if_neg fun hall => Bool.false_ne_true (hall.1.symm.trans hb), State.takeQuery_of_broadcast hb]

/-- R202: what the answer reads is the same before and after a waking. -/
theorem strayLogAnswer_takenAwake (cursor part : Nat) (s : State) (rx : Rx) :
    strayLogAnswer cursor part (s.takenAwake rx) = strayLogAnswer cursor part s := by
  obtain ⟨hconfig, -, hsu, hmark, -⟩ := s.takenAwake_stores rx
  simp [strayLogAnswer, hconfig, hsu, hmark]

theorem strayLogAnswer_takeTelegram (cursor part : Nat) (s : State) (rx : Rx) :
    strayLogAnswer cursor part (s.takeTelegram rx) = strayLogAnswer cursor part s := rfl

theorem mapAnswer_takenAwake (cursor : Nat) (s : State) (rx : Rx) :
    mapAnswer cursor (s.takenAwake rx) = mapAnswer cursor s := by
  obtain ⟨-, hms, -, -, hmark⟩ := s.takenAwake_stores rx
  simp [mapAnswer, hms, hmark]

theorem mapAnswer_takeTelegram (cursor : Nat) (s : State) (rx : Rx) :
    mapAnswer cursor (s.takeTelegram rx) = mapAnswer cursor s := rfl

/-- R202: a STRAY-LOG query that is not answered DONE, or not at the start of the walk, leaves the change mark. -/
theorem exec_strayLog_of_kept (h : s.delivers classQuery rx (6 :: argumentBytes a)) (hb : broadcast rx = false)
    (hanswer : strayLogAnswer (argumentHigh a) (argumentLow a) s = answer)
    (hkept : ¬(argumentHigh a = 0 ∧ argumentLow a = 0 ∧ answer.isDone = true)) :
    exec (.strayLog rx a) s = .next ((s.takenAwake rx).replied rx (answer.body 6) (decide (answer = .refused))) := by
  refine congrArg Host.Outcome.next ((State.receive_of_delivers h _).trans ?_)
  rw [State.takeLogQuery, strayLogAnswer_takeTelegram, hanswer, if_neg fun hall => hkept hall.2, State.takeQuery_of_addressed hb,
    strayLogAnswer_takenAwake, hanswer]
  rfl

/-- R202: a DONE reply to a STRAY-LOG query; at the start of the walk it clears the change mark. -/
theorem exec_strayLog_of_done (h : s.delivers classQuery rx (6 :: argumentBytes a)) (hb : broadcast rx = false)
    (hanswer : strayLogAnswer (argumentHigh a) (argumentLow a) s = .done data) :
    exec (.strayLog rx a) s = .next { (s.takenAwake rx).replied rx (.reply 6 .done data) false with
      nc := { ((s.takenAwake rx).replied rx (.reply 6 .done []) false).nc with
        logMark := s.nc.logMark && !(argumentHigh a == 0 && argumentLow a == 0) } } := by
  by_cases hstart : argumentHigh a = 0 ∧ argumentLow a = 0
  · refine congrArg Host.Outcome.next ((State.receive_of_delivers h _).trans ?_)
    rw [State.takeLogQuery, strayLogAnswer_takeTelegram, hanswer, if_pos ⟨hb, hstart.1, hstart.2, rfl⟩,
      State.takeQuery_of_addressed hb, strayLogAnswer_takenAwake, hanswer, hstart.1, hstart.2, beq_self_eq_true, Bool.and_self,
      Bool.not_true, Bool.and_false]
    rfl
  · obtain ⟨-, -, -, hmark, -⟩ := s.takenAwake_stores rx
    have hnot : (argumentHigh a == 0 && argumentLow a == 0) = false := by simpa using hstart
    rw [exec_strayLog_of_kept h hb hanswer fun hall => hstart ⟨hall.1, hall.2.1⟩, hnot, Bool.not_false, Bool.and_true, ← hmark]
    rfl

/-- R202: a MAP query that is not answered DONE, or not at the start of the walk, leaves the change mark. -/
theorem exec_map_of_kept (h : s.delivers classQuery rx (7 :: argumentBytes a)) (hb : broadcast rx = false)
    (hanswer : mapAnswer (argumentLow a) s = answer) (hkept : ¬(argumentLow a = 0 ∧ answer.isDone = true)) :
    exec (.map rx a) s = .next ((s.takenAwake rx).replied rx (answer.body 7) (decide (answer = .refused))) := by
  refine congrArg Host.Outcome.next ((State.receive_of_delivers h _).trans ?_)
  rw [State.takeMapQuery, mapAnswer_takeTelegram, hanswer, if_neg fun hall => hkept hall.2, State.takeQuery_of_addressed hb,
    mapAnswer_takenAwake, hanswer]
  rfl

/-- R202: a DONE reply to a MAP query; at the start of the walk it clears the change mark. -/
theorem exec_map_of_done (h : s.delivers classQuery rx (7 :: argumentBytes a)) (hb : broadcast rx = false)
    (hanswer : mapAnswer (argumentLow a) s = .done data) :
    exec (.map rx a) s = .next { (s.takenAwake rx).replied rx (.reply 7 .done data) false with
      nc := { ((s.takenAwake rx).replied rx (.reply 7 .done data) false).nc with
        mapMark := s.nc.mapMark && !(argumentLow a == 0) } } := by
  by_cases hstart : argumentLow a = 0
  · refine congrArg Host.Outcome.next ((State.receive_of_delivers h _).trans ?_)
    rw [State.takeMapQuery, mapAnswer_takeTelegram, hanswer, if_pos ⟨hb, hstart, rfl⟩, State.takeQuery_of_addressed hb,
      mapAnswer_takenAwake, hanswer, hstart, beq_self_eq_true, Bool.not_true, Bool.and_false]
    rfl
  · obtain ⟨-, -, -, -, hmark⟩ := s.takenAwake_stores rx
    rw [exec_map_of_kept h hb hanswer fun hall => hstart hall.1, beq_eq_false_iff_ne.mpr hstart, Bool.not_false, Bool.and_true,
      ← hmark]
    rfl

/-! ## The answers to STRAY-LOG and MAP (R202) -/

theorem strayLogAnswer_of_outside (h : 63 < cursor ∨ 3 < part) : strayLogAnswer cursor part s = .refused := if_pos h

theorem strayLogAnswer_of_no_log (hcursor : cursor ≤ 63) (hpart : part ≤ 3) (hstray : s.config.isStrayNode = false) :
    strayLogAnswer cursor part s = .notFound := by
  rw [strayLogAnswer, if_neg (by omega), if_pos hstray]

section
variable (hcursor : cursor ≤ 63) (hpart : part ≤ 3) (hstray : s.config.isStrayNode = true)
include hcursor hpart hstray

theorem strayLogAnswer_at_end (hend : s.su.ring.length ≤ cursor) :
    strayLogAnswer cursor part s = .done [0xFF, if s.nc.logMark then 1 else 0] := by
  rw [strayLogAnswer, if_neg (by omega), if_neg (by simp [hstray]), List.getElem?_eq_none_iff.mpr hend]
  rfl

theorem strayLogAnswer_of_no_part {e : LogEntry} (he : s.su.ring[cursor]? = some e) (hdata : partData e part = none) :
    strayLogAnswer cursor part s = .notFound := by
  rw [strayLogAnswer, if_neg (by omega), if_neg (by simp [hstray]), he]
  simp only [hdata]

theorem strayLogAnswer_of_part {e : LogEntry} {bytes : List Byte} (he : s.su.ring[cursor]? = some e)
    (hdata : partData e part = some bytes) : strayLogAnswer cursor part s =
      .done ([if cursor + 1 < s.su.ring.length then BitVec.ofNat 8 (cursor + 1) else 0xFF, if s.nc.logMark then 1 else 0]
        ++ bytes) := by
  rw [strayLogAnswer, if_neg (by omega), if_neg (by simp [hstray]), he]
  simp only [hdata, bytes1_nextCursor]
  rfl

end

/-- R202: the claims of an entry are its parts from 1 on. -/
theorem partData_of_claim (e : LogEntry) (h : 1 ≤ part) : partData e part = e.claims[part - 1]?.map claimData := by
  obtain ⟨p, rfl⟩ := Nat.exists_eq_add_of_le' h
  rfl

/-- R202, R204: the bytes of an entry. -/
theorem entryData_eq (e : LogEntry) : entryData e =
    bytes2 e.sequence.toNat
      ++ (match e.kind with
        | .inChute reason => [1, BitVec.ofNat 8 e.tags.length] ++ e.tags.flatMap bytes5
            ++ [BitVec.ofNat 8 (reasonCode reason), BitVec.ofNat 8 (e.lap.getD 255)] ++ bytes2 (e.length.getD 0)
            ++ [0, 0, 0, 0, 0, 0]
        | .lost last reporter => [2, BitVec.ofNat 8 e.tags.length] ++ e.tags.flatMap bytes5
            ++ [9, BitVec.ofNat 8 (e.lap.getD 255)] ++ bytes2 (e.length.getD 0)
            ++ [BitVec.ofNat 8 last, BitVec.ofNat 8 reporter, 0, 0, 0, 0]
        | .misplaced reporter old cabin cause => [2, BitVec.ofNat 8 e.tags.length] ++ e.tags.flatMap bytes5
            ++ [10, BitVec.ofNat 8 (e.lap.getD 255)] ++ bytes2 (e.length.getD 0)
            ++ [0, BitVec.ofNat 8 reporter, BitVec.ofNat 8 old] ++ bytes2 (cabin.getD 0) ++ [BitVec.ofNat 8 (causeCode cause)])
      ++ [match e.window with
          | .none => 0
          | .running => 1
          | .ended => 2,
        match e.state with
          | .notAsked => 0
          | .opened => 1
          | .claimed => 2
          | .disputed => 3
          | .unclaimed => 4,
        BitVec.ofNat 8 e.claims.length] := by
  have hwindow : BitVec.ofNat 8 (windowCode e.window) =
      match e.window with
      | .none => 0
      | .running => 1
      | .ended => 2 := by
    cases e.window <;> rfl
  have hstate : BitVec.ofNat 8 (claimStateCode e.state) =
      match e.state with
      | .notAsked => 0
      | .opened => 1
      | .claimed => 2
      | .disputed => 3
      | .unclaimed => 4 := by
    cases e.state <;> rfl
  rw [← hwindow, ← hstate]
  cases h : e.kind <;> simp [entryData, h, LogKind.code, LogKind.reasonByte, LogKind.details, bytes1, bytes2]

theorem mapAnswer_of_purge (h : s.ms.purgeRunning = true) : mapAnswer cursor s = .busy := if_pos h

theorem mapAnswer_of_outside (h : s.ms.purgeRunning = false) (hcursor : 31 < cursor) : mapAnswer cursor s = .refused := by
  rw [mapAnswer, if_neg (Bool.eq_false_iff.mp h), if_pos hcursor]

/-- R202: the data of a DONE reply to a MAP query. -/
def State.mapData (s : State) (cursor : Nat) : List Byte :=
  (s.ms.map[cursor]?).elim [0xFF, if s.nc.mapMark then 1 else 0] fun r =>
    [if cursor + 1 < s.ms.map.length then BitVec.ofNat 8 (cursor + 1) else 0xFF, if s.nc.mapMark then 1 else 0] ++ rangeData r

theorem mapAnswer_eq (h : s.ms.purgeRunning = false) (hcursor : cursor ≤ 31) : mapAnswer cursor s = .done (s.mapData cursor) := by
  rw [mapAnswer, if_neg (Bool.eq_false_iff.mp h), if_neg (Nat.not_lt.mpr hcursor), State.mapData]
  cases s.ms.map[cursor]? with
  | none => rfl
  | some r =>
    simp only [bytes1_nextCursor]
    rfl

theorem rangeData_eq (r : MapRange) : rangeData r =
    bytes2 r.first ++ bytes2 r.last ++ [BitVec.ofNat 8 r.deck, if r.state = .clear then 1 else 2] := by
  cases h : r.state <;> simp [rangeData, h, rangeStateCode, bytes1]

end

end

end Sys2Proof.Machine

open Sys2Proof.Machine

/-- Settles O58: COUNTERS by its eight blocks, whose groups are lists of values; STRAY-LOG and MAP by the value of their answers, which
decides whether the change mark is cleared. -/
theorem countersLogAndMapAnswered : Obligations.CountersLogAndMapAnswered := by
  unfold Obligations.CountersLogAndMapAnswered
  rintro s u rx a hi lo hdelivers rfl hhi hlo
  obtain rfl : hi = argumentHigh a := hhi.trans (argumentHigh_eq a).symm
  obtain rfl : lo = argumentLow a := hlo.trans (argumentLow_eq a).symm
  clear hhi hlo
  simp only [List.forall_mem_cons] at hdelivers
  obtain ⟨hcounters, hstrayLog, hmapQuery, -⟩ := hdelivers
  refine ⟨fun hb => ?_, fun hb => ⟨fun hout => ?_, fun hblock hgroup n b hn hbit => ?_, fun hout => ?_,
    fun hcursor hpart => ⟨fun hstray => ?_, fun hstray => ⟨fun hend => ?_, fun e he =>
      ⟨fun hentry => ?_, fun hclaim hnone => ?_, fun c hclaim hc => ?_⟩⟩⟩,
    fun hpurge => ?_, fun hpurge hout => ?_, fun hpurge hcursor => ?_⟩⟩
  · simp only [List.forall_mem_cons]
    exact ⟨exec_query_of_broadcast counters_brings hcounters hb, exec_strayLog_of_broadcast hstrayLog hb,
      exec_map_of_broadcast hmapQuery hb, fun c hc => absurd hc List.not_mem_nil⟩
  · exact exec_query_of_addressed counters_brings hcounters hb (answer := .refused) (countersAnswer_of_outside hout)
  · subst hn hbit
    suffices hvalues : (s.takenAwake rx).group (argumentHigh a) (argumentLow a) = some _ from
      exec_query_of_addressed counters_brings hcounters hb (countersAnswer_of_group hgroup hvalues)
    generalize argumentHigh a = hi at *
    generalize argumentLow a = lo at *
    interval_cases hi
    · interval_cases lo <;> rfl
    · interval_cases lo
      exacts [rfl, congrArg some (TagReadPort.group_one _), rfl, rfl]
    · interval_cases lo
      exacts [rfl, rfl, congrArg some (ManifestStore.group_two _), rfl]
    · interval_cases lo
      exacts [congrArg some (DivertController.group_zero _), congrArg some (DivertController.group_one _), rfl, rfl]
    · interval_cases lo <;> rfl
    · interval_cases lo
      exacts [rfl, rfl, congrArg some (StrayUnit.group_two _), rfl]
    · interval_cases lo <;> rfl
    · interval_cases lo <;> rfl
  · exact exec_strayLog_of_kept hstrayLog hb (strayLogAnswer_of_outside hout) (by simp [Answer.isDone])
  · exact exec_strayLog_of_kept hstrayLog hb (strayLogAnswer_of_no_log hcursor hpart hstray) (by simp [Answer.isDone])
  · exact ⟨_, exec_strayLog_of_done hstrayLog hb (strayLogAnswer_at_end hcursor hpart hstray hend), rfl⟩
  · have hdata := (congrArg (partData e) hentry).trans (congrArg some (entryData_eq e))
    have hdone := exec_strayLog_of_done hstrayLog hb (strayLogAnswer_of_part hcursor hpart hstray he hdata)
    rw [hentry, beq_self_eq_true, Bool.and_true] at hdone
    exact ⟨_, hdone, rfl⟩
  · have hnopart : partData e (argumentLow a) = none := by
      rw [partData_of_claim e hclaim, List.getElem?_eq_none_iff.mpr (by omega)]
      rfl
    exact exec_strayLog_of_kept hstrayLog hb (strayLogAnswer_of_no_part hcursor hpart hstray he hnopart) (by simp [Answer.isDone])
  · have hdata : partData e (argumentLow a) = some (claimData c) := by
      rw [partData_of_claim e hclaim, hc]
      rfl
    exact exec_strayLog_of_kept hstrayLog hb (strayLogAnswer_of_part hcursor hpart hstray he hdata) (by omega)
  · exact exec_map_of_kept hmapQuery hb (mapAnswer_of_purge hpurge) (by simp [Answer.isDone])
  · exact exec_map_of_kept hmapQuery hb (mapAnswer_of_outside hpurge hout) (by simp [Answer.isDone])
  · refine ⟨_, exec_map_of_done hmapQuery hb (mapAnswer_eq hpurge hcursor), fun hend => ?_, fun r hr => ?_⟩
    · rw [State.mapData, List.getElem?_eq_none_iff.mpr hend]
      rfl
    · rw [State.mapData, hr, Option.elim_some, rangeData_eq]
      rfl

end
